-- ==== Sys2Proof/Word.lean ====
section
/-! DEFINITION. The words of the CN-20: bytes and half-words as the cabin link carries them, node-clock times,
station numbers, and one value per stage class. -/

namespace Sys2Proof

/-- A byte as the cabin link and the configuration memory carry it (R113, R162). -/
abbrev Byte := BitVec 8

/-- A time on the node clock, a 32-bit millisecond counter that wraps (00, section 2.1). -/
abbrev Time := BitVec 32

/-- A station number, 0..15 (00, section 3.1). -/
abbrev Station := Fin 16

/-- The node-clock time `ms` milliseconds after `t`, across a wrap. -/
def timeAfter (t : Time) (ms : Nat) : Time := t + BitVec.ofNat 32 ms

/-- The milliseconds from `t` to `now`, taken across a wrap of the node clock (R38, R101, R104). -/
def elapsed (now t : Time) : Nat := (now - t).toNat

/-- The four stage classes, in their order of precedence (00, section 3.4). -/
inductive Cls where
  | safety | curtain | zone | absorb
  deriving DecidableEq, Repr

/-- The classes in order of precedence. -/
def Cls.all : List Cls := [.safety, .curtain, .zone, .absorb]

/-- One value for each class. -/
structure PerClass (α : Type) where
  safety : α
  curtain : α
  zone : α
  absorb : α
  deriving DecidableEq, Repr

/-- The value held for class `c`. -/
def PerClass.get {α : Type} (p : PerClass α) : Cls → α
  | .safety => p.safety
  | .curtain => p.curtain
  | .zone => p.zone
  | .absorb => p.absorb

/-- `p` with the value of class `c` replaced. -/
def PerClass.set {α : Type} (p : PerClass α) (c : Cls) (v : α) : PerClass α :=
  match c with
  | .safety => { p with safety := v }
  | .curtain => { p with curtain := v }
  | .zone => { p with zone := v }
  | .absorb => { p with absorb := v }

/-- The same value in every class. -/
def PerClass.const {α : Type} (v : α) : PerClass α := ⟨v, v, v, v⟩

/-- `f` applied in every class. -/
def PerClass.map {α β : Type} (f : α → β) (p : PerClass α) : PerClass β :=
  ⟨f p.safety, f p.curtain, f p.zone, f p.absorb⟩

/-- `f` applied to the values of each class in turn. -/
def PerClass.map₂ {α β γ : Type} (f : α → β → γ) (p : PerClass α) (q : PerClass β) : PerClass γ :=
  ⟨f p.safety q.safety, f p.curtain q.curtain, f p.zone q.zone, f p.absorb q.absorb⟩

/-- The four values in class order. -/
def PerClass.toList {α : Type} (p : PerClass α) : List α := [p.safety, p.curtain, p.zone, p.absorb]

/-- The value a function of the class gives, held for each class. -/
def PerClass.ofFn {α : Type} (f : Cls → α) : PerClass α := ⟨f .safety, f .curtain, f .zone, f .absorb⟩

end Sys2Proof
end

