-- ==== Sys2Proof/Syntax.lean ====
section
/-! DEFINITION. The commands of the CN-20: one constructor of `Instr` per row of spec/opcode_table.json, with the
values each command brings from outside: pin levels, sensor replies, the bytes of the configuration memory and the
contents of the frames heard on the cabin link (payload layouts of R113). -/

namespace Sys2Proof

/-- One of the fans the blower supervisor may hold (R153). -/
inductive FanId where
  | zone (z : Fin 4)
  | curtain (d : Fin 3)
  | defrost
  deriving DecidableEq, Repr

/-- What a digital temperature sensor answers to one poll (R3): nothing, an answer that fails the sensor's own check,
or a temperature in deci-degrees. -/
inductive Reply where
  | silent
  | corrupt
  | answer (temperature : Int)
  deriving DecidableEq, Repr

/-- What the cab air sensor answers to one poll (R129): as `Reply`, with the relative humidity beside the
temperature. -/
inductive CabReply where
  | silent
  | corrupt
  | answer (temperature humidity : Int)
  deriving DecidableEq, Repr

/-- The replies of one scan round (R3, R96, R129). A sensor address that `zoneSensors` does not list is silent. -/
structure ScanReplies where
  zoneSensors : List (Byte × Reply)
  outside : Reply
  cabAir : CabReply
  screen : Reply
  deriving DecidableEq, Repr

/-- The levels of the input pins at one sample, 1 for high (R25; pin groups of 10, section 10.6). Bit k of `doors` is
door k, of `feedback` stage k. `keys` holds ECO, RECIRC, LAYOVER, VENT, DEFROST, CAR, WARMER, COOLER from bit 0 (R142).
`tachs` holds the zone fans, the curtain fans and the defrost fan from bit 0 (the order of the fans group, R162). -/
structure Pins where
  doors : BitVec 3
  keys : BitVec 8
  tachs : BitVec 8
  feedback : BitVec 44
  deriving DecidableEq, Repr

/-- The strap pins (R161). -/
structure StrapPins where
  station : Fin 16
  car : BitVec 2
  cab : Bool
  memory : Bool
  deriving DecidableEq, Repr

/-- A change of the damper encoder's phases (R158): one phase in the opening order, one phase in the closing order, or
both phases together. -/
inductive EncoderMove where
  | opening
  | closing
  | both
  deriving DecidableEq, Repr

/-- Payload of a PRESENCE frame (R113). -/
structure PresenceBody where
  cab : Bool
  car : BitVec 2
  zones : Byte
  doors : Byte
  quanta : Byte
  outside : BitVec 16
  deriving DecidableEq, Repr

/-- Payload of a DEMAND frame (R113). -/
structure DemandBody where
  claims : PerClass Byte
  intents : PerClass Byte
  draw : Byte
  deriving DecidableEq, Repr

/-- Payload of a POWER frame (R113). -/
structure PowerBody where
  line : Byte
  budget : Byte
  surplus : Byte
  deriving DecidableEq, Repr

/-- Payload of a DOOR frame (R113). -/
structure DoorBody where
  car : BitVec 4
  door : BitVec 4
  event : Byte
  weight : BitVec 16
  decay : Byte
  deriving DecidableEq, Repr

/-- Payload of an OVERRIDE frame (R113). -/
structure OverrideBody where
  flags : Byte
  offset0 : Byte
  offset1 : Byte
  offset2 : Byte
  layover : Byte
  boost : Byte
  deriving DecidableEq, Repr

/-- Payload of a STATUS frame (R113). -/
structure StatusBody where
  current : BitVec 16
  latched : BitVec 16
  deriving DecidableEq, Repr

/-- Payload of a PROBE frame (R113). -/
structure ProbeBody where
  target : Byte
  operation : Byte
  collection : Byte
  index : Byte
  deriving DecidableEq, Repr

/-- Payload of an ANSWER frame (R113): at most 20 bytes of entry fields. -/
structure AnswerBody where
  requester : Byte
  outcome : Byte
  collection : Byte
  index : Byte
  fields : List Byte
  deriving DecidableEq, Repr

/-- Payload of a CONTROL frame (R113). -/
structure ControlBody where
  target : Byte
  operation : Byte
  set : Byte
  clear : Byte
  deriving DecidableEq, Repr

/-- A frame of the cabin link less its source: the nine kinds of R113. -/
inductive Frame where
  | presence (b : PresenceBody)
  | demand (b : DemandBody)
  | power (b : PowerBody)
  | door (b : DoorBody)
  | override (b : OverrideBody)
  | status (b : StatusBody)
  | probe (b : ProbeBody)
  | answer (b : AnswerBody)
  | control (b : ControlBody)
  deriving DecidableEq, Repr

/-- How the receiver came to the end of a frame it was assembling (R115): a stop bit read dominant, the line went idle
for the idle gap, or all the bytes the length byte calls for are complete. -/
inductive Ending where
  | stopDominant
  | idle
  | complete
  deriving DecidableEq, Repr

/-- The bytes assembled for one frame and how its assembly ended (R115). -/
structure Reception where
  bytes : List Byte
  ending : Ending
  deriving DecidableEq, Repr

/-- The commands of the CN-20, one constructor per row of spec/opcode_table.json. The timer rows name the zone, door,
stage or fan whose timer expires; the frame rows carry the source station and the payload. -/
inductive Instr where
  | powerOnReset
  | imageReadDone (image : Option (List Byte))
  | imageReadTimeout
  | joinListenEnd
  | controlPeriodExpiry (zone : Fin 4)
  | sensorScan (replies : ScanReplies)
  | holdTimerExpiry (zone : Fin 4)
  | inputSample (pins : Pins)
  | stuckTimerExpiry (door : Fin 3)
  | layoverMarkExpiry (door : Fin 3)
  | runOnExpiry (door : Fin 3)
  | feedbackFault (stage : Fin 44)
  | pacingExpiry
  | sliceExpiry (stage : Fin 44)
  | tachWindowExpiry
  | startTimerExpiry (fan : FanId)
  | retryTimerExpiry (fan : FanId)
  | encoderStep (move : EncoderMove)
  | stallTimerExpiry
  | restTimerExpiry
  | defrostCheck
  | boostTimerExpiry
  | boostRemainingFall
  | louvreStep
  | layoverTimerExpiry
  | layoverMinutesFall
  | overrideSilenceExpiry
  | overrideHoldExpiry
  | ageingExpiry
  | agreementHoldExpiry
  | silenceExpiry
  | gapTimerExpiry
  | holdOffExpiry
  | txFailureExpiry
  | spacingExpiry
  | presenceTimerExpiry
  | overrideTimerExpiry
  | statusTimerExpiry
  | txAttemptStart (slots : Nat) (dominant : Bool)
  | collision
  | frameConfirmed
  | frameDiscard (reception : Reception)
  | errorWindowDeparture
  | powerFrame (source : Station) (body : PowerBody)
  | demandFrame (source : Station) (body : DemandBody)
  | presenceFrame (source : Station) (body : PresenceBody)
  | doorFrame (source : Station) (body : DoorBody)
  | overrideFrame (source : Station) (body : OverrideBody)
  | statusFrame (source : Station) (body : StatusBody)
  | answerFrame (source : Station) (body : AnswerBody)
  | probeSelect (source : Station) (target collection index : Byte)
  | probeNext (source : Station) (target collection index : Byte)
  | probePeek (source : Station) (target collection index : Byte)
  | probeClear (source : Station) (target collection index : Byte)
  | probeBadOperation (source : Station) (target operation collection index : Byte)
  | controlRestart (source : Station) (target set clear : Byte)
  | controlOvrMasks (source : Station) (target set clear : Byte)
  | controlBadOperation (source : Station) (target operation set clear : Byte)
  | resetPinRelease (pins : StrapPins)
  deriving DecidableEq, Repr

end Sys2Proof
end

