-- ==== Sys2Proof/Decode.lean ====
section
/-! DEFINITION. The frames of the cabin link as bytes: the check (R114), the header and payload layouts (R113), the
reception checks (R115), and the command that each valid frame is. `decodeTableWord` stands here too: the opcode
table gives no row any bits, so it reads no command from a word. -/

namespace Sys2Proof

/-! ### Fields of bytes -/

/-- A 16-bit quantity as two bytes, high byte first (R113). -/
def halfBytes (h : BitVec 16) : List Byte := [h.extractLsb' 8 8, h.extractLsb' 0 8]

/-- The 16-bit quantity of two bytes, high byte first (R113). -/
def halfOf (hi lo : Byte) : BitVec 16 := hi ++ lo

/-- One byte whose upper and lower 4 bits are given. -/
def nibbles (hi lo : BitVec 4) : Byte := hi ++ lo

/-- The upper 4 bits of a byte. -/
def upperNibble (b : Byte) : BitVec 4 := b.extractLsb' 4 4

/-- The lower 4 bits of a byte. -/
def lowerNibble (b : Byte) : BitVec 4 := b.extractLsb' 0 4

/-! ### The check -/

/-- The pattern x^12 + x^5 + 1 of R114. -/
def checkPattern : BitVec 16 := 0x1021#16

/-- The remainder after one incoming bit (R114). -/
def checkBit (r : BitVec 16) (b : Bool) : BitVec 16 :=
  if xor (r.getLsbD 15) b then (r <<< 1) ^^^ checkPattern else r <<< 1

/-- The bits of a byte, most significant first. -/
def byteBits (b : Byte) : List Bool :=
  [b.getLsbD 7, b.getLsbD 6, b.getLsbD 5, b.getLsbD 4, b.getLsbD 3, b.getLsbD 2, b.getLsbD 1, b.getLsbD 0]

/-- The remainder after one byte. -/
def checkByte (r : BitVec 16) (b : Byte) : BitVec 16 := (byteBits b).foldl checkBit r

/-- The 16-bit check over a list of bytes (R114), used by frames and by the configuration image (R162). -/
def checkOf (bytes : List Byte) : BitVec 16 := bytes.foldl checkByte 0xFFFF#16

/-! ### Payloads -/

/-- The kind code of a frame (R113). -/
def kindCode : Frame → BitVec 4
  | .presence _ => 1#4
  | .demand _ => 2#4
  | .power _ => 3#4
  | .door _ => 4#4
  | .override _ => 5#4
  | .status _ => 6#4
  | .probe _ => 7#4
  | .answer _ => 8#4
  | .control _ => 9#4

/-- PRESENCE payload byte 0: bit 7 the cab flag, bits 1..0 the car (R113). -/
def presenceByte0 (b : PresenceBody) : Byte := BitVec.ofBool b.cab ++ (0#5 ++ b.car)

/-- The payload bytes of a frame, in the layouts of R113. -/
def payloadBytes : Frame → List Byte
  | .presence b => [presenceByte0 b, b.zones, b.doors, b.quanta] ++ halfBytes b.outside
  | .demand b => b.claims.toList ++ b.intents.toList ++ [b.draw]
  | .power b => [b.line, b.budget, b.surplus]
  | .door b => [nibbles b.car b.door, b.event] ++ halfBytes b.weight ++ [b.decay]
  | .override b => [b.flags, b.offset0, b.offset1, b.offset2, b.layover, b.boost]
  | .status b => halfBytes b.current ++ halfBytes b.latched
  | .probe b => [b.target, b.operation, b.collection, b.index]
  | .answer b => [b.requester, b.outcome, b.collection, b.index] ++ b.fields
  | .control b => [b.target, b.operation, b.set, b.clear]

/-- The frame a payload of kind code `k` carries; none where the code is no kind or the length is not the length of
its kind (R113, R115). -/
def payloadFrame (k : Nat) (payload : List Byte) : Option Frame :=
  match k with
  | 1 => match payload with
    | [a, z, d, q, oh, ol] => some (.presence ⟨a.getLsbD 7, a.extractLsb' 0 2, z, d, q, halfOf oh ol⟩)
    | _ => none
  | 2 => match payload with
    | [c0, c1, c2, c3, i0, i1, i2, i3, dr] => some (.demand ⟨⟨c0, c1, c2, c3⟩, ⟨i0, i1, i2, i3⟩, dr⟩)
    | _ => none
  | 3 => match payload with
    | [l, b, r] => some (.power ⟨l, b, r⟩)
    | _ => none
  | 4 => match payload with
    | [cd, e, wh, wl, t] => some (.door ⟨upperNibble cd, lowerNibble cd, e, halfOf wh wl, t⟩)
    | _ => none
  | 5 => match payload with
    | [f, o0, o1, o2, l, b] => some (.override ⟨f, o0, o1, o2, l, b⟩)
    | _ => none
  | 6 => match payload with
    | [ch, cl, lh, ll] => some (.status ⟨halfOf ch cl, halfOf lh ll⟩)
    | _ => none
  | 7 => match payload with
    | [t, o, c, i] => some (.probe ⟨t, o, c, i⟩)
    | _ => none
  | 8 => match payload with
    | r :: o :: c :: i :: fields => if fields.length ≤ 20 then some (.answer ⟨r, o, c, i, fields⟩) else none
    | _ => none
  | 9 => match payload with
    | [t, o, s, c] => some (.control ⟨t, o, s, c⟩)
    | _ => none
  | _ => none

/-! ### Whole frames -/

/-- Header and payload: the bytes the check covers (R113, R114). -/
def frameBody (source : Station) (f : Frame) : List Byte :=
  nibbles (kindCode f) (BitVec.ofNat 4 source.val) :: BitVec.ofNat 8 (payloadBytes f).length :: payloadBytes f

/-- The bytes of a frame on the line (R113). -/
def encodeFrame (source : Station) (f : Frame) : List Byte :=
  frameBody source f ++ halfBytes (checkOf (frameBody source f))

/-- The frame that complete bytes carry, with its source; none where a test of R115 discards them: a length above 24
or unlike the kind's, a code that is no kind, a check that fails, or bytes cut short. -/
def decodeFrame (bytes : List Byte) : Option (Station × Frame) :=
  match bytes with
  | b0 :: b1 :: rest =>
    let n := b1.toNat
    let payload := rest.take n
    if n ≤ 24 ∧ rest.length = n + 2 ∧ rest.drop n = halfBytes (checkOf (b0 :: b1 :: payload)) then
      (payloadFrame (upperNibble b0).toNat payload).map (fun f => (Fin.ofNat 16 (lowerNibble b0).toNat, f))
    else none
  | _ => none

/-- The receiver discards what it assembled (R115): a stop bit read dominant, or bytes that carry no valid frame,
those cut short among them. -/
def Reception.isDiscard (r : Reception) : Bool :=
  r.ending == .stopDominant || (decodeFrame r.bytes).isNone

/-- The command that a valid frame is. PROBE and CONTROL frames are commands by their operation (R170, R174). -/
def commandOf (source : Station) : Frame → Instr
  | .presence b => .presenceFrame source b
  | .demand b => .demandFrame source b
  | .power b => .powerFrame source b
  | .door b => .doorFrame source b
  | .override b => .overrideFrame source b
  | .status b => .statusFrame source b
  | .answer b => .answerFrame source b
  | .probe b =>
    match b.operation.toNat with
    | 0 => .probeSelect source b.target b.collection b.index
    | 1 => .probeNext source b.target b.collection b.index
    | 2 => .probePeek source b.target b.collection b.index
    | 3 => .probeClear source b.target b.collection b.index
    | _ => .probeBadOperation source b.target b.operation b.collection b.index
  | .control b =>
    match b.operation.toNat with
    | 0 => .controlRestart source b.target b.set b.clear
    | 1 => .controlOvrMasks source b.target b.set b.clear
    | _ => .controlBadOperation source b.target b.operation b.set b.clear

/-- The frame, with its source, that a frame command takes; none for a command that is no frame. -/
def frameOf : Instr → Option (Station × Frame)
  | .presenceFrame s b => some (s, .presence b)
  | .demandFrame s b => some (s, .demand b)
  | .powerFrame s b => some (s, .power b)
  | .doorFrame s b => some (s, .door b)
  | .overrideFrame s b => some (s, .override b)
  | .statusFrame s b => some (s, .status b)
  | .answerFrame s b => some (s, .answer b)
  | .probeSelect s t c i => some (s, .probe ⟨t, 0#8, c, i⟩)
  | .probeNext s t c i => some (s, .probe ⟨t, 1#8, c, i⟩)
  | .probePeek s t c i => some (s, .probe ⟨t, 2#8, c, i⟩)
  | .probeClear s t c i => some (s, .probe ⟨t, 3#8, c, i⟩)
  | .probeBadOperation s t o c i => some (s, .probe ⟨t, o, c, i⟩)
  | .controlRestart s t a b => some (s, .control ⟨t, 0#8, a, b⟩)
  | .controlOvrMasks s t a b => some (s, .control ⟨t, 1#8, a, b⟩)
  | .controlBadOperation s t o a b => some (s, .control ⟨t, o, a, b⟩)
  | .powerOnReset => none
  | .imageReadDone _ => none
  | .imageReadTimeout => none
  | .joinListenEnd => none
  | .controlPeriodExpiry _ => none
  | .sensorScan _ => none
  | .holdTimerExpiry _ => none
  | .inputSample _ => none
  | .stuckTimerExpiry _ => none
  | .layoverMarkExpiry _ => none
  | .runOnExpiry _ => none
  | .feedbackFault _ => none
  | .pacingExpiry => none
  | .sliceExpiry _ => none
  | .tachWindowExpiry => none
  | .startTimerExpiry _ => none
  | .retryTimerExpiry _ => none
  | .encoderStep _ => none
  | .stallTimerExpiry => none
  | .restTimerExpiry => none
  | .defrostCheck => none
  | .boostTimerExpiry => none
  | .boostRemainingFall => none
  | .louvreStep => none
  | .layoverTimerExpiry => none
  | .layoverMinutesFall => none
  | .overrideSilenceExpiry => none
  | .overrideHoldExpiry => none
  | .ageingExpiry => none
  | .agreementHoldExpiry => none
  | .silenceExpiry => none
  | .gapTimerExpiry => none
  | .holdOffExpiry => none
  | .txFailureExpiry => none
  | .spacingExpiry => none
  | .presenceTimerExpiry => none
  | .overrideTimerExpiry => none
  | .statusTimerExpiry => none
  | .txAttemptStart _ _ => none
  | .collision => none
  | .frameConfirmed => none
  | .frameDiscard _ => none
  | .errorWindowDeparture => none
  | .resetPinRelease _ => none

/-- The command received as the complete bytes of one frame: the decoder of the cabin link. -/
def decodeCommand (bytes : List Byte) : Option Instr :=
  (decodeFrame bytes).map (fun p => commandOf p.1 p.2)

/-- The bytes on the line of a frame command; none for a command that is no frame. -/
def encodeCommand (i : Instr) : Option (List Byte) :=
  (frameOf i).map (fun p => encodeFrame p.1 p.2)

/-- The command a word spells by the opcode table's bits: the table gives no row bits, so no word spells one. -/
def decodeTableWord (_nbits _w : Nat) : Option Instr := none

end Sys2Proof
end

