-- ==== Sys2Proof/Config.lean ====
section
/-! DEFINITION. What one part is configured with (the groups of the configuration image, R162), and the values the
spec leaves open: opaque constants of which nothing can be proved but what their use bounds. -/

namespace Sys2Proof

/-- One zone of the zone table (R162). Temperatures in deci-degrees, the control period in seconds. -/
structure ZoneCfg where
  stages : Nat
  size : Nat
  base : Int
  kp : Nat
  ki : Nat
  kf : Nat
  period : Nat
  fallback : Nat
  sensor : Byte
  deriving DecidableEq, Repr

/-- One door of the door table (R162). `weights` holds the weights for zones 0 to 3, times are in seconds. -/
structure DoorCfg where
  weights : List Nat
  decay : Nat
  filter : Nat
  curtainStages : Nat
  curtainSize : Nat
  runOn : Nat
  deriving DecidableEq, Repr

/-- The cab group (R162). Boost time in seconds, layover limit in minutes. -/
structure CabCfg where
  nd : Nat
  nb : Nat
  size : Nat
  margin : Nat
  boost : Nat
  rest : Nat
  amplitude : Nat
  layover : Nat
  deriving DecidableEq, Repr

/-- A configuration: the groups of the configuration image (R162). `fanMin` holds eight minima in the order of the fans
group; `attenuation` one value per car; the rotation slice is in seconds. -/
structure Image where
  zones : List ZoneCfg
  doors : List DoorCfg
  attenuation : List Nat
  powerStation : Station
  slice : Nat
  fullCount : Nat
  deadband : Nat
  fNorm : Nat
  fMin : Nat
  fanMin : List Nat
  outsidePresent : Bool
  design : Int
  cab : CabCfg
  deriving DecidableEq, Repr

/-- The time fields of ANSWER entries (R172, R173) whose rounding to the field's unit the spec does not name. -/
inductive TimeField where
  | lastHeard | outsideAge | lastValid | energizedAge | sliceRemaining | openedAge | runOnRemaining
  | holdOffRemaining | gapRemaining | agreementRemaining
  deriving DecidableEq, Repr

/-- FREE VALUE (log 9). The offset of a zone's first control expiry after the reset that completes at a given time:
"an offset that is the zone's own, at some moment within one control period" (R2). -/
opaque Config.controlOffset : Nat → Time → Nat

/-- FREE VALUE (log 10). "The first zone-sensor address of the port" (R163). -/
opaque Config.firstZoneSensor : Byte

/-- FREE VALUE (log 11). Whether a time that is no whole number of a field's unit is rounded up (R171 names the unit,
not the rounding). -/
opaque Config.roundsUp : TimeField → Bool

end Sys2Proof
end

