-- ==== Sys2Proof/Machine/State.lean ====
section
/-! DEFINITION. The state of the CN-20, as plain data: one record per block, each with the fields the spec gives it,
and the queue of waiting commands. -/

namespace Sys2Proof.Machine

/-- A timer of a block: stopped, running to an expiry on the node clock, or standing expired (R69, R125). -/
inductive Timer where
  | stopped
  | running (expiry : Time)
  | expired
  deriving DecidableEq, Repr

/-- Where the node stands in a power-on reset (R164): the reset pin held, the image being read, or built and running. -/
inductive Phase where
  | held | loading | running
  deriving DecidableEq, Repr

/-- The straps as the loader took them (R161): the cab strap only where accepted. -/
structure Straps where
  station : Station
  car : Fin 3
  cab : Bool
  memory : Bool
  deriving DecidableEq, Repr

/-- An input filter (R25): the accepted level, absent until the first sample after a reset, and the run count. -/
structure Filter where
  level : Option Bool
  run : Nat
  deriving DecidableEq, Repr

/-! ### Zones and drafts (R1, R33) -/

/-- Origin of a draft record (R33). -/
inductive Origin where
  | loc | peer
  deriving DecidableEq, Repr

/-- State of a draft record (R33). -/
inductive DraftState where
  | opened | decay
  deriving DecidableEq, Repr

/-- A draft record (R33); the decay total is in units of 100 ms. -/
structure Draft where
  station : Station
  door : Fin 3
  origin : Origin
  weight : Nat
  state : DraftState
  total : Nat
  close : Option Time
  deriving DecidableEq, Repr

/-- State of a zone context (R1). -/
inductive ZoneState where
  | off | regulating | holding | fallback
  deriving DecidableEq, Repr

/-- A zone context (R1), with the zone's draft list (R33) and control-period timer (R2). -/
structure Zone where
  state : ZoneState
  measured : Option Int
  lastValid : Option Time
  badRun : Nat
  hold : Timer
  returnPending : Bool
  pendingOffset : Int
  activeOffset : Int
  setpoint : Int
  integral : Nat
  demand : Nat
  wanted : Nat
  avail : Nat
  offer : Nat
  limited : Bool
  drafts : List Draft
  control : Timer
  deriving DecidableEq, Repr

/-! ### Doors (R26) -/

/-- State of a door record (R26). -/
inductive DoorState where
  | closed | opened | stuck
  deriving DecidableEq, Repr

/-- State of a door's curtain (R26, R41). -/
inductive Curtain where
  | off | wanted | runOn | barred
  deriving DecidableEq, Repr

/-- A door record (R26) with its input filter (R25). -/
structure Door where
  state : DoorState
  openCount : Nat
  openedAt : Option Time
  stuck : Timer
  layoverMark : Timer
  curtain : Curtain
  runOn : Timer
  filter : Filter
  deriving DecidableEq, Repr

/-! ### Stages (R46) -/

/-- Owner of a stage (R46). -/
inductive Owner where
  | zone (z : Fin 4)
  | curtain (d : Fin 3)
  | defrost
  deriving DecidableEq, Repr

/-- State of a stage (R47). -/
inductive StageState where
  | idle | queued | energized | suspended | faulty
  deriving DecidableEq, Repr

/-- Contactor feedback of a stage (R62): AGREE, or DISAGREE with its expiry. -/
inductive Feedback where
  | agree
  | disagree (expiry : Timer)
  deriving DecidableEq, Repr

/-- A stage record (R46). `suspendedAt` is when its slice was frozen (R58, R60). -/
structure Stage where
  owner : Owner
  index : Nat
  size : Nat
  state : StageState
  cls : Option Cls
  since : Option Time
  sliceStart : Option Time
  slice : Timer
  suspendedAt : Option Time
  wear : Nat
  feedback : Feedback
  filter : Filter
  deriving DecidableEq, Repr

/-! ### The allocator (R67) -/

/-- Sharing state (R67). -/
inductive Sharing where
  | joining | active | gapHold | silent | muted | isolated
  deriving DecidableEq, Repr

/-- Line state taken (R67). -/
inductive Line where
  | none | live | gap | dead
  deriving DecidableEq, Repr

/-- The allocator's record (R67). -/
structure Alloc where
  sharing : Sharing
  line : Line
  budget : Nat
  surplus : Nat
  silence : Timer
  gap : Timer
  powerHeard : Bool
  demandConfirmed : Bool
  allocation : PerClass Nat
  announced : PerClass Nat
  usable : PerClass Nat
  raisePending : Bool
  holdOff : Timer
  deriving DecidableEq, Repr

/-! ### The peer view (R93) -/

/-- State of a view entry (R93). -/
inductive EntryState where
  | absent | alive | stale | lost
  deriving DecidableEq, Repr

/-- A view entry (R93). -/
structure Entry where
  state : EntryState
  car : Option (Fin 3)
  cab : Bool
  lastHeard : Option Time
  claims : PerClass Nat
  intents : PerClass Nat
  draw : Nat
  outside : Option Int
  outsideAt : Option Time
  deriving DecidableEq, Repr

/-- Source of the agreed outside temperature (R105). -/
inductive Source where
  | median | held | design
  deriving DecidableEq, Repr

/-- The view table, the outside agreement and the accepted cab station (R93, R96, R105, R106). -/
structure View where
  entries : Vector Entry 16
  outsideRun : Nat
  agreed : Int
  source : Source
  hold : Timer
  accepted : Option Station
  ageing : Timer
  deriving DecidableEq, Repr

/-! ### The link controller (R120) -/

/-- An entry of the transmit list (R120): its contents, the count of failed attempts, the backoff slots still to be
counted (R111), and whether the contents were replaced during the attempt in progress (R112). -/
structure TxEntry where
  frame : Frame
  failed : Nat
  backoff : Nat
  replaced : Bool
  deriving DecidableEq, Repr

/-- The attempt in progress (R109): the contents it carries, the bytes it sends, under the node's own station number (R113,
R161), and whether its entry was withdrawn meanwhile (R122). -/
structure Attempt where
  carried : Frame
  bytes : List Byte
  withdrawn : Bool
  deriving DecidableEq, Repr

/-- The link controller's record (chapter 6). -/
structure Link where
  list : List TxEntry
  attempt : Option Attempt
  failure : Timer
  spacing : Timer
  due : Bool
  presence : Timer
  override : Timer
  status : Timer
  window : List Time
  listen : Timer
  warmListen : Bool
  deriving DecidableEq, Repr

/-! ### Defrost (R128) -/

/-- Defrost state (R128). -/
inductive DefrostState where
  | off | demist | boost
  deriving DecidableEq, Repr

/-- Direction of the louvre sweep (R128). -/
inductive Direction where
  | up | down
  deriving DecidableEq, Repr

/-- The defrost record (R128). `boostLeft` is the boost remaining as last supplied and `boostFall` when it next falls
(R134). -/
structure Defrost where
  state : DefrostState
  cabTemp : Option Int
  humidity : Option Nat
  screen : Option Int
  cabRun : Nat
  screenRun : Nat
  dew : Option Int
  fogRisk : Bool
  clearCount : Nat
  boost : Timer
  boostLeft : Nat
  boostFall : Timer
  louvre : Nat
  direction : Direction
  louvreTimer : Timer
  check : Timer
  deriving DecidableEq, Repr

/-! ### Overrides (R141, R147) -/

/-- The five override flags (chapter 8). -/
structure Flags where
  eco : Bool
  ventOnly : Bool
  recirc : Bool
  layover : Bool
  boost : Bool
  deriving DecidableEq, Repr

/-- One setpoint offset per car (R141). -/
structure Offsets where
  car0 : Int
  car1 : Int
  car2 : Int
  deriving DecidableEq, Repr

/-- Car select (R141). -/
inductive CarSelect where
  | all | car0 | car1 | car2
  deriving DecidableEq, Repr

/-- The override word (R141). `layoverLeft` is the layover minutes remaining and `layoverFall` when it next falls
(R144). -/
structure OvrWord where
  flags : Flags
  offsets : Offsets
  select : CarSelect
  layover : Timer
  layoverLeft : Nat
  layoverFall : Timer
  deriving DecidableEq, Repr

/-- Mode of the state in use (R147). -/
inductive Mode where
  | default | own | following | holding
  deriving DecidableEq, Repr

/-- The override state in use (R147). -/
structure InUse where
  mode : Mode
  flags : Flags
  offsets : Offsets
  layover : Nat
  boost : Nat
  source : Option Station
  silence : Timer
  hold : Timer
  deriving DecidableEq, Repr

/-! ### Air movement (R153, R158) -/

/-- State of a blower (R153). -/
inductive BlowerState where
  | stopped | starting | running | failed
  deriving DecidableEq, Repr

/-- A blower record (R153) with its tachometer filter. The commanded level of a curtain or defrost fan is 0 for off and
1 for on. -/
structure Blower where
  fan : FanId
  state : BlowerState
  level : Nat
  demandLevel : Nat
  tach : Nat
  startedAt : Option Time
  start : Timer
  retry : Timer
  retrying : Bool
  filter : Filter
  deriving DecidableEq, Repr

/-- Damper state (R158). -/
inductive DamperState where
  | homing | tracking | stalled
  deriving DecidableEq, Repr

/-- Damper motor (R158). -/
inductive Motor where
  | stopped | opening | closing
  deriving DecidableEq, Repr

/-- The damper record (R158), with the door monitor's last answer whether a local door is open (R45). -/
structure Damper where
  state : DamperState
  position : Nat
  target : Nat
  motor : Motor
  stall : Timer
  rest : Timer
  lost : Bool
  doorOpen : Bool
  deriving DecidableEq, Repr

/-! ### Conditions and service (R167, R170) -/

/-- The sixteen conditions, in the order of their bits (R113, R167). -/
inductive Condition where
  | zoneSensor | outsideSensor | screenSensor | doorStuck | blowerFailed | stageFaulty | damperStalled | powerSilent
  | txFailed | duplicateStation | roleConflict | foreignPower | defrostShort | configDefaulted | linkOverrun | linkNoise
  deriving DecidableEq, Repr

/-- The condition record (R167): bit k of each field is the flag of the condition with bit number k (R113). -/
structure CondRecord where
  current : BitVec 16
  latched : BitVec 16
  deriving DecidableEq, Repr

/-- A collection the probe cursor can name (R170). -/
inductive Collection where
  | view | zones | drafts (z : Fin 4) | stages | queue | doors | conditions
  deriving DecidableEq, Repr

/-- The probe cursor (R170). -/
structure Cursor where
  collection : Option Collection
  index : Nat
  deriving DecidableEq, Repr

/-! ### Output pins (10, section 10.6) -/

/-- The pins the node drives: stage outputs by table index (R66), fan drives in the order of the fans group with their
level (R153), damper motor (R158), louvre position (R140) and lamps (R152). -/
structure Outputs where
  stages : List Bool
  fans : List Nat
  motor : Motor
  louvre : Nat
  lamps : Flags
  deriving DecidableEq, Repr

/-- Every flag clear. -/
def Flags.none : Flags := ⟨false, false, false, false, false⟩

/-- Every output off (R164); the louvre output carries position 0, on the cab node too (log 38). -/
def Outputs.off : Outputs := ⟨[], [], .stopped, 0, Flags.none⟩

/-- The state of the node. -/
structure State where
  pending : List Instr
  clock : Time
  phase : Phase
  loadLimit : Timer
  straps : Straps
  config : Image
  checksum : BitVec 16
  seq : BitVec 16
  scanTimer : Timer
  sampleTimer : Timer
  windowTimer : Timer
  zones : List Zone
  doors : List Door
  keys : List Filter
  stages : List Stage
  queue : PerClass (List Nat)
  pacing : Timer
  attemptDue : Bool
  alloc : Alloc
  view : View
  link : Link
  defrost : Option Defrost
  word : Option OvrWord
  inUse : InUse
  fans : List Blower
  damper : Damper
  cond : CondRecord
  cursor : Cursor
  outputs : Outputs
  deriving DecidableEq, Repr

/-- No step of the block ends in a fault: its faults are conditions, which are state (R167). The type has no
constructor, so none can be raised: safe. -/
inductive Fault where
  deriving DecidableEq, Repr

/-- Why a step gives a command no meaning. -/
inductive Refusal where
  /-- Raised by `exec` for a command whose meaning is not written yet; safe, since the model stops. No arm raises it
  now. -/
  | notModelled (mnemonic : String)
  deriving DecidableEq, Repr

/-! ### Values at reset -/

/-- A filter before its first sample (R25). -/
def Filter.fresh : Filter := ⟨none, 0⟩

/-- No configuration: what the node holds before the loader installs one (log 23). -/
def Image.blank : Image :=
  { zones := [], doors := [], attenuation := [], powerStation := 0, slice := 0, fullCount := 0, deadband := 0, fNorm := 0,
    fMin := 0, fanMin := [], outsidePresent := false, design := 0, cab := ⟨0, 0, 0, 0, 0, 0, 0, 0⟩ }

/-- The allocator's record after either reset, with its silence timer (R67). -/
def Alloc.fresh (silence : Timer) : Alloc :=
  { sharing := .joining, line := .none, budget := 0, surplus := 0, silence := silence, gap := .stopped,
    powerHeard := false, demandConfirmed := false, allocation := .const 0, announced := .const 0, usable := .const 0,
    raisePending := false, holdOff := .stopped }

/-- An ABSENT entry (R93). -/
def Entry.absent : Entry :=
  { state := .absent, car := none, cab := false, lastHeard := none, claims := .const 0, intents := .const 0,
    draw := 0, outside := none, outsideAt := none }

/-- The own entry after a reset (R95). -/
def Entry.own (straps : Straps) : Entry :=
  { Entry.absent with state := .alive, car := some straps.car, cab := straps.cab }

/-- The view after either reset (R94). -/
def View.fresh (straps : Straps) (design : Int) (ageing : Timer) : View :=
  { entries := (Vector.replicate 16 Entry.absent).set straps.station.val (Entry.own straps) straps.station.isLt
    outsideRun := 0, agreed := design, source := .design, hold := .stopped,
    accepted := if straps.cab then some straps.station else none, ageing := ageing }

/-- The link controller after either reset, with its join listen (R120, R123 to R125, R166). -/
def Link.fresh (listen : Timer) (warm : Bool) : Link :=
  { list := [], attempt := none, failure := .stopped, spacing := .stopped, due := false, presence := .stopped,
    override := .stopped, status := .stopped, window := [], listen := listen, warmListen := warm }

/-- The defrost record after either reset, with its check timer (R128). -/
def Defrost.fresh (check : Timer) : Defrost :=
  { state := .off, cabTemp := none, humidity := none, screen := none, cabRun := 0, screenRun := 0, dew := none,
    fogRisk := false, clearCount := 0, boost := .stopped, boostLeft := 0, boostFall := .stopped, louvre := 0,
    direction := .up, louvreTimer := .stopped, check := check }

/-- The default override word (R141). -/
def OvrWord.fresh : OvrWord :=
  { flags := .none, offsets := ⟨0, 0, 0⟩, select := .all, layover := .stopped, layoverLeft := 0,
    layoverFall := .stopped }

/-- The default state in use, in the mode and with the source it has after a reset (R147, R150). -/
def InUse.fresh (own : Option Station) : InUse :=
  { mode := if own.isSome then .own else .default, flags := .none, offsets := ⟨0, 0, 0⟩, layover := 0, boost := 0,
    source := own, silence := .stopped, hold := .stopped }

/-- A blower record after either reset (R153). -/
def Blower.fresh (fan : FanId) : Blower :=
  { fan := fan, state := .stopped, level := 0, demandLevel := 1, tach := 0, startedAt := none, start := .stopped,
    retry := .stopped, retrying := false, filter := .fresh }

/-- The node right after a power-on reset has begun (R164): the reset pin held, every output off, nothing read or built
yet. The values the spec does not give are those of log 2 and log 23. -/
def State.reset : State :=
  { pending := []
    clock := 0
    phase := .held
    loadLimit := .stopped
    straps := ⟨0, 0, false, false⟩
    config := Image.blank
    checksum := 0
    seq := 1
    scanTimer := .stopped
    sampleTimer := .stopped
    windowTimer := .stopped
    zones := []
    doors := []
    keys := []
    stages := []
    queue := .const []
    pacing := .stopped
    attemptDue := false
    alloc := Alloc.fresh .stopped
    view := View.fresh ⟨0, 0, false, false⟩ 0 .stopped
    link := Link.fresh .stopped false
    defrost := none
    word := none
    inUse := InUse.fresh none
    fans := []
    damper := ⟨.homing, 0, 0, .stopped, .stopped, .stopped, false, false⟩
    cond := ⟨0, 0⟩
    cursor := ⟨none, 0⟩
    outputs := .off }

end Sys2Proof.Machine
end

