-- ==== Sys2Proof/Machine/Ops.lean ====
section
/-! DEFINITION. Operations every block uses: timers on the node clock, looking up the records of zones, doors, stages and
fans, the sequence generator (R126), and the order "energized-since, earliest first" (R48). -/

namespace Sys2Proof.Machine

/-! ### Arithmetic (00, section 3.2) -/

/-- clamp of 00, section 3.2. -/
def clampInt (lo hi x : Int) : Int := if x < lo then lo else if hi < x then hi else x

/-- clamp of a natural number from above. -/
def capNat (hi x : Nat) : Nat := if hi < x then hi else x

/-- ceil of a quotient by a positive number (00, section 3.2). -/
def ceilDiv (x d : Nat) : Nat := (x + (d - 1)) / d

/-- floor of a quotient by a positive integer: Lean's integer division rounds so for a positive divisor. -/
def floorDivInt (x d : Int) : Int := x / d

/-- ceil of a quotient by a positive integer. -/
def ceilDivInt (x d : Int) : Int := -((-x) / d)

/-! ### Times and timers (00, section 3.3) -/

/-- The clock has reached `t`: the difference taken across a wrap. -/
def reached (now t : Time) : Bool := decide (elapsed now t < 2 ^ 31)

/-- The clock has reached a running timer's expiry. -/
def Timer.isDue (now : Time) : Timer → Bool
  | .running e => reached now e
  | .stopped => false
  | .expired => false

/-- The later of the clock and an expiry: taking an expiry moves the clock to it (log 4). -/
def advanceTo (e : Time) (s : State) : State := if reached s.clock e then s else { s with clock := e }

/-- A timer started now with an expiry `ms` later. -/
def State.timer (s : State) (ms : Nat) : Timer := .running (timeAfter s.clock ms)

/-- The timer is running. -/
def Timer.isRunning : Timer → Bool
  | .running _ => true
  | _ => false

/-- The timer stands expired (R69, R125). -/
def Timer.isExpired : Timer → Bool
  | .expired => true
  | _ => false

/-- The milliseconds left of a timer; 0 where it is not running or its expiry is reached (R173). -/
def Timer.left (now : Time) : Timer → Nat
  | .running e => if reached now e then 0 else elapsed e now
  | _ => 0

/-- The join listen is in progress (R166). -/
def State.listening (s : State) : Bool := s.link.listen.isRunning

/-! ### Records by number -/

/-- The zone context of zone `z`, where the node has that zone. -/
def State.zone? (s : State) (z : Fin 4) : Option Zone := s.zones[z.val]?

/-- The zone table's row of zone `z`. -/
def State.zoneCfg? (s : State) (z : Fin 4) : Option ZoneCfg := s.config.zones[z.val]?

/-- The state with zone `z`'s context changed by `g`. -/
def State.modZone (s : State) (z : Fin 4) (g : Zone → Zone) : State := { s with zones := s.zones.modify z.val g }

/-- The door record of door `d`, where the node has that door. -/
def State.door? (s : State) (d : Fin 3) : Option Door := s.doors[d.val]?

/-- The door table's row of door `d`. -/
def State.doorCfg? (s : State) (d : Fin 3) : Option DoorCfg := s.config.doors[d.val]?

/-- The state with door `d`'s record changed by `g`. -/
def State.modDoor (s : State) (d : Fin 3) (g : Door → Door) : State := { s with doors := s.doors.modify d.val g }

/-- The blower record of a fan, where the node has that fan (R153). -/
def State.fan? (s : State) (f : FanId) : Option Blower := s.fans.find? (fun b => b.fan == f)

/-- The state with a fan's record changed by `g`. -/
def State.modFan (s : State) (f : FanId) (g : Blower → Blower) : State :=
  { s with fans := s.fans.map (fun b => if b.fan = f then g b else b) }

/-- The fan is RUNNING (R54, R17). -/
def State.fanRunning (s : State) (f : FanId) : Bool :=
  match s.fan? f with
  | some b => b.state == .running
  | none => false

/-- The state with the defrost record, where the node has one, changed by `g`. -/
def State.modDefrost (s : State) (g : Defrost → Defrost) : State := { s with defrost := s.defrost.map g }

/-- The state with the override word, where the node has one, changed by `g`. -/
def State.modWord (s : State) (g : OvrWord → OvrWord) : State := { s with word := s.word.map g }

/-- The view entry of a station (R93). -/
def State.entry (s : State) (i : Station) : Entry := s.view.entries[i.val]

/-- The state with a station's view entry changed by `g`. -/
def State.modEntry (s : State) (i : Station) (g : Entry → Entry) : State :=
  { s with view := { s.view with entries := s.view.entries.set i.val (g (s.entry i)) i.isLt } }

/-- The node's own view entry (R95). -/
def State.ownEntry (s : State) : Entry := s.entry s.straps.station

/-- The adopted offset of the node's own car (R151). -/
def Offsets.ofCar (o : Offsets) (car : Fin 3) : Int :=
  match car with
  | 0 => o.car0
  | 1 => o.car1
  | 2 => o.car2

/-! ### The sequence generator -/

/-- One step of the generator (R126): positions 16, 14, 13 and 11 are bits 15, 13, 12 and 10. -/
def seqStep (v : BitVec 16) : BitVec 16 :=
  let feedback := xor (xor (v.getLsbD 15) (v.getLsbD 13)) (xor (v.getLsbD 12) (v.getLsbD 10))
  (v <<< 1) ||| BitVec.ofNat 16 feedback.toNat

/-- The state after one draw; the draw is read from the low bits of the stepped value (R126). -/
def State.draw (s : State) : State := { s with seq := seqStep s.seq }

/-- The pacing draw: the low 4 bits (R126). -/
def pacingDraw (v : BitVec 16) : Nat := v.toNat % 16

/-- The backoff draw: the low 5 bits (R126). -/
def backoffDraw (v : BitVec 16) : Nat := v.toNat % 32

/-- The seed from station number and configuration checksum (R127). -/
def seedOf (station : Station) (checksum : BitVec 16) : BitVec 16 :=
  let seed := BitVec.ofNat 16 (station.val * 2417 + checksum.toNat)
  if seed = 0#16 then 1#16 else seed

/-! ### Order by energized-since (R48, R52, R54, R57) -/

/-- A stage with energized-since `a` stands ahead of, or level with, one with `b`: earliest first, none last. -/
def sinceLe (now : Time) (a b : Option Time) : Bool :=
  match a, b with
  | _, none => true
  | none, some _ => false
  | some ta, some tb => decide (elapsed now tb ≤ elapsed now ta)

/-- Insert a stage number into a list ordered by `key`, ahead of those it precedes or equals. -/
def insertBySince (now : Time) (key : Nat → Option Time) (i : Nat) : List Nat → List Nat
  | [] => [i]
  | j :: rest => if sinceLe now (key i) (key j) then i :: j :: rest else j :: insertBySince now key i rest

/-- Stage numbers in order of energized-since, earliest first. The numbers come in table order, so ties go to the lower
table index (R48). -/
def sortBySince (now : Time) (key : Nat → Option Time) : List Nat → List Nat
  | [] => []
  | i :: rest => insertBySince now key i (sortBySince now key rest)

end Sys2Proof.Machine
end

