-- ==== Sys2Proof/Machine/Operands.lean ====
section
/-! DEFINITION. How the blocks read the values a command brings: sensor replies (R3, R129), pin levels (R25), frame fields
in and out of their ranges (R34, R68, R99, R148, R162), and which pin serves which record (R46, R153, R162). -/

namespace Sys2Proof

namespace Machine

/-! ### Sensors -/

/-- A temperature lies in the sensor range −400..+850 (R3). -/
def inSensorRange (t : Int) : Bool := decide (-400 ≤ t ∧ t ≤ 850)

end Machine

open Machine

/-- The outcome of a scan (R3): the reading of a valid scan, none of a bad one. -/
def Reply.reading : Reply → Option Int
  | .answer t => if inSensorRange t then some t else none
  | _ => none

/-- The outcome of a cab air scan (R129): temperature, and humidity clamped to 0..1000. -/
def CabReply.reading : CabReply → Option (Int × Nat)
  | .answer t h => if inSensorRange t then some (t, (clampInt 0 1000 h).toNat) else none
  | _ => none

/-- The reply of the zone sensor at an address; an address without a reply is silent (R3). -/
def ScanReplies.replyAt (r : ScanReplies) (address : Byte) : Reply :=
  match r.zoneSensors.find? (fun p => p.1 == address) with
  | some p => p.2
  | none => .silent

namespace Machine

/-- A temperature carried as a signed 16-bit value (R113), absent where it lies outside the range (R99). -/
def outsideOf (w : BitVec 16) : Option Int := if inSensorRange w.toInt then some w.toInt else none

/-! ### Cars, doors and stations named in frames -/

/-- The car a PRESENCE frame names; none above 2 (R99). -/
def carOf (c : BitVec 2) : Option (Fin 3) := if h : c.toNat < 3 then some ⟨c.toNat, h⟩ else none

/-- The car and door index a DOOR frame names; none where either is above 2 (R34). -/
def doorIdOf (b : DoorBody) : Option (Fin 3 × Fin 3) :=
  if hc : b.car.toNat < 3 then if hd : b.door.toNat < 3 then some (⟨b.car.toNat, hc⟩, ⟨b.door.toNat, hd⟩) else none
  else none

/-- The target of a PROBE or CONTROL frame is the station (R170, R174). -/
def isTarget (target : Byte) (own : Station) : Bool := target.toNat == own.val

/-- The line state a POWER frame carries; none for a value above 2 (R68, R113). -/
def lineOf (b : Byte) : Option Line :=
  match b.toNat with
  | 0 => some .live
  | 1 => some .gap
  | 2 => some .dead
  | _ => none

/-! ### OVERRIDE contents -/

/-- An offset carried in an OVERRIDE frame: clamped to −30..+30, then to the multiple of 5 nearer zero (R148). -/
def offsetOf (b : Byte) : Int := (clampInt (-30) 30 b.toInt).tdiv 5 * 5

/-- Layover minutes as carried up to 60 (R148). -/
def layoverOf (b : Byte) : Nat := capNat 60 b.toNat

/-- Boost remaining as carried up to 120 (R148). -/
def boostOf (b : Byte) : Nat := capNat 120 b.toNat

/-! ### Pins -/

end Machine

/-- The number of a fan's drive output, tachometer input and minimum: zone fans 0 to 3, curtain fans, defrost fan
(the order of the fans group, R162). -/
def FanId.pin : FanId → Nat
  | .zone z => z.val
  | .curtain d => 4 + d.val
  | .defrost => 7

/-- The minimum count of tach pulses per window of a fan (R153, R162). -/
def Image.fanMinOf (c : Image) (f : FanId) : Nat := c.fanMin.getD f.pin 0

namespace Machine

/-- The fan that serves an owner's stages (R46). -/
def Owner.fan : Owner → FanId
  | .zone z => .zone z
  | .curtain d => .curtain d
  | .defrost => .defrost

/-- One sample of an input filter of length `n` (R25): the filter after it, and the level of an accepted change if the
sample makes one. The first sample sets the level without a change. -/
def Filter.sample (f : Filter) (n : Nat) (level : Bool) : Filter × Option Bool :=
  match f.level with
  | none => (⟨some level, 0⟩, none)
  | some a =>
    if a = level then (⟨some a, 0⟩, none)
    else if n ≤ f.run + 1 then (⟨some level, 0⟩, some level)
    else (⟨some a, f.run + 1⟩, none)

end Machine

end Sys2Proof
end

