-- ==== Sys2Proof/Machine/Flags.lean ====
section
/-! DEFINITION. Flag computations: the bits of the condition record (R113, R167), the override flags as a byte (R113) and
set and clear masks (R145). -/

namespace Sys2Proof.Machine

/-! ### Condition bits -/

/-- The bit number of a condition in STATUS flags (R113). -/
def Condition.bit : Condition → Nat
  | .zoneSensor => 0
  | .outsideSensor => 1
  | .screenSensor => 2
  | .doorStuck => 3
  | .blowerFailed => 4
  | .stageFaulty => 5
  | .damperStalled => 6
  | .powerSilent => 7
  | .txFailed => 8
  | .duplicateStation => 9
  | .roleConflict => 10
  | .foreignPower => 11
  | .defrostShort => 12
  | .configDefaulted => 13
  | .linkOverrun => 14
  | .linkNoise => 15

/-- Every condition, by bit number. -/
def Condition.all : List Condition :=
  [.zoneSensor, .outsideSensor, .screenSensor, .doorStuck, .blowerFailed, .stageFaulty, .damperStalled, .powerSilent,
    .txFailed, .duplicateStation, .roleConflict, .foreignPower, .defrostShort, .configDefaulted, .linkOverrun,
    .linkNoise]

/-- The word with only a condition's bit set. -/
def Condition.mask (c : Condition) : BitVec 16 := 1#16 <<< c.bit

/-- A condition's flag in a flags word. -/
def flagSet (w : BitVec 16) (c : Condition) : Bool := w.getLsbD c.bit

/-- A flags word with a condition's flag set. -/
def withFlag (w : BitVec 16) (c : Condition) : BitVec 16 := w ||| c.mask

/-- A flags word with a condition's flag cleared. -/
def withoutFlag (w : BitVec 16) (c : Condition) : BitVec 16 := w &&& ~~~c.mask

/-! ### Override flags -/

/-- The override flags as a byte: bits 0 to 4 are ECO, VENT_ONLY, RECIRC, LAYOVER, DEFROST_BOOST (R113). -/
def Flags.toByte (f : Flags) : Byte :=
  0#3 ++ BitVec.ofBool f.boost ++ BitVec.ofBool f.layover ++ BitVec.ofBool f.recirc ++ BitVec.ofBool f.ventOnly
    ++ BitVec.ofBool f.eco

/-- The override flags of a byte; bits 5 to 7 are not looked at (R145, R148). -/
def Flags.ofByte (b : Byte) : Flags := ⟨b.getLsbD 0, b.getLsbD 1, b.getLsbD 2, b.getLsbD 3, b.getLsbD 4⟩

/-- The flags after a set mask and then a clear mask, as one change (R145). -/
def Flags.masked (f : Flags) (set clear : Byte) : Flags :=
  let a := Flags.ofByte set
  let c := Flags.ofByte clear
  ⟨(f.eco || a.eco) && !c.eco, (f.ventOnly || a.ventOnly) && !c.ventOnly, (f.recirc || a.recirc) && !c.recirc,
    (f.layover || a.layover) && !c.layover, (f.boost || a.boost) && !c.boost⟩

/-- A signed quantity as a byte in two's complement (R113). -/
def signedByte (x : Int) : Byte := BitVec.ofInt 8 x

/-- A quantity as an unsigned byte, at its largest value where it does not fit. -/
def natByte (n : Nat) : Byte := BitVec.ofNat 8 (capNat 255 n)

/-- A quantity as an unsigned half-word, at its largest value where it does not fit. -/
def natHalf (n : Nat) : BitVec 16 := BitVec.ofNat 16 (capNat 65535 n)

/-- A temperature as a signed half-word, −32768 where absent (R113, R172). -/
def tempHalf (t : Option Int) : BitVec 16 :=
  match t with
  | some x => BitVec.ofInt 16 x
  | none => BitVec.ofInt 16 (-32768)

end Sys2Proof.Machine
end

