-- ==== Sys2Proof/Machine/TxList.lean ====
section
/-! DEFINITION. The transmit list (R120 to R122), the figures its frames carry, the DEMAND schedule (R124), the start of the
transmit-failure timer (R125), and the condition record's latches with the STATUS frames they queue (R167, R169). -/

namespace Sys2Proof

namespace Machine

/-! ### The figures the node's frames carry (R113, R120) -/

/-- The total heater quanta (R113). -/
def State.totalQuanta (s : State) : Nat := (s.stages.map (·.size)).sum

/-- The PRESENCE frame's figures as they stand (R96, R99, R113). -/
def State.presenceFrame (s : State) : Frame :=
  .presence
    { cab := s.straps.cab, car := BitVec.ofNat 2 s.straps.car.val, zones := natByte s.zones.length,
      doors := natByte s.doors.length, quanta := natByte s.totalQuanta, outside := tempHalf s.ownEntry.outside }

/-- The DEMAND frame's figures as they stand (R79). -/
def State.demandFrame (s : State) : Frame :=
  .demand
    { claims := s.ownEntry.claims.map natByte, intents := s.ownEntry.intents.map natByte,
      draw := natByte s.ownEntry.draw }

/-- The boost remaining the defrost controller supplies (R134). -/
def State.boostLeft (s : State) : Nat :=
  match s.defrost with
  | some d => d.boostLeft
  | none => 0

/-- The OVERRIDE frame's figures as they stand: the word's flags, offsets and layover minutes, and the boost remaining
(R141). -/
def State.overrideFrame (s : State) : Frame :=
  match s.word with
  | some w =>
    .override
      { flags := w.flags.toByte, offset0 := signedByte w.offsets.car0, offset1 := signedByte w.offsets.car1,
        offset2 := signedByte w.offsets.car2, layover := natByte w.layoverLeft, boost := natByte s.boostLeft }
  | none => .override ⟨0, 0, 0, 0, 0, 0⟩

/-- The STATUS frame's figures as they stand (R169). -/
def State.statusFrame (s : State) : Frame := .status ⟨s.cond.current, s.cond.latched⟩

/-- Two frames are of one kind (R113). -/
def sameKind (a b : Frame) : Bool := kindCode a == kindCode b

end Machine

/-- The frame is a DEMAND frame. -/
def Frame.isDemand : Frame → Bool
  | .demand _ => true
  | _ => false

/-- The frame is a DOOR frame. -/
def Frame.isDoor : Frame → Bool
  | .door _ => true
  | _ => false

/-- The frame is an OVERRIDE frame. -/
def Frame.isOverride : Frame → Bool
  | .override _ => true
  | _ => false

namespace Machine

/-- The frame is a DOOR frame for the same door, that is (car, door index) (R121). -/
def sameDoor (b : DoorBody) : Frame → Bool
  | .door c => c.car == b.car && c.door == b.door
  | _ => false

/-- The figures a waiting entry of a kind carries as they now stand; a DOOR or ANSWER entry keeps its own contents
(R120, R171). -/
def State.figures (s : State) : Frame → Frame
  | .presence _ => s.presenceFrame
  | .demand _ => s.demandFrame
  | .override _ => s.overrideFrame
  | .status _ => s.statusFrame
  | f => f

/-! ### Changing the list -/

/-- The link controller's record with a changed list. -/
def State.withList (s : State) (l : List TxEntry) : State := { s with link := { s.link with list := l } }

/-- The head entry is in an attempt: it was not withdrawn from under it (R109, R122). -/
def State.headSending (s : State) : Bool :=
  match s.link.attempt with
  | some a => !a.withdrawn
  | none => false

/-- An entry whose contents a newer frame replaces in place: its count of failed attempts is set to 0, and an entry in an
attempt is marked (R112, R120). -/
def TxEntry.replace (sending : Bool) (f : Frame) (e : TxEntry) : TxEntry :=
  { e with frame := f, failed := 0, replaced := e.replaced || sending }

/-- Change each entry, telling the change whether the entry is the head in an attempt. -/
def mapEntries (sending : Bool) (g : Bool → TxEntry → TxEntry) : List TxEntry → List TxEntry
  | [] => []
  | e :: rest => g sending e :: mapEntries false g rest

/-- Change the entry at position `n`, telling the change whether it is the head in an attempt. -/
def modifyEntry (sending : Bool) (g : Bool → TxEntry → TxEntry) : Nat → List TxEntry → List TxEntry
  | _, [] => []
  | 0, e :: rest => g sending e :: rest
  | n + 1, e :: rest => e :: modifyEntry false g n rest

/-- An entry joins at the back of the list; the transmit-failure timer starts if it was stopped, but not in the join
listen (R120, R125). -/
def joinList (f : Frame) (s : State) : State :=
  let failure := if s.link.failure = .stopped ∧ s.listening = false then s.timer 1000 else s.link.failure
  { s with link := { s.link with list := s.link.list ++ [⟨f, 0, 0, false⟩], failure := failure } }

/-- The list holds an entry of the frame's kind. -/
def State.waiting (s : State) (f : Frame) : Bool := s.link.list.any (fun e => sameKind e.frame f)

/-- Queue a frame of a single-entry kind: it replaces a waiting entry of its kind in place, and otherwise joins (R120). -/
def queueSingle (f : Frame) (s : State) : State :=
  if s.waiting f then
    s.withList (mapEntries s.headSending
      (fun sending e => if sameKind e.frame f then e.replace sending f else e) s.link.list)
  else joinList f s

/-- Every waiting PRESENCE, DEMAND, OVERRIDE and STATUS entry takes the figures as they stand; a change of them is a
replacement (R120). It follows each change of a figure that one event can make twice, so that a figure changed and changed
back within an event counts as the change it was (log 6). -/
def refreshList (s : State) : State :=
  s.withList (mapEntries s.headSending
    (fun sending e => if s.figures e.frame = e.frame then e else e.replace sending (s.figures e.frame)) s.link.list)

/-- The node's own entry changes, and a waiting frame that carries a changed figure is replaced at once (R79, R120). -/
def modOwn (g : Entry → Entry) (s : State) : State := refreshList (s.modEntry s.straps.station g)

/-- A DEMAND frame falls due (R124): during the join listen none is due; where one waits it carries the figures already;
otherwise it joins the list, or the due mark is set while the spacing timer runs. -/
def demandDue (s : State) : State :=
  if s.listening then s
  else if s.link.list.any (fun e => e.frame.isDemand) then s
  else if s.link.spacing.isRunning then { s with link := { s.link with due := true } }
  else joinList s.demandFrame s

/-- The OVERRIDE entry leaves the list at once; an attempt of it runs on without an entry (R122). -/
def withdrawOverride (s : State) : State :=
  let headGone := match s.link.list with
    | e :: _ => e.frame.isOverride && s.headSending
    | [] => false
  { s with link := { s.link with
      list := s.link.list.filter (fun e => !e.frame.isOverride)
      attempt := if headGone then s.link.attempt.map (fun a => { a with withdrawn := true }) else s.link.attempt } }

/-! ### Conditions (R167) -/

/-- A STATUS frame is queued for a new latch; during the join listen the frame of the listen's end carries it (R123). -/
def queueStatus (s : State) : State := if s.listening then s else queueSingle s.statusFrame s

/-- Set a condition's latch; a new latch queues a STATUS frame (R167). -/
def latch (c : Condition) (s : State) : State :=
  if flagSet s.cond.latched c then s
  else queueStatus { s with cond := { s.cond with latched := withFlag s.cond.latched c } }

/-- A condition's current flag is set; from clear to set it latches (R167). A waiting STATUS frame takes the change at once
(R120, R169). -/
def raiseCondition (c : Condition) (s : State) : State :=
  if flagSet s.cond.current c then s
  else latch c (refreshList { s with cond := { s.cond with current := withFlag s.cond.current c } })

/-- A condition's current flag is cleared; the latch is kept (R167). A waiting STATUS frame takes the change at once (R120,
R169). -/
def lowerCondition (c : Condition) (s : State) : State :=
  refreshList { s with cond := { s.cond with current := withoutFlag s.cond.current c } }

/-- Whether a state condition holds, by the rule that owns it (R8, R32, R64, R90, R96, R107, R116, R118, R129, R137, R156,
R158). An event condition is never current between steps (R167). -/
def conditionHolds (s : State) : Condition → Bool
  | .zoneSensor => s.zones.any (fun z =>
      z.state == .holding || z.state == .fallback || (z.state == .off && z.badRun == 3))
  | .outsideSensor => s.config.outsidePresent && s.view.outsideRun == 3
  | .screenSensor => match s.defrost with
    | some d => d.cabRun == 3 || d.screenRun == 3
    | none => false
  | .doorStuck => s.doors.any (fun d => d.state == .stuck)
  | .blowerFailed => s.fans.any (fun b => b.retrying)
  | .stageFaulty => s.stages.any (fun st => st.state == .faulty)
  | .damperStalled => s.damper.lost
  | .powerSilent => s.alloc.sharing == .silent
  | .txFailed => s.alloc.sharing == .muted
  | .duplicateStation => s.alloc.sharing == .isolated
  | .roleConflict => s.straps.cab && !(s.view.accepted == some s.straps.station)
  | .defrostShort => s.straps.cab && decide (s.alloc.allocation.safety < s.ownEntry.claims.safety)
  | .linkNoise => decide (8 < s.link.window.length)
  | .foreignPower => false
  | .configDefaulted => false
  | .linkOverrun => false

/-- The owner of a condition sets or clears its current flag as its cause now stands (R167). -/
def recheck (c : Condition) (s : State) : State :=
  if conditionHolds s c then raiseCondition c s else lowerCondition c s

/-! ### DOOR entries -/

/-- A DOOR frame is queued (R121): it joins while fewer than 3 DOOR entries wait; otherwise it replaces the newest entry of
its door, or else the oldest DOOR entry, with LINK_OVERRUN. That entry too starts with no failed attempts and keeps its
backoff wait (log 37). -/
def queueDoor (b : DoorBody) (s : State) : State :=
  let l := s.link.list
  if (l.filter (fun e => e.frame.isDoor)).length < 3 then joinList (.door b) s
  else match l.reverse.findIdx? (fun e => sameDoor b e.frame) with
    | some n => s.withList (modifyEntry s.headSending (fun g e => e.replace g (.door b)) (l.length - 1 - n) l)
    | none =>
      match l.findIdx? (fun e => e.frame.isDoor) with
      | some n => latch .linkOverrun
          (s.withList (modifyEntry s.headSending (fun g e => e.replace g (.door b)) n l))
      | none => s

end Machine

end Sys2Proof
end

