-- ==== Sys2Proof/Machine/Stages.lean ====
section
/-! DEFINITION. The stage controller (chapter 3): occupancy and room (R47), the queue (R48), filling and withdrawing (R50,
R52), conversion (R51), cuts and sheds (R57, R61), suspension and resumption (R60), blower loss (R65), the admission
attempt (R54) and contactor feedback (R62). -/

namespace Sys2Proof.Machine

/-! ### Reading the stage table -/

/-- A stage output is on in ENERGIZED and off in every other state (R47, R66). -/
def Stage.output (st : Stage) : Bool := st.state == .energized

/-- The stage counts to its class's occupancy: ENERGIZED or SUSPENDED (R47). -/
def Stage.heating (st : Stage) : Bool := st.state == .energized || st.state == .suspended

/-- The stage is held by its owner: QUEUED, ENERGIZED or SUSPENDED (R47, R49). -/
def Stage.isHeld (st : Stage) : Bool := st.state == .queued || st.heating

/-- The stage is of class `c`. -/
def Stage.inClass (st : Stage) (c : Cls) : Bool := st.cls == some c

/-- The stage at a table index. -/
def State.stage? (s : State) (i : Nat) : Option Stage := s.stages[i]?

/-- Table indexes of the stages that satisfy `p`, in table order. -/
def stageIndexes (p : Stage → Bool) : Nat → List Stage → List Nat
  | _, [] => []
  | i, st :: rest => if p st then i :: stageIndexes p (i + 1) rest else stageIndexes p (i + 1) rest

/-- Table indexes of the node's stages that satisfy `p`, in table order. -/
def State.stagesWith (s : State) (p : Stage → Bool) : List Nat := stageIndexes p 0 s.stages

/-- The energized-since of the stage at an index. -/
def State.sinceOf (s : State) (i : Nat) : Option Time :=
  match s.stage? i with
  | some st => st.since
  | none => none

/-- The size of the stage at an index. -/
def State.sizeOf (s : State) (i : Nat) : Nat :=
  match s.stage? i with
  | some st => st.size
  | none => 0

/-- Stage numbers in order of energized-since, earliest first (R48). -/
def State.bySince (s : State) (l : List Nat) : List Nat := sortBySince s.clock s.sinceOf l

/-- The sum of the sizes of the stages that satisfy `p`. -/
def sumSizes (p : Stage → Bool) (l : List Stage) : Nat := ((l.filter p).map (·.size)).sum

/-- The occupancy of a class (R47). -/
def State.occupancy (s : State) (c : Cls) : Nat := sumSizes (fun st => st.heating && st.inClass c) s.stages

/-- The node's draw: the sizes of the stages that are ENERGIZED (R66). -/
def State.drawNow (s : State) : Nat := sumSizes (fun st => st.state == .energized) s.stages

/-- A size fits the room of a class, the usable intent less the occupancy (R47, R54). -/
def State.fits (s : State) (c : Cls) (size : Nat) : Bool :=
  decide (s.occupancy c + size ≤ s.alloc.usable.get c)

/-- The number of stages an owner holds in a class (R49). -/
def State.heldCount (s : State) (o : Owner) (c : Cls) : Nat :=
  (s.stages.filter (fun st => st.owner == o && st.isHeld && st.inClass c)).length

/-- The number of an owner's stages that are not FAULTY (R49, R136). -/
def State.goodCount (s : State) (o : Owner) : Nat :=
  (s.stages.filter (fun st => st.owner == o && !(st.state == .faulty))).length

/-- Every stage of the queue, in queue order (R48). -/
def State.queueOrder (s : State) : List Nat := s.queue.safety ++ s.queue.curtain ++ s.queue.zone ++ s.queue.absorb

/-! ### Feedback -/

/-- The feedback field after a change of output (R62): compared with the accepted level where there is one, with a fresh
200 ms where they differ. -/
def refeedback (now : Time) (was st : Stage) : Stage :=
  if was.output = st.output then st
  else match st.filter.level with
    | none => st
    | some l =>
      if l = st.output then { st with feedback := .agree }
      else { st with feedback := .disagree (.running (timeAfter now 200)) }

/-- Change the stage at an index; a change of its output re-examines its feedback (R62). -/
def modStage (i : Nat) (g : Stage → Stage) (s : State) : State :=
  { s with stages := s.stages.modify i (fun st => refeedback s.clock st (g st)) }

/-! ### The queue -/

/-- The queue without a stage; the stages behind it move forward (R48). -/
def unqueue (i : Nat) (s : State) : State := { s with queue := s.queue.map (fun l => l.filter (fun j => j != i)) }

/-- A stage enters at the back of its class (R48). -/
def queueBack (c : Cls) (i : Nat) (s : State) : State :=
  { s with queue := s.queue.set c (s.queue.get c ++ [i]) }

/-- A group of stages enters at the front of its class, earliest energized-since first (R48). -/
def queueFront (c : Cls) (group : List Nat) (s : State) : State :=
  { s with queue := s.queue.set c (s.bySince group ++ s.queue.get c) }

/-- A stage enters at a position of its class (R48, R63). -/
def queueAt (c : Cls) (n i : Nat) (s : State) : State :=
  { s with queue := s.queue.set c ((s.queue.get c).take n ++ i :: (s.queue.get c).drop n) }

/-- An admission attempt is owed at the end of the step (R55, log 5). -/
def oweAttempt (s : State) : State := { s with attemptDue := true }

/-! ### Leaving ENERGIZED or SUSPENDED -/

/-- A stage taken off to QUEUED: its class and energized-since are kept, its slice ends (R57, R59, R61, R65). -/
def Stage.toQueued (st : Stage) : Stage :=
  { st with state := .queued, slice := .stopped, sliceStart := none, suspendedAt := none }

/-- A stage withdrawn to IDLE (R52). -/
def Stage.toIdle (st : Stage) : Stage :=
  { st with state := .idle, cls := none, since := none, slice := .stopped, sliceStart := none, suspendedAt := none }

/-- Take stages off to the front of their classes, in each class as one group (R48). -/
def takeOff (victims : List Nat) (s : State) : State :=
  let group (c : Cls) := (List.range s.stages.length).filter (fun i => victims.contains i && match s.stage? i with
    | some st => st.inClass c
    | none => false)
  let s1 := victims.foldl (fun s i => modStage i Stage.toQueued s) s
  Cls.all.foldl (fun s c => queueFront c (group c) s) s1

/-- The stages a cut takes, in order, until the occupancy is within the limit (R57). -/
def cutVictims (sizeOf : Nat → Nat) (limit : Nat) : Nat → List Nat → List Nat
  | _, [] => []
  | occupancy, i :: rest =>
    if occupancy ≤ limit then [] else i :: cutVictims sizeOf limit (occupancy - sizeOf i) rest

/-- The cut of R57 in a class: SUSPENDED stages first, then ENERGIZED, each earliest energized-since first. -/
def cut (c : Cls) (s : State) : State :=
  let suspended := s.bySince (s.stagesWith (fun st => st.state == .suspended && st.inClass c))
  let energized := s.bySince (s.stagesWith (fun st => st.state == .energized && st.inClass c))
  takeOff (cutVictims s.sizeOf (s.alloc.usable.get c) (s.occupancy c) (suspended ++ energized)) s

/-- The stage controller's part of a shed: every ENERGIZED and SUSPENDED stage is taken off (R61). -/
def shedStages (s : State) : State := takeOff (s.stagesWith Stage.heating) s

/-- A blower leaves RUNNING: the stages it serves are taken off (R65). -/
def blowerLoss (f : FanId) (s : State) : State :=
  takeOff (s.stagesWith (fun st => st.heating && st.owner.fan == f)) s

/-- Entry into GAP_HOLD: every ENERGIZED stage becomes SUSPENDED with its slice frozen (R60). -/
def suspendAll (s : State) : State :=
  (s.stagesWith (fun st => st.state == .energized)).foldl
    (fun s i => modStage i (fun st => { st with state := .suspended, slice := .stopped, suspendedAt := some s.clock }) s) s

/-! ### Filling and withdrawing -/

/-- Withdraw a stage to IDLE; one that was heating frees room and leads to an admission attempt (R52, R55). -/
def withdraw (i : Nat) (s : State) : State :=
  let freed := match s.stage? i with
    | some st => st.heating
    | none => false
  let s1 := unqueue i (modStage i Stage.toIdle s)
  if freed then oweAttempt s1 else s1

/-- The stages of an owner in a class in the order R52 withdraws them: QUEUED from the back of the queue, then SUSPENDED,
then ENERGIZED, earliest energized-since first. -/
def State.withdrawOrder (s : State) (o : Owner) (c : Cls) : List Nat :=
  let mine (i : Nat) : Bool := match s.stage? i with
    | some st => st.owner == o
    | none => false
  (s.queue.get c).reverse.filter mine
    ++ s.bySince (s.stagesWith (fun st => st.state == .suspended && st.owner == o && st.inClass c))
    ++ s.bySince (s.stagesWith (fun st => st.state == .energized && st.owner == o && st.inClass c))

/-- Withdraw an owner's stages in a class until at most `n` are held (R52). -/
def withdrawTo (o : Owner) (c : Cls) (n : Nat) (s : State) : State :=
  ((s.withdrawOrder o c).take (s.heldCount o c - n)).foldl (fun s i => withdraw i s) s

/-- The better of two IDLE stages to queue: the lower wear count, ties to the one ahead (R50). -/
def lessWorn (best : Option (Nat × Nat)) (i wear : Nat) : Option (Nat × Nat) :=
  match best with
  | none => some (i, wear)
  | some (j, w) => if wear < w then some (i, wear) else some (j, w)

/-- The IDLE stage of an owner with the lowest wear count, ties to the lower index (R50). -/
def leastWorn (o : Owner) : Nat → List Stage → Option (Nat × Nat) → Option (Nat × Nat)
  | _, [], best => best
  | i, st :: rest, best =>
    leastWorn o (i + 1) rest (if st.owner == o && st.state == .idle then lessWorn best i st.wear else best)

/-- The IDLE stage R50 queues next for an owner. -/
def State.nextIdle (s : State) (o : Owner) : Option Nat := (leastWorn o 0 s.stages none).map (·.1)

/-- Where a stage newly queued goes in its class (R48). -/
inductive Place where
  | back
  | front
  | position (n : Nat)
  deriving DecidableEq, Repr

/-- A stage newly queued in a class: a new enqueue leads to an admission attempt (R50, R55, R63). -/
def enqueue (c : Cls) (place : Place) (i : Nat) (s : State) : State :=
  let s1 := modStage i (fun st => { st with state := .queued, cls := some c }) s
  oweAttempt (match place with
    | .back => queueBack c i s1
    | .front => queueFront c [i] s1
    | .position n => queueAt c n i s1)

/-- Queue an owner's next IDLE stage in a class, where it has one (R50). -/
def enqueueNext (o : Owner) (c : Cls) (place : Place) (s : State) : State :=
  match s.nextIdle o with
  | some i => enqueue c place i s
  | none => s

/-- Queue `k` further IDLE stages of an owner at the back of a class, as far as it has them (R50). -/
def fillBack (o : Owner) (c : Cls) : Nat → State → State
  | 0, s => s
  | k + 1, s => fillBack o c k (enqueueNext o c .back s)

/-- Fill an owner's shortfall in a class (R50). -/
def fillTo (o : Owner) (c : Cls) (n : Nat) (s : State) : State := fillBack o c (n - s.heldCount o c) s

/-- A curtain's or the defrost's hand-off (R49): the owner holds the handed count, or as many stages as are not FAULTY. -/
def handOffSingle (o : Owner) (c : Cls) (n : Nat) (s : State) : State :=
  let want := min n (s.goodCount o)
  fillTo o c want (withdrawTo o c want s)

/-! ### Conversion of ABSORB stages (R51) -/

/-- Reclassify the first stages of a list from ABSORB to ZONE in place while the ZONE room takes each and `k` allows;
answers how many of `k` remain (R51). -/
def convertInPlace : Nat → List Nat → State → Nat × State
  | 0, _, s => (0, s)
  | k, [], s => (k, s)
  | k + 1, i :: rest, s =>
    if s.fits .zone (s.sizeOf i) then
      convertInPlace k rest (modStage i (fun st => { st with cls := some .zone }) s)
    else (k + 1, s)

/-- Reclassify a QUEUED ABSORB stage as ZONE at the back of ZONE (R51). -/
def convertQueued (i : Nat) (s : State) : State :=
  oweAttempt (queueBack .zone i (unqueue i (modStage i (fun st => { st with cls := some .zone }) s)))

/-- A rise of a zone's wanted count by `k` takes over its ABSORB stages, first those heating, then those queued (R51). -/
def convert (o : Owner) (k : Nat) (s : State) : State :=
  let heating := s.bySince (s.stagesWith (fun st => st.heating && st.owner == o && st.inClass .absorb))
  let (left, s1) := convertInPlace k heating s
  let queued := s1.queue.absorb.filter (fun i => match s1.stage? i with
    | some st => st.owner == o && st.state == .queued
    | none => false)
  (queued.take left).foldl (fun s i => convertQueued i s) s1

/-- A zone's count step and offer step (R23, R49, R51, R52): on a rise conversion and then new stages, on a fall
withdrawal; the count before the offer. -/
def zoneSteps (z : Fin 4) (count offer : Nat) (s : State) : State :=
  let o := Owner.zone z
  let s1 := withdrawTo o .zone count (convert o (count - s.heldCount o .zone) s)
  withdrawTo o .absorb offer (fillTo o .zone count s1)

/-- The hand-back of a fault (R21, R63 step 3): a zone's lowered count and offer are taken; the shortfall is filled by
step 4 (log 14). -/
def zoneFalls (z : Fin 4) (count offer : Nat) (s : State) : State :=
  withdrawTo (.zone z) .absorb offer (withdrawTo (.zone z) .zone count s)

/-- A zone's hand-off (R23, R49, R50): its steps, and then its shortfalls, ZONE before ABSORB. -/
def handOffZone (z : Fin 4) (count offer : Nat) (s : State) : State :=
  fillTo (.zone z) .absorb offer (fillTo (.zone z) .zone count (zoneSteps z count offer s))

/-! ### Switching on (R53, R54, R56, R60) -/

/-- The rotation slice of a class: ZONE and ABSORB stages rotate (R58). -/
def rotates : Cls → Bool
  | .zone => true
  | .absorb => true
  | _ => false

/-- The wear count after a switch-on (R53). -/
def wearUp (w : Nat) : Nat := if w < 65535 then w + 1 else w

/-- The start of the pacing pause after a switch-on (R56): 20 ms × (1 + v) for the next 4-bit draw v. -/
def startPacing (s : State) : State :=
  let s1 := s.draw
  { s1 with pacing := s1.timer (20 * (1 + pacingDraw s1.seq)) }

/-- The rotation slice in milliseconds (R58). -/
def State.sliceMs (s : State) : Nat := s.config.slice * 1000

/-- A stage admitted now (R54): ENERGIZED, with a fresh slice where its class rotates. -/
def Stage.admitted (now : Time) (sliceMs : Nat) (st : Stage) : Stage :=
  let turns := match st.cls with
    | some c => rotates c
    | none => false
  { st with
    state := .energized, since := some now, sliceStart := if turns then some now else none,
    slice := if turns then .running (timeAfter now sliceMs) else .stopped, suspendedAt := none, wear := wearUp st.wear }

/-- A stage resumed now (R58, R60): its slice start moves later by the length of the suspension. -/
def Stage.resumed (now : Time) (sliceMs : Nat) (st : Stage) : Stage :=
  let pause := match st.suspendedAt with
    | some t => elapsed now t
    | none => 0
  let start := st.sliceStart.map (fun t => timeAfter t pause)
  { st with
    state := .energized, sliceStart := start, suspendedAt := none, wear := wearUp st.wear,
    slice := match start with
      | some t => .running (timeAfter t sliceMs)
      | none => .stopped }

/-- Admit a QUEUED stage (R54). -/
def admitStage (i : Nat) (s : State) : State :=
  startPacing (modStage i (Stage.admitted s.clock s.sliceMs) (unqueue i s))

/-- Resume a SUSPENDED stage (R60). -/
def resume (i : Nat) (s : State) : State := startPacing (modStage i (Stage.resumed s.clock s.sliceMs) s)

/-- The first SUSPENDED stage in class order, within a class earliest energized-since first (R54). -/
def State.firstSuspended (s : State) : Option Nat :=
  (Cls.all.flatMap (fun c =>
    s.bySince (s.stagesWith (fun st => st.state == .suspended && st.inClass c)))).head?

/-- A QUEUED stage can be admitted to class `c`: its blower is RUNNING and its size fits the room (R54). -/
def State.admissible (s : State) (c : Cls) (i : Nat) : Bool :=
  match s.stage? i with
  | some st => st.state == .queued && st.inClass c && s.fanRunning st.owner.fan && s.fits c st.size
  | none => false

/-- The first stage of the queue that can be admitted (R54). -/
def State.firstAdmissible (s : State) : Option Nat :=
  (Cls.all.flatMap (fun c => (s.queue.get c).filter (s.admissible c))).head?

/-- The admission attempt (R54): at most one stage is switched on. -/
def admissionAttempt (s : State) : State :=
  if s.alloc.sharing = .active ∧ s.pacing = .stopped then
    match s.firstSuspended with
    | some i => resume i s
    | none => match s.firstAdmissible with
      | some i => admitStage i s
      | none => s
  else s

/-! ### The draw (R66) -/

/-- The stage controller writes the draw into the own entry, clamped to 255 (R66, R95). -/
def writeDraw (s : State) : State :=
  s.modEntry s.straps.station (fun e => { e with draw := capNat 255 s.drawNow })

/-- The draw is written, and waiting frames take the figures as they stand (R66, R120). -/
def noteDraw (s : State) : State := refreshList (writeDraw s)

/-- The attempt the step owes, made once (R55, log 5). Within a step the draw only falls before the attempt and only rises at
it: what it fell to is noted first, so that a waiting DEMAND frame takes both changes (R66, R120). -/
def payAttempt (s : State) : State :=
  if s.attemptDue then admissionAttempt (noteDraw { s with attemptDue := false }) else s

end Sys2Proof.Machine
end

