-- ==== Sys2Proof/Machine/Allocator.lean ====
section
/-! DEFINITION. The allocator (chapter 4): the counted claims (R72), the allocation computation (R71), the intents (R73 to
R75), and the node's claims (R24). -/

namespace Sys2Proof.Machine

/-! ### The allocation computation -/

/-- One class of the computation (R71 step 2): the stations' allocations from the amount `A`, and what remains of it. -/
def shareClass (A : Nat) (claims : List Nat) : List Nat × Nat :=
  let C := claims.sum
  if C ≤ A then (claims, A - C)
  else
    let grants := claims.map (fun q => A * q / C)
    (grants, A - grants.sum)

/-- Every station's allocation in each class from the budget, the surplus and the counted claims of the stations (R71). -/
def allocate (budget surplus : Nat) (counted : PerClass (List Nat)) : PerClass (List Nat) :=
  let (safety, a1) := shareClass budget counted.safety
  let (curtain, a2) := shareClass a1 counted.curtain
  let (zone, _) := shareClass a2 counted.zone
  let (absorb, _) := shareClass surplus counted.absorb
  ⟨safety, curtain, zone, absorb⟩

/-- The counted claim of an entry in a class (R72): a STALE entry counts its announced intent, a LOST or ABSENT one
nothing. -/
def Entry.counted (e : Entry) (c : Cls) : Nat :=
  match e.state with
  | .alive => e.claims.get c
  | .stale => e.intents.get c
  | .lost => 0
  | .absent => 0

/-- The counted claims of the sixteen stations, by station number (R72). -/
def State.countedClaims (s : State) : PerClass (List Nat) :=
  PerClass.ofFn (fun c => s.view.entries.toList.map (fun e => e.counted c))

/-- Every station's allocation from the state as it stands (R70, R71). -/
def State.allocations (s : State) : PerClass (List Nat) :=
  allocate s.alloc.budget s.alloc.surplus s.countedClaims

/-- The node's own allocation from the state as it stands (R72). -/
def State.ownShare (s : State) : PerClass Nat :=
  s.allocations.map (fun l => l.getD s.straps.station.val 0)

/-! ### Intents -/

/-- Set the announced intents, in the allocator's record and in the own view entry (R73, R79); a waiting DEMAND frame takes
the change (R120). -/
def setAnnounced (p : PerClass Nat) (s : State) : State :=
  modOwn (fun e => { e with intents := p }) { s with alloc := { s.alloc with announced := p } }

/-- Set the usable intents. -/
def setUsable (p : PerClass Nat) (s : State) : State := { s with alloc := { s.alloc with usable := p } }

/-- The lowering of R74: each intent above the allocation is set to it, the classes whose usable intent fell are cut, and a
lowered announced intent makes a DEMAND frame due. -/
def lowerIntents (s : State) : State :=
  let a := s.alloc
  let announced := a.announced.map₂ min a.allocation
  let usable := a.usable.map₂ min a.allocation
  let s1 := setUsable usable (if announced = a.announced then s else setAnnounced announced s)
  let s2 := Cls.all.foldl (fun s c => if usable.get c < a.usable.get c then cut c s else s) s1
  if announced = a.announced then s2 else demandDue s2

/-- The raise of R75: each announced intent below the allocation is set to it; a raise makes a DEMAND frame due, sets raise
pending and stops the hold-off. -/
def raiseIntents (s : State) : State :=
  let a := s.alloc
  let announced := a.announced.map₂ max a.allocation
  if announced = a.announced then s
  else
    let s1 := setAnnounced announced s
    demandDue { s1 with alloc := { s1.alloc with raisePending := true, holdOff := .stopped } }

/-- Recompute the allocation and act on the intents (R70, R74, R75); a change of the own SAFETY allocation tests
DEFROST_SHORT (R137), before the intents move: its STATUS frame is queued ahead of their DEMAND frame (log 39). -/
def recompute (s : State) : State :=
  let share := s.ownShare
  let s1 := { s with alloc := { s.alloc with allocation := share } }
  let s2 := if share.safety = s.alloc.allocation.safety then s1 else recheck .defrostShort s1
  raiseIntents (lowerIntents s2)

/-! ### Claims (R24) -/

/-- A door's curtain is wanted (R41). -/
def Curtain.isWanted : Curtain → Bool
  | .wanted => true
  | .runOn => true
  | _ => false

/-- The count a door's curtain hands on (R41, R49). -/
def State.curtainCount (s : State) (d : Fin 3) : Nat :=
  match s.door? d, s.doorCfg? d with
  | some r, some g => if r.curtain.isWanted then g.curtainStages else 0
  | _, _ => 0

/-- The curtain quanta wanted at a door: a FAULTY stage is not wanted (R24, R49). -/
def State.curtainQuanta (s : State) (d : Fin 3) : Nat :=
  match s.doorCfg? d with
  | some g => min (s.curtainCount d) (s.goodCount (.curtain d)) * g.curtainSize
  | none => 0

/-- The stage count a defrost state calls for (R135). -/
def defrostCount (c : CabCfg) : DefrostState → Nat
  | .off => 0
  | .demist => c.nd
  | .boost => c.nb

/-- The defrost controller's need (R136); 0 on a node that is not the cab node. -/
def State.defrostNeed (s : State) : Nat :=
  match s.defrost with
  | some d => min (defrostCount s.config.cab d.state) (s.goodCount .defrost) * s.config.cab.size
  | none => 0

/-- The sum over the zones of a count times the zone's stage size. -/
def zoneQuanta (count : Zone → Nat) : List Zone → List ZoneCfg → Nat
  | z :: zs, g :: gs => count z * g.size + zoneQuanta count zs gs
  | _, _ => 0

/-- The four claims (R24). -/
def State.claimsNow (s : State) : PerClass Nat :=
  if s.alloc.sharing = .isolated then .const 0
  else
    let open3 := !s.inUse.flags.ventOnly
    { safety := capNat 255 s.defrostNeed
      curtain := if open3 then capNat 255 (s.curtainQuanta 0 + s.curtainQuanta 1 + s.curtainQuanta 2) else 0
      zone := if open3 then capNat 255 (zoneQuanta (·.wanted) s.zones s.config.zones) else 0
      absorb := if open3 then capNat 255 (zoneQuanta (·.offer) s.zones s.config.zones) else 0 }

/-- Re-form the claims (R24): a change replaces the own entry's claims, makes a DEMAND frame due and recomputes the
allocation; a change of the SAFETY claim tests DEFROST_SHORT (R137), with its STATUS frame behind that DEMAND frame
(log 39). -/
def reformClaims (s : State) : State :=
  let claims := s.claimsNow
  let old := s.ownEntry.claims
  if claims = old then s
  else
    let s1 := demandDue (modOwn (fun e => { e with claims := claims }) s)
    let s2 := recompute s1
    if claims.safety = old.safety then s2 else recheck .defrostShort s2

/-! ### Shedding (R89) -/

/-- A shed (R89): stages off, intents to 0 with a DEMAND frame due where an announced intent changed, the hold-off stopped
and raise pending cleared, and the allocation compared with the new intents. -/
def shed (s : State) : State :=
  let s1 := shedStages s
  let s2 := setUsable (.const 0) s1
  let s3 := if s2.alloc.announced = .const 0 then s2 else demandDue (setAnnounced (.const 0) s2)
  raiseIntents { s3 with alloc := { s3.alloc with holdOff := .stopped, raisePending := false } }

end Sys2Proof.Machine
end

