-- ==== Sys2Proof/Machine/Blowers.lean ====
section
/-! DEFINITION. The blower supervisor (chapter 9): commanded levels (R154, R157), proof of rotation by tachometer (R155) and
failure (R156). -/

namespace Sys2Proof.Machine

/-- Entry into STARTING at the commanded level (R154). -/
def Blower.starting (now : Time) (b : Blower) : Blower :=
  { b with
    state := .starting, startedAt := some now, start := .running (timeAfter now 3000), retry := .stopped, tach := 0 }

/-- Entry into STOPPED (R154): both timers stopped, retrying cleared. -/
def Blower.stop (b : Blower) : Blower :=
  { b with state := .stopped, start := .stopped, retry := .stopped, retrying := false }

/-- Entry into FAILED (R156). -/
def Blower.fail (now : Time) (b : Blower) : Blower :=
  { b with state := .failed, start := .stopped, retrying := true, retry := .running (timeAfter now 30000) }

/-- The drive output of a fan: its commanded level in STARTING and RUNNING, off otherwise (R154, R156). -/
def Blower.output (b : Blower) : Nat :=
  match b.state with
  | .starting => b.level
  | .running => b.level
  | .stopped => 0
  | .failed => 0

/-- A fan's commanded level becomes `level` (R154). A fan that leaves RUNNING takes its stages off (R65). -/
def commandFan (f : FanId) (level : Nat) (s : State) : State :=
  match s.fan? f with
  | none => s
  | some b =>
    if b.level = level then s
    else
      let s1 := s.modFan f (fun b => { b with level := level })
      if b.level = 0 then
        match b.state with
        | .stopped => s1.modFan f (Blower.starting s.clock)
        | .starting => s1
        | .running => s1
        | .failed => s1
      else if level = 0 then
        let s2 := recheck .blowerFailed (s1.modFan f Blower.stop)
        if b.state = .running then blowerLoss f s2 else s2
      else s1

/-- The demand level from the level it stands at and the demand u (R157). -/
def demandLevelAfter (level u : Nat) : Nat :=
  if 750 ≤ u then 3
  else if 700 ≤ u then (if level = 3 then 3 else 2)
  else if 400 ≤ u then 2
  else if 350 ≤ u then (if level = 1 then 1 else 2)
  else 1

/-- The commanded level of a zone fan from its inputs (R157). -/
def State.zoneFanLevel (s : State) (demandLevel : Nat) : Nat :=
  if s.alloc.sharing = .joining then 0
  else if s.inUse.flags.ventOnly then 2
  else demandLevel

/-- A zone fan's commanded level is chosen afresh (R157). -/
def rechooseZoneFan (z : Fin 4) (s : State) : State :=
  match s.fan? (.zone z) with
  | some b => commandFan (.zone z) (s.zoneFanLevel b.demandLevel) s
  | none => s

/-- Every zone fan's commanded level is chosen afresh, at a change of an input of R157. -/
def rechooseZoneFans (s : State) : State :=
  rechooseZoneFan 3 (rechooseZoneFan 2 (rechooseZoneFan 1 (rechooseZoneFan 0 s)))

/-- A zone hands its demand to its fan (R157, R18). -/
def handDemand (z : Fin 4) (u : Nat) (s : State) : State :=
  rechooseZoneFan z (s.modFan (.zone z) (fun b => { b with demandLevel := demandLevelAfter b.demandLevel u }))

/-- A fan enters FAILED (R156); one that leaves RUNNING takes its stages off (R65). -/
def failFan (f : FanId) (s : State) : State :=
  let was := s.fanRunning f
  let s1 := recheck .blowerFailed (s.modFan f (Blower.fail s.clock))
  if was then blowerLoss f s1 else s1

/-- A fan reaches RUNNING (R155): an admission attempt follows (R55). -/
def proveFan (f : FanId) (s : State) : State :=
  oweAttempt (recheck .blowerFailed
    (s.modFan f (fun b => { b with state := .running, start := .stopped, retrying := false })))

/-- The window expiry examines one fan (R155) and clears its tach count (R153). -/
def examineFan (f : FanId) (s : State) : State :=
  let s1 := match s.fan? f with
    | some b =>
      let enough := decide (s.config.fanMinOf f ≤ b.tach)
      match b.state with
      | .starting => if enough then proveFan f s else s
      | .running => if enough then s else failFan f s
      | .stopped => s
      | .failed => s
    | none => s
  s1.modFan f (fun b => { b with tach := 0 })

/-- An accepted rising level of a fan's tachometer adds 1 to its tach count, held at 255 (R153). -/
def countPulse (f : FanId) (s : State) : State :=
  s.modFan f (fun b => { b with tach := capNat 255 (b.tach + 1) })

end Sys2Proof.Machine
end

