-- ==== Sys2Proof/Machine/Damper.lean ====
section
/-! DEFINITION. The fresh-air damper (R158 to R160): the reported fresh fraction, the target, the motor, steps, stalls and
homing. -/

namespace Sys2Proof.Machine

/-- The damper record changed by `g`. -/
def State.modDamper (s : State) (g : Damper → Damper) : State := { s with damper := g s.damper }

/-- The fresh fraction the drive reports, in per-mille (R158). -/
def State.freshFraction (s : State) : Nat :=
  match s.damper.state with
  | .tracking => s.damper.position * 1000 / s.config.fullCount
  | .homing => 1000
  | .stalled => 1000

/-- The target fresh fraction, the first that applies (R159). -/
def State.targetFraction (s : State) : Nat :=
  if s.inUse.flags.recirc || s.damper.doorOpen then s.config.fMin
  else if s.inUse.flags.ventOnly then 1000
  else s.config.fNorm

/-- The target count (R159). -/
def State.targetCount (s : State) : Nat := s.targetFraction * s.config.fullCount / 1000

/-- The motor that the position count calls for in TRACKING (R159). -/
def motorFor (deadband position target : Nat) : Motor :=
  if position + deadband < target then .opening
  else if target + deadband < position then .closing
  else .stopped

/-- The motor is set (R159): a start or a reversal restarts the stall timer, a stop stops it. -/
def setMotor (m : Motor) (s : State) : State :=
  if m = s.damper.motor then s
  else s.modDamper (fun d => { d with motor := m, stall := if m = .stopped then .stopped else s.timer 500 })

/-- In TRACKING the motor is set from the count and the target (R159). -/
def trackMotor (s : State) : State :=
  if s.damper.state = .tracking then setMotor (motorFor s.config.deadband s.damper.position s.damper.target) s else s

/-- A change of target that falls together with the stall timer's expiry and does not stop the motor leaves the expiry
standing, so that the stall is taken, also where it reverses the motor (R160, over the restart of R159; log 40). -/
def keepStall (before : Timer) (s : State) : State :=
  if before.isDue s.clock ∧ s.damper.motor ≠ .stopped then s.modDamper (fun d => { d with stall := before }) else s

/-- The target count is chosen afresh (R159); in TRACKING the motor is set at a change of it. -/
def retarget (s : State) : State :=
  if s.targetCount = s.damper.target then s
  else keepStall s.damper.stall (trackMotor (s.modDamper (fun d => { d with target := s.targetCount })))

/-- The position count after a step, clamped to 0..full count (R158). -/
def countStep (fullCount position : Nat) : EncoderMove → Nat
  | .opening => capNat fullCount (position + 1)
  | .closing => position - 1
  | .both => position

/-- A step while the motor drives is a motion event and restarts the stall timer (R160). -/
def motionEvent (s : State) : State :=
  if s.damper.motor = .stopped then s else s.modDamper (fun d => { d with stall := s.timer 500 })

/-- A change of the encoder's phases (R158, R160): the count follows a step in TRACKING, where the motor is then set. -/
def encoderStep (move : EncoderMove) (s : State) : State :=
  if move = .both then s
  else
    let s1 := motionEvent s
    if s1.damper.state = .tracking then
      trackMotor (s1.modDamper (fun d => { d with position := countStep s1.config.fullCount d.position move }))
    else s1

/-- The stall timer's expiry (R160): a stall in TRACKING, the closed end stop in HOMING. -/
def stallExpiry (s : State) : State :=
  match s.damper.state with
  | .tracking => recheck .damperStalled
      (s.modDamper (fun d =>
        { d with state := .stalled, motor := .stopped, stall := .stopped, lost := true, rest := s.timer 500 }))
  | .homing => recheck .damperStalled
      (trackMotor (s.modDamper (fun d => { d with state := .tracking, position := 0, lost := false, stall := .stopped })))
  | .stalled => s.modDamper (fun d => { d with stall := .stopped })

/-- The rest timer's expiry (R160): homing begins again. -/
def restExpiry (s : State) : State :=
  let s1 := s.modDamper (fun d => { d with rest := .stopped })
  if s1.damper.state = .stalled then
    s1.modDamper (fun d => { d with state := .homing, motor := .closing, stall := s.timer 500 })
  else s1

end Sys2Proof.Machine
end

