-- ==== Sys2Proof/Machine/Events.lean ====
section
/-! DEFINITION. How a command becomes a step: the guard that the node runs (R164), the clock at an expiry (log 4), and what
closes every step: the admission attempt it owes (R55), the own entry's draw (R66), the waiting frames' figures (R120) and
the pins (R66, R140, R152, R154). -/

namespace Sys2Proof.Machine

/-- The answer of a step of this block. -/
abbrev Answer := Host.Outcome State Fault Refusal

/-! ### Pins -/

/-- The fans whose drives are pins, in the order of the fans group (R162). -/
def fanPins : List FanId :=
  [.zone 0, .zone 1, .zone 2, .zone 3, .curtain 0, .curtain 1, .curtain 2, .defrost]

/-- The drive of a fan, off where the node has no such fan (R153, R154). -/
def State.fanOutput (s : State) (f : FanId) : Nat :=
  match s.fan? f with
  | some b => b.output
  | none => 0

/-- The louvre position output (R140); 0 on a node that is not the cab node. -/
def State.louvreOutput (s : State) : Nat :=
  match s.defrost with
  | some d => capNat 255 (s.config.cab.rest + d.louvre)
  | none => 0

/-- The lamps (R152): the flags in use, but DEFROST_BOOST of the cab node's own word. -/
def State.lamps (s : State) : Flags :=
  match s.word with
  | some w => { s.inUse.flags with boost := w.flags.boost }
  | none => s.inUse.flags

/-- The pins as the records call for them. -/
def State.pins (s : State) : Outputs :=
  { stages := s.stages.map Stage.output
    fans := fanPins.map s.fanOutput
    motor := s.damper.motor
    louvre := s.louvreOutput
    lamps := s.lamps }

/-- The pins are driven; all are off until the node runs (R164). -/
def driveOutputs (s : State) : State := { s with outputs := if s.phase = .running then s.pins else .off }

/-! ### Closing a step -/

/-- What closes a step. -/
def finish (s : State) : State := driveOutputs (noteDraw (payAttempt s))

/-! ### Taking a command -/

/-- An event that the node takes only while it runs; before, it has no effect (log 22). -/
def whileRunning (effect : State → State) (s : State) : Answer :=
  .next (if s.phase = .running then finish (effect s) else s)

/-- A timer's expiry: it moves the clock to the expiry and has its effect; a timer that does not run has no expiry
(log 4). -/
def atExpiry (timer : Timer) (effect : State → State) (s : State) : Answer :=
  match timer with
  | .running e => whileRunning effect (if s.phase = .running then advanceTo e s else s)
  | .stopped => .next s
  | .expired => .next s

/-- A periodic timer's next expiry, one period after the expiry taken (log 26). -/
def Timer.next (ms : Nat) : Timer → Timer
  | .running e => .running (timeAfter e ms)
  | t => t

/-! ### The damper's commands -/

/-- ENCODER_STEP (R158, R160). -/
def execEncoderStep (move : EncoderMove) (s : State) : Answer := whileRunning (encoderStep move) s

/-- STALL_TIMER_EXPIRY (R160). -/
def execStallTimerExpiry (s : State) : Answer := atExpiry s.damper.stall stallExpiry s

/-- REST_TIMER_EXPIRY (R160). -/
def execRestTimerExpiry (s : State) : Answer := atExpiry s.damper.rest restExpiry s

/-! ### The blower supervisor's commands -/

/-- The window timer's expiry: every fan is examined (R155). -/
def windowExpiry (s : State) : State :=
  let s1 := { s with windowTimer := s.windowTimer.next 500 }
  s1.fans.foldl (fun s b => examineFan b.fan s) s1

/-- TACH_WINDOW_EXPIRY (R155). -/
def execTachWindowExpiry (s : State) : Answer := atExpiry s.windowTimer windowExpiry s

/-- The start timer of a fan, stopped where the node has no such fan. -/
def State.startTimer (s : State) (f : FanId) : Timer :=
  match s.fan? f with
  | some b => b.start
  | none => .stopped

/-- The retry timer of a fan, stopped where the node has no such fan. -/
def State.retryTimer (s : State) (f : FanId) : Timer :=
  match s.fan? f with
  | some b => b.retry
  | none => .stopped

/-- The start timer's expiry: a fan still in STARTING fails (R155). -/
def startExpiry (f : FanId) (s : State) : State :=
  let s1 := s.modFan f (fun b => { b with start := .stopped })
  match s.fan? f with
  | some b => if b.state = .starting then failFan f s1 else s1
  | none => s1

/-- START_TIMER_EXPIRY (R155). -/
def execStartTimerExpiry (f : FanId) (s : State) : Answer := atExpiry (s.startTimer f) (startExpiry f) s

/-- The retry timer's expiry: a FAILED fan goes STARTING at its commanded level (R156). -/
def retryExpiry (f : FanId) (s : State) : State :=
  s.modFan f (fun b => if b.state = .failed then b.starting s.clock else { b with retry := .stopped })

/-- RETRY_TIMER_EXPIRY (R156). -/
def execRetryTimerExpiry (f : FanId) (s : State) : Answer := atExpiry (s.retryTimer f) (retryExpiry f) s

end Sys2Proof.Machine
end

