-- ==== Sys2Proof/Machine/Drafts.lean ====
section
/-! DEFINITION. Draft lists (R33 to R40): contributions, events, replacement, evaluation and the decay of a lost station's
records. -/

namespace Sys2Proof.Machine

/-- The record stands for the door (station, index) (R33). -/
def Draft.isFor (d : Draft) (station : Station) (door : Fin 3) : Bool := d.station == station && d.door == door

/-- The contribution of a record in OPEN (R38). -/
def State.openContribution (s : State) (d : Draft) : Nat :=
  match d.origin with
  | .peer => d.weight
  | .loc =>
    match s.door? d.door with
    | none => d.weight
    | some r =>
      match r.state with
      | .stuck => d.weight / 4
      | .closed => d.weight
      | .opened =>
        match r.openedAt with
        | some t => if s.inUse.flags.layover && decide (60000 < elapsed s.clock t) then d.weight / 2 else d.weight
        | none => d.weight

/-- What is left of a record's decay, in units of 100 ms; 0 once it has run out, and the whole total in OPEN (R38). -/
def Draft.remaining (now : Time) (d : Draft) : Nat :=
  match d.state, d.close with
  | .decay, some t => d.total - elapsed now t / 100
  | _, _ => d.total

/-- The contribution of a record (R38). -/
def State.contribution (s : State) (d : Draft) : Nat :=
  match d.state with
  | .opened => s.openContribution d
  | .decay => d.weight * d.remaining s.clock / d.total

/-- The record's decay has run out (R38). -/
def Draft.runOut (now : Time) (d : Draft) : Bool := d.state == .decay && d.remaining now == 0

/-! ### Events on one list -/

/-- The position of the smallest contribution, the one nearest the front among equals, with that contribution (R36). -/
def smallest (contribution : Draft → Nat) : Nat → List Draft → Option (Nat × Nat)
  | _, [] => none
  | i, d :: rest =>
    match smallest contribution (i + 1) rest with
    | none => some (i, contribution d)
    | some (j, c) => if contribution d ≤ c then some (i, contribution d) else some (j, c)

/-- The replacement of R36 in a full list. -/
def replaceSmallest (contribution : Draft → Nat) (rec : Draft) (l : List Draft) : List Draft :=
  match smallest contribution 0 l with
  | some (i, c) => if c < rec.weight then l.set i rec else l
  | none => l

/-- An OPEN event on a list, with the record it would make (R35). -/
def draftOpened (contribution : Draft → Nat) (rec : Draft) (l : List Draft) : List Draft :=
  if l.any (fun d => d.isFor rec.station rec.door) then
    if rec.weight = 0 then l.filter (fun d => !d.isFor rec.station rec.door)
    else l.map (fun d => if d.isFor rec.station rec.door then rec else d)
  else if rec.weight = 0 then l
  else if l.length < 8 then l ++ [rec]
  else replaceSmallest contribution rec l

/-- A CLOSED event for a door on a list (R37). -/
def draftClosed (now : Time) (station : Station) (door : Fin 3) (total : Nat) (l : List Draft) : List Draft :=
  l.map (fun d =>
    if d.isFor station door && d.state == .opened then { d with state := .decay, close := some now, total := total }
    else d)

/-- The loss of a station moves its OPEN PEER records to DECAY, with the decay total they hold (R39). -/
def draftLost (now : Time) (station : Station) (l : List Draft) : List Draft :=
  l.map (fun d =>
    if d.station = station ∧ d.origin = .peer ∧ d.state = .opened then
      { d with state := .decay, close := some now }
    else d)

/-! ### Events on the node's lists -/

/-- Change each zone's draft list, by zone number. -/
def draftsFrom (g : Nat → List Draft → List Draft) : Nat → List Zone → List Zone
  | _, [] => []
  | i, z :: rest => { z with drafts := g i z.drafts } :: draftsFrom g (i + 1) rest

/-- The state with every zone's draft list changed, in zone order. -/
def State.mapDrafts (s : State) (g : Nat → List Draft → List Draft) : State :=
  { s with zones := draftsFrom g 0 s.zones }

/-- The OPEN event of a local door, in each zone whose weight for it is above 0 (R27). -/
def localOpened (d : Fin 3) (g : DoorCfg) (s : State) : State :=
  s.mapDrafts (fun z l =>
    let w := g.weights.getD z 0
    if w = 0 then l
    else draftOpened s.contribution ⟨s.straps.station, d, .loc, w, .opened, 10 * g.decay, none⟩ l)

/-- The CLOSED event of a local door, in every zone (R28, R30). -/
def localClosed (d : Fin 3) (g : DoorCfg) (s : State) : State :=
  s.mapDrafts (fun _ l => draftClosed s.clock s.straps.station d (10 * g.decay) l)

/-- The weight a peer's DOOR frame gives a record (R34). -/
def State.peerWeight (s : State) (car : Fin 3) (carried : BitVec 16) : Nat :=
  capNat 1000 carried.toNat * s.config.attenuation.getD car.val 0 / 1000

/-- The decay total a peer's DOOR frame gives a record: ten times its seconds clamped to 10..120 (R34). -/
def peerTotal (carried : Byte) : Nat := 10 * max 10 (capNat 120 carried.toNat)

/-- A peer's DOOR frame acts on every zone's list (R40); one that names no car, door or event is set aside (R34,
R115). -/
def peerDoor (source : Station) (b : DoorBody) (s : State) : State :=
  match doorIdOf b with
  | none => s
  | some (car, door) =>
    if b.event = 1#8 then
      s.mapDrafts (fun _ l =>
        draftOpened s.contribution
          ⟨source, door, .peer, s.peerWeight car b.weight, .opened, peerTotal b.decay, none⟩ l)
    else if b.event = 0#8 then
      s.mapDrafts (fun _ l => draftClosed s.clock source door (peerTotal b.decay) l)
    else s

/-- The door monitor is told of the loss of a station (R39). -/
def lossDecay (station : Station) (s : State) : State := s.mapDrafts (fun _ l => draftLost s.clock station l)

/-! ### Evaluation -/

/-- The sum of the contributions of a zone's list as they stand (R15, R38). -/
def State.draftSum (s : State) (z : Zone) : Nat := (z.drafts.map s.contribution).sum

/-- The removal of the records whose decay has run out (R38). -/
def Zone.prune (now : Time) (z : Zone) : Zone := { z with drafts := z.drafts.filter (fun d => !d.runOut now) }

end Sys2Proof.Machine
end

