-- ==== Sys2Proof/Machine/Doors.lean ====
section
/-! DEFINITION. The door monitor: accepted opens and closes (R26 to R30), DOOR frames (R31), curtains (R41 to R44) and what
it tells the damper drive (R45). -/

namespace Sys2Proof.Machine

/-- The milliseconds from an opening to its stuck expiry: 20 min (R26). -/
def stuckMs : Nat := 1200000

/-- The milliseconds from an opening to its layover mark: 60 s (R26). -/
def layoverMarkMs : Nat := 60000

/-! ### Curtains -/

/-- The hand-off of a door's curtain (R41): its stages, its fan, and the claims. -/
def handCurtain (d : Fin 3) (s : State) : State :=
  let n := s.curtainCount d
  reformClaims (commandFan (.curtain d) (if n = 0 then 0 else 1) (handOffSingle (.curtain d) .curtain n s))

/-- A door's curtain moves (R41): a door without curtain stages has none, and a change between wanted and not wanted is
handed on. The run-on timer runs in RUN_ON only. -/
def setCurtain (d : Fin 3) (c : Curtain) (runOn : Timer) (s : State) : State :=
  match s.door? d, s.doorCfg? d with
  | some r, some g =>
    if g.curtainStages = 0 then s
    else
      let s1 := s.modDoor d (fun r => { r with curtain := c, runOn := runOn })
      if r.curtain.isWanted = c.isWanted then s1 else handCurtain d s1
  | _, _ => s

/-- The curtain's move at an accepted open (R41, R44). -/
def curtainOpened (d : Fin 3) (before : Curtain) (s : State) : State :=
  if s.inUse.flags.ventOnly then setCurtain d .barred .stopped s
  else match before with
    | .off => setCurtain d .wanted .stopped s
    | .runOn => setCurtain d .wanted .stopped s
    | .wanted => s
    | .barred => s

/-- The curtain's move at an accepted close of a door in OPEN (R42); a run-on of 0 s withdraws it with the close. -/
def curtainClosed (d : Fin 3) (before : Curtain) (runOn : Nat) (s : State) : State :=
  match before with
  | .wanted => if runOn = 0 then setCurtain d .off .stopped s else setCurtain d .runOn (s.timer (runOn * 1000)) s
  | .barred => setCurtain d .off .stopped s
  | .off => s
  | .runOn => s

/-- A curtain in WANTED is barred (R43). -/
def barCurtain (d : Fin 3) (s : State) : State :=
  match s.door? d with
  | some r => if r.curtain = .wanted then setCurtain d .barred .stopped s else s
  | none => s

/-- VENT_ONLY is gained: a door's curtain is withdrawn (R44). -/
def ventCurtain (d : Fin 3) (s : State) : State :=
  match s.door? d with
  | some r =>
    match r.curtain with
    | .wanted => setCurtain d .barred .stopped s
    | .runOn => setCurtain d .off .stopped s
    | .off => s
    | .barred => s
  | none => s

/-- VENT_ONLY is gained: every curtain of the node is withdrawn (R44). -/
def ventCurtains (s : State) : State := ventCurtain 2 (ventCurtain 1 (ventCurtain 0 s))

/-- The door has been OPEN past its layover mark: more than 60 s, or 60 s with the mark already expired (R43, log 32). -/
def Door.pastMark (now : Time) (r : Door) : Bool :=
  match r.openedAt with
  | some t => r.state == .opened
    && (decide (layoverMarkMs < elapsed now t) || (elapsed now t == layoverMarkMs && !r.layoverMark.isRunning))
  | none => false

/-- LAYOVER is gained: the curtain of a door open past its mark is barred (R43). -/
def layoverCurtain (d : Fin 3) (s : State) : State :=
  match s.door? d with
  | some r => if r.pastMark s.clock then barCurtain d s else s
  | none => s

/-- LAYOVER is gained (R43). -/
def layoverCurtains (s : State) : State := layoverCurtain 2 (layoverCurtain 1 (layoverCurtain 0 s))

/-! ### DOOR frames and the damper -/

/-- A door's largest configured zone weight (R31). -/
def largestWeight (g : DoorCfg) : Nat := g.weights.foldl max 0

/-- Queue the DOOR frame of a door with an event and a draft weight (R31). -/
def announceDoor (d : Fin 3) (g : DoorCfg) (opened : Bool) (weight : Nat) (s : State) : State :=
  queueDoor
    { car := BitVec.ofNat 4 s.straps.car.val, door := BitVec.ofNat 4 d.val, event := if opened then 1#8 else 0#8,
      weight := natHalf weight, decay := natByte g.decay } s

/-- Some local door is in OPEN (R45). -/
def State.anyDoorOpen (s : State) : Bool := s.doors.any (fun r => r.state == .opened)

/-- The door monitor tells the damper drive, where its answer has changed, whether a local door is open (R45). -/
def noticeDamper (s : State) : State :=
  if s.anyDoorOpen = s.damper.doorOpen then s else retarget (s.modDamper (fun d => { d with doorOpen := s.anyDoorOpen }))

/-! ### Door events -/

/-- The record of a door that opens now, with its stuck timer and layover mark (R26, R27). -/
def Door.opening (now : Time) (r : Door) : Door :=
  { r with
    state := .opened, openedAt := some now, stuck := .running (timeAfter now stuckMs),
    layoverMark := .running (timeAfter now layoverMarkMs) }

/-- The record of a door that is closed (R26, R28, R30). -/
def Door.closing (r : Door) : Door :=
  { r with state := .closed, openedAt := none, stuck := .stopped, layoverMark := .stopped }

/-- The open count after an accepted open (R27). -/
def countUp (n : Nat) : Nat := if n < 65535 then n + 1 else n

/-- An accepted open of a door (R27); of a door not CLOSED it cannot arise. The bullets of R27 are taken as listed, so that the
DEMAND entry of the curtain's claim joins the transmit list before the DOOR entry (log 39). -/
def acceptedOpen (d : Fin 3) (s : State) : State :=
  match s.door? d, s.doorCfg? d with
  | some r, some g =>
    if r.state = .closed then
      let s1 := s.modDoor d (fun r => { r.opening s.clock with openCount := countUp r.openCount })
      let s2 := curtainOpened d r.curtain (localOpened d g s1)
      noticeDamper (announceDoor d g true (largestWeight g) s2)
    else s
  | _, _ => s

/-- An accepted close of a door, in OPEN (R28) or in STUCK (R30). The bullets are taken as listed: the DEMAND entry of a curtain
withdrawn with the close joins the transmit list before the DOOR entry (log 39). -/
def acceptedClose (d : Fin 3) (s : State) : State :=
  match s.door? d, s.doorCfg? d with
  | some r, some g =>
    let s1 := localClosed d g (s.modDoor d Door.closing)
    match r.state with
    | .opened => noticeDamper (announceDoor d g false (largestWeight g) (curtainClosed d r.curtain g.runOn s1))
    | .stuck => recheck .doorStuck (setCurtain d .off .stopped (announceDoor d g false (largestWeight g) s1))
    | .closed => s
  | _, _ => s

/-- The first sample of a door after a reset sets its state without an event (R26). -/
def firstDoorSample (d : Fin 3) (level : Bool) (s : State) : State :=
  noticeDamper (s.modDoor d (fun r => if level then r.opening s.clock else r.closing))

/-- One sample of a door's input (R25 to R30). -/
def sampleDoor (d : Fin 3) (level : Bool) (s : State) : State :=
  match s.door? d, s.doorCfg? d with
  | some r, some g =>
    let out := r.filter.sample g.filter level
    let s1 := s.modDoor d (fun r => { r with filter := out.1 })
    if r.filter.level = none then firstDoorSample d level s1
    else match out.2 with
      | some true => acceptedOpen d s1
      | some false => acceptedClose d s1
      | none => s1
  | _, _ => s

/-- The stuck timer's expiry (R29). Its bullets are taken as listed: the curtain's DEMAND entry, the DOOR entry, and then the
STATUS entry of DOOR_STUCK (log 39). -/
def stuckExpiry (d : Fin 3) (s : State) : State :=
  match s.door? d, s.doorCfg? d with
  | some r, some g =>
    let s1 := s.modDoor d (fun r => { r with stuck := .stopped })
    if r.state = .opened then
      let s2 := s1.modDoor d (fun r => { r with state := .stuck, layoverMark := .stopped })
      recheck .doorStuck
        (noticeDamper (announceDoor d g true (largestWeight g / 4) (setCurtain d .barred .stopped s2)))
    else s1
  | _, _ => s

/-- The layover mark's expiry (R43). -/
def layoverMarkExpiry (d : Fin 3) (s : State) : State :=
  let s1 := s.modDoor d (fun r => { r with layoverMark := .stopped })
  if s1.inUse.flags.layover then barCurtain d s1 else s1

/-- The run-on timer's expiry (R42). -/
def runOnExpiry (d : Fin 3) (s : State) : State :=
  match s.door? d with
  | some r =>
    if r.curtain = .runOn then setCurtain d .off .stopped s
    else s.modDoor d (fun r => { r with runOn := .stopped })
  | none => s

/-! ### Commands -/

/-- A timer of a door, stopped where the node has no such door. -/
def State.doorTimer (s : State) (d : Fin 3) (timer : Door → Timer) : Timer :=
  match s.door? d with
  | some r => timer r
  | none => .stopped

/-- STUCK_TIMER_EXPIRY (R29). -/
def execStuckTimerExpiry (d : Fin 3) (s : State) : Answer := atExpiry (s.doorTimer d Door.stuck) (stuckExpiry d) s

/-- LAYOVER_MARK_EXPIRY (R43). -/
def execLayoverMarkExpiry (d : Fin 3) (s : State) : Answer :=
  atExpiry (s.doorTimer d Door.layoverMark) (layoverMarkExpiry d) s

/-- RUN_ON_EXPIRY (R42). -/
def execRunOnExpiry (d : Fin 3) (s : State) : Answer := atExpiry (s.doorTimer d Door.runOn) (runOnExpiry d) s

end Sys2Proof.Machine
end

