-- ==== Sys2Proof/Machine/Zones.lean ====
section
/-! DEFINITION. The zone regulator (chapter 1): scans (R4 to R6), the control computation (R7, R10 to R23), and what reaches
a zone between its expiries (R9, R20, R21). -/

namespace Sys2Proof.Machine

/-! ### Scans -/

/-- A valid scan (R4). -/
def Zone.validScan (now : Time) (t : Int) (z : Zone) : Zone :=
  let ended := z.badRun == 3
  { z with
    measured := some t, lastValid := some now, badRun := 0,
    returnPending := z.returnPending || ended, hold := if ended then .stopped else z.hold }

/-- The state a zone takes when its bad-scan run reaches 3 (R5). -/
def Zone.failedState (z : Zone) : ZoneState :=
  match z.state with
  | .regulating => if z.measured.isSome then .holding else .fallback
  | .holding => .holding
  | .fallback => .fallback
  | .off => .off

/-- A bad scan (R5). -/
def Zone.badScan (now : Time) (z : Zone) : Zone :=
  if z.badRun = 3 then z
  else if z.badRun = 2 then
    { z with
      badRun := 3, returnPending := false, state := z.failedState,
      hold := if z.measured.isSome then .running (timeAfter now 60000) else z.hold }
  else { z with badRun := z.badRun + 1 }

/-- The outcome of a scan is taken by a zone (R4, R5). -/
def Zone.scan (now : Time) (r : Reply) (z : Zone) : Zone :=
  match r.reading with
  | some t => z.validScan now t
  | none => z.badScan now

/-- The hold timer's expiry (R6). -/
def holdExpiry (z : Fin 4) (s : State) : State :=
  recheck .zoneSensor (s.modZone z (fun r =>
    { r with hold := .stopped, state := if r.state = .holding then .fallback else r.state }))

/-! ### The stages of the control computation -/

/-- The return step (R7). -/
def Zone.returnStep (z : Zone) : Zone :=
  if z.returnPending then
    { z with
      returnPending := false, integral := 0,
      state := match z.state with
        | .holding => .regulating
        | .fallback => .regulating
        | .regulating => .regulating
        | .off => .off }
  else z

/-- The state a zone takes on leaving OFF, from its sensor standing (R10). -/
def Zone.standing (z : Zone) : ZoneState :=
  if z.badRun < 3 then .regulating else if z.hold.isRunning then .holding else .fallback

/-- A zone in OFF leaves it where VENT_ONLY is no longer adopted (R10). -/
def Zone.leaveOff (ventOnly : Bool) (z : Zone) : Zone :=
  if z.state = .off ∧ ventOnly = false then { z with state := z.standing } else z

/-- The effective setpoint of a base setpoint and an offset (R12). -/
def effectiveSetpoint (base offset : Int) : Int := clampInt 150 290 (base + offset)

/-- The setpoint transfer (R12). -/
def Zone.transfer (base : Int) (z : Zone) : Zone :=
  { z with activeOffset := z.pendingOffset, setpoint := effectiveSetpoint base z.pendingOffset }

/-- The measurement the full computation runs on: that of REGULATING, where present, and of HOLDING (R11). -/
def Zone.regulated (z : Zone) : Option Int :=
  match z.state with
  | .regulating => z.measured
  | .holding => z.measured
  | .fallback => none
  | .off => none

/-- The error e (R13). -/
def Zone.error (z : Zone) (measured : Int) : Int := clampInt (-200) 200 (z.setpoint - measured)

/-- The fresh-air term (R14). -/
def freshTerm (fraction : Nat) (setpoint agreed : Int) (kf : Nat) : Nat :=
  capNat 500 (fraction * (setpoint - agreed).toNat * kf / 10000)

/-- The draft term (R15). -/
def draftTerm (sum : Nat) : Nat := capNat 400 sum

/-- The zone's stages ENERGIZED in class ZONE fall short of its wanted count (R16). -/
def State.powerLimited (s : State) (z : Fin 4) (wanted size : Nat) : Bool :=
  decide (sumSizes (fun st => st.state == .energized && st.owner == .zone z && st.inClass .zone) s.stages < wanted * size)

/-- A skip condition of the integral step holds (R17). -/
def State.skipsIntegral (s : State) (z : Fin 4) (r : Zone) (e ua : Int) : Bool :=
  r.drafts.any (fun d => d.origin == .loc && d.state == .opened)
    || s.stages.any (fun st => st.heating && st.owner == .zone z && st.inClass .absorb)
    || !s.fanRunning (.zone z)
    || decide (0 < e ∧ (1000 ≤ ua ∨ r.limited = true))
    || decide (e < 0 ∧ ua ≤ 0)

/-- The demand of the terms, before it is clamped: P + floor(I / 16) + F_f + F_d (R17, R18). -/
def demandSum (p : Int) (integral : Nat) (ff fd : Nat) : Int := p + ((integral / 16 + ff + fd : Nat) : Int)

/-- The integral after an integral step (R17). -/
def integralStep (integral ki : Nat) (e : Int) : Nat := (clampInt 0 16000 ((integral : Int) + (ki : Int) * e)).toNat

/-- The demand clamped to 0..1000 (R18). -/
def clampDemand (u : Int) : Nat := (clampInt 0 1000 u).toNat

/-- The integral and the demand of the full computation on a measurement (R13 to R18). -/
def State.regulate (s : State) (z : Fin 4) (g : ZoneCfg) (r : Zone) (sum : Nat) (measured : Int) : Nat × Nat :=
  let e := r.error measured
  let p := (g.kp : Int) * e
  let ff := freshTerm s.freshFraction r.setpoint s.view.agreed g.kf
  let fd := draftTerm sum
  let ua := demandSum p r.integral ff fd
  let integral := if s.skipsIntegral z r e ua then r.integral else integralStep r.integral g.ki e
  (integral, clampDemand (demandSum p integral ff fd))

/-- The wanted count by hysteresis (R19). -/
def hysteresis (avail u c : Nat) : Nat :=
  let x := u * avail
  let c' :=
    if 1000 * c + 600 ≤ x then min avail ((x + 400) / 1000)
    else if x + 600 ≤ 1000 * c then ceilDiv (x - 400) 1000
    else c
  min avail c'

/-- The cap of ECO on a wanted count (R20). -/
def ecoCap (eco : Bool) (avail c : Nat) : Nat := if eco then min c (ceilDiv avail 2) else c

/-- The absorb offer of the full computation (R22). -/
def State.absorbOffer (s : State) (r : Zone) (wanted : Nat) (measured : Int) : Nat :=
  if 0 < s.alloc.surplus ∧ measured < r.setpoint + 15 ∧ s.inUse.flags.ventOnly = false then r.avail - wanted else 0

/-- The demand, the count and the offer of one expiry in any state but OFF (R16 to R22). -/
def State.control (s : State) (z : Fin 4) (g : ZoneCfg) (r : Zone) (sum : Nat) : Zone :=
  let r1 := { r with limited := s.powerLimited z r.wanted g.size }
  let (integral, u) := match r1.regulated with
    | some m => s.regulate z g r1 sum m
    | none => (r1.integral, if r1.state = .fallback then g.fallback else 0)
  let c := ecoCap s.inUse.flags.eco r1.avail (hysteresis r1.avail u r1.wanted)
  let offer := match r1.regulated with
    | some m => s.absorbOffer r1 c m
    | none => 0
  { r1 with integral := integral, demand := u, wanted := c, offer := offer }

/-! ### Hand-offs -/

/-- A changed count or offer is handed on, and the claims are re-formed (R23). -/
def handOff (z : Fin 4) (before after : Zone) (s : State) : State :=
  if before.wanted = after.wanted ∧ before.offer = after.offer then s
  else reformClaims (handOffZone z after.wanted after.offer s)

/-- The zone's context after one control-period expiry (R11): the return, the state taken on leaving OFF, the setpoint, the
draft list, and the stages that run in the state that results. -/
def State.controlled (s : State) (z : Fin 4) (g : ZoneCfg) (r : Zone) : Zone :=
  let r1 : Zone := (r.returnStep.leaveOff s.inUse.flags.ventOnly).transfer g.base
  let r2 : Zone := { r1.prune s.clock with control := r.control.next (g.period * 1000) }
  if r2.state = .off then r2 else s.control z g r2 (s.draftSum r1)

/-- The new context stands, and what it changed is handed on (R23). -/
def afterControl (z : Fin 4) (before after : Zone) (s : State) : State :=
  let s1 := handOff z before after (recheck .zoneSensor (s.modZone z (fun _ => after)))
  if after.state = .off then s1 else handDemand z after.demand s1

/-- One control-period expiry of a zone (R11). -/
def controlExpiry (z : Fin 4) (s : State) : State :=
  match s.zone? z, s.zoneCfg? z with
  | some r, some g => afterControl z r (s.controlled z g r) s
  | _, _ => s

/-- A zone enters OFF where it is not in it (R9): its count and offer of 0 are handed on, and its fan's demand level becomes
1 (R157). -/
def enterOff (z : Fin 4) (s : State) : State :=
  match s.zone? z with
  | some r =>
    if r.state = .off then s
    else
      let s1 := s.modZone z (fun r => { r with state := .off, wanted := 0, offer := 0, demand := 0, limited := false })
      handOffZone z 0 0 (s1.modFan (.zone z) (fun b => { b with demandLevel := 1 }))
  | none => s

/-- VENT_ONLY is gained: every zone enters OFF (R9). -/
def enterOffAll (s : State) : State :=
  recheck .zoneSensor (enterOff 3 (enterOff 2 (enterOff 1 (enterOff 0 s))))

/-- ECO is gained: a zone's count above the cap is lowered to it at once (R20). -/
def capZone (z : Fin 4) (s : State) : State :=
  match s.zone? z with
  | some r =>
    let c := ecoCap true r.avail r.wanted
    if c = r.wanted then s
    else reformClaims (handOffZone z c r.offer (s.modZone z (fun r => { r with wanted := c })))
  | none => s

/-- ECO is gained (R20). -/
def capZones (s : State) : State := capZone 3 (capZone 2 (capZone 1 (capZone 0 s)))

/-- A zone's context when N_avail falls by one (R21). -/
def Zone.availFalls (eco : Bool) (z : Zone) : Zone :=
  let avail := z.avail - 1
  let c := ecoCap eco avail (min z.wanted avail)
  { z with avail := avail, wanted := c, offer := min z.offer (avail - c) }

/-- N_avail of a zone falls by one (R21): a changed count or offer is handed to the stage controller, whose shortfalls the
fault's step 4 fills (R63, log 14). -/
def availFall (z : Fin 4) (s : State) : State :=
  match s.zone? z with
  | some r =>
    let r1 := r.availFalls s.inUse.flags.eco
    let s1 := s.modZone z (fun _ => r1)
    if r1.wanted = r.wanted ∧ r1.offer = r.offer then s1
    else reformClaims (zoneFalls z r1.wanted r1.offer s1)
  | none => s

/-- The pending offset of every zone is written (R12, R151). -/
def writeOffsets (offset : Int) (s : State) : State :=
  { s with zones := s.zones.map (fun z => { z with pendingOffset := offset }) }

/-! ### Commands -/

/-- A timer of a zone, stopped where the node has no such zone. -/
def State.zoneTimer (s : State) (z : Fin 4) (timer : Zone → Timer) : Timer :=
  match s.zone? z with
  | some r => timer r
  | none => .stopped

/-- CONTROL_PERIOD_EXPIRY (R11). -/
def execControlPeriodExpiry (z : Fin 4) (s : State) : Answer :=
  atExpiry (s.zoneTimer z Zone.control) (controlExpiry z) s

/-- HOLD_TIMER_EXPIRY (R6). -/
def execHoldTimerExpiry (z : Fin 4) (s : State) : Answer := atExpiry (s.zoneTimer z Zone.hold) (holdExpiry z) s

end Sys2Proof.Machine
end

