-- ==== Sys2Proof/Machine/Sharing.lean ====
section
/-! DEFINITION. The sharing states (R67 to R69, R76, R77, R80 to R90): POWER frames, silence, the gap, the hold-off and the
entries into SILENT, MUTED and ISOLATED. -/

namespace Sys2Proof.Machine

/-- The allocator's record changed by `g`. -/
def State.modAlloc (s : State) (g : Alloc → Alloc) : State := { s with alloc := g s.alloc }

/-- A sharing state is entered: the conditions that follow it are examined (R90, R118), an entry into ACTIVE makes an
admission attempt (R55), and the zone fans follow JOINING (R157). -/
def enterSharing (new : Sharing) (s : State) : State :=
  let s1 := s.modAlloc (fun a => { a with sharing := new })
  let s2 := recheck .duplicateStation (recheck .txFailed (recheck .powerSilent s1))
  let s3 := if new = .active then oweAttempt s2 else s2
  if (s.alloc.sharing = .joining) ≠ (new = .joining) then rechooseZoneFans s3 else s3

/-- The gap timer is stopped. -/
def stopGap (s : State) : State := s.modAlloc (fun a => { a with gap := .stopped })

/-- Entry into SILENT, with its shed (R61, R86). -/
def enterSilent (s : State) : State := shed (enterSharing .silent (stopGap s))

/-- Entry into MUTED, with its shed (R87): the conditions and their STATUS frame first, then the shed and its DEMAND frame
(log 35). -/
def enterMuted (s : State) : State := shed (enterSharing .muted (stopGap s))

/-- Entry into ISOLATED (R88): the own claims become 0, so that the shed raises no intent (log 15). -/
def enterIsolated (s : State) : State := shed (reformClaims (enterSharing .isolated (stopGap s)))

/-- Entry into GAP_HOLD (R82). -/
def enterGapHold (s : State) : State :=
  suspendAll ((enterSharing .gapHold s).modAlloc (fun a => { a with gap := s.timer 3000 }))

/-- The node leaves JOINING where power has been heard and its demand confirmed (R80). -/
def joinExit (s : State) : State :=
  if s.alloc.sharing = .joining ∧ s.alloc.powerHeard = true ∧ s.alloc.demandConfirmed = true then
    if s.alloc.silence.isExpired then enterSilent s else enterSharing .active s
  else s

/-! ### POWER frames -/

/-- A POWER frame's effect on the sharing state, from the line state taken before it (R80 to R88). -/
def powerOnSharing (before line : Line) (s : State) : State :=
  let dead := line = .dead ∧ before ≠ .dead
  match s.alloc.sharing with
  | .isolated => s
  | .muted => if dead then shed s else s
  | .joining => joinExit (if dead then shed s else s)
  | .silent => enterSharing .active (if dead then shed s else s)
  | .active =>
    if line = .gap ∧ (before = .live ∨ before = .dead) then enterGapHold s
    else if dead then shed s
    else s
  | .gapHold =>
    match line with
    | .live => enterSharing .active (stopGap s)
    | .dead => enterSharing .active (shed (stopGap s))
    | .gap => s
    | .none => s

/-- The budget and surplus after a POWER frame (R68 step 3). -/
def powerFigures (line : Line) (b : PowerBody) (a : Alloc) : Nat × Nat :=
  match line with
  | .gap => (a.budget, 0)
  | _ => (b.budget.toNat, b.surplus.toNat)

/-- A POWER frame of the power station is taken (R68); one with another line state is set aside. -/
def takePower (b : PowerBody) (s : State) : State :=
  match lineOf b.line with
  | none => s
  | some line =>
    let s1 := s.modAlloc (fun a => { a with silence := s.timer 500, powerHeard := true })
    let s2 := powerOnSharing s.alloc.line line s1
    let (budget, surplus) := powerFigures line b s2.alloc
    let s3 := s2.modAlloc (fun a => { a with budget := budget, surplus := surplus, line := line })
    if budget = s2.alloc.budget ∧ surplus = s2.alloc.surplus then s3 else recompute s3

/-! ### Timers -/

/-- The silence timer's expiry (R69). -/
def silenceExpiry (s : State) : State :=
  let s1 := recompute (s.modAlloc (fun a => { a with silence := .expired, budget := 0, surplus := 0, line := .none }))
  match s1.alloc.sharing with
  | .active => enterSilent s1
  | .gapHold => enterSilent s1
  | .joining => s1
  | .silent => s1
  | .muted => s1
  | .isolated => s1

/-- The gap timer's expiry (R84); the timer runs in GAP_HOLD alone (R67). -/
def gapExpiry (s : State) : State :=
  if s.alloc.sharing = .gapHold then enterSharing .active (shed (stopGap s)) else stopGap s

/-- The hold-off's expiry (R77). -/
def holdOffExpiry (s : State) : State :=
  let a := s.alloc
  let usable := a.announced.map₂ min a.allocation
  let s1 := setUsable usable (s.modAlloc (fun a => { a with holdOff := .stopped }))
  if Cls.all.any (fun c => decide (a.usable.get c < usable.get c)) then oweAttempt s1 else s1

/-! ### Confirmations (R76, R87) -/

/-- A confirmed DEMAND frame with the announced intents it carried (R76). -/
def demandConfirmation (carried : PerClass Byte) (s : State) : State :=
  let covered := Cls.all.all (fun c => decide (s.alloc.announced.get c ≤ (carried.get c).toNat))
  s.modAlloc (fun a =>
    if a.raisePending && covered then
      { a with demandConfirmed := true, raisePending := false, holdOff := s.timer 400 }
    else { a with demandConfirmed := true })

/-- Any confirmation ends MUTED (R87). -/
def mutedExit (s : State) : State :=
  if s.alloc.sharing = .muted then
    if s.alloc.powerHeard && s.alloc.demandConfirmed then
      if s.alloc.silence.isExpired then enterSilent s else enterSharing .active s
    else enterSharing .joining s
  else s

/-- The allocator's part of a confirmation: of a DEMAND frame with its intents, or of another frame (R76, R80, R87). -/
def confirmation (f : Frame) (s : State) : State :=
  let s1 := match f with
    | .demand b => demandConfirmation b.intents s
    | _ => s
  joinExit (mutedExit s1)

/-- The link controller reports a transmit failure (R87). -/
def transmitFailure (s : State) : State :=
  match s.alloc.sharing with
  | .joining => enterMuted s
  | .active => enterMuted s
  | .gapHold => enterMuted s
  | .silent => enterMuted s
  | .muted => s
  | .isolated => s

/-! ### Commands -/

/-- SILENCE_EXPIRY (R69). -/
def execSilenceExpiry (s : State) : Answer := atExpiry s.alloc.silence silenceExpiry s

/-- GAP_TIMER_EXPIRY (R84). -/
def execGapTimerExpiry (s : State) : Answer := atExpiry s.alloc.gap gapExpiry s

/-- HOLD_OFF_EXPIRY (R77). -/
def execHoldOffExpiry (s : State) : Answer := atExpiry s.alloc.holdOff holdOffExpiry s

end Sys2Proof.Machine
end

