-- ==== Sys2Proof/Machine/Defrost.lean ====
section
/-! DEFINITION. The defrost controller of the cab node (chapter 7): windscreen scans (R129), fog risk (R130), the defrost
states (R131 to R135) and the louvre sweep (R139). -/

namespace Sys2Proof.Machine

/-! ### Readings -/

/-- A bad scan adds 1 to a run held at 3 (R5, R96, R129). -/
def runUp (run : Nat) : Nat := if run < 3 then run + 1 else 3

/-- A cab air scan (R129). -/
def Defrost.cabScan (r : CabReply) (d : Defrost) : Defrost :=
  match r.reading with
  | some (t, h) => { d with cabTemp := some t, humidity := some h, cabRun := 0 }
  | none => { d with cabRun := runUp d.cabRun }

/-- A screen scan (R129). -/
def Defrost.screenScan (r : Reply) (d : Defrost) : Defrost :=
  match r.reading with
  | some t => { d with screen := some t, screenRun := 0 }
  | none => { d with screenRun := runUp d.screenRun }

/-- The dew estimate of a cab temperature and humidity (R130). -/
def dewEstimate (temperature : Int) (humidity : Nat) : Int := temperature - ((1000 - humidity) / 5 : Nat)

/-- The dew estimate as the readings stand; absent where the cab air sensor is invalid (R129, R130). -/
def Defrost.dewNow (d : Defrost) : Option Int :=
  if d.cabRun = 3 then none
  else match d.cabTemp, d.humidity with
    | some t, some h => some (dewEstimate t h)
    | _, _ => none

/-- The screen temperature where the screen sensor is valid (R129). -/
def Defrost.screenNow (d : Defrost) : Option Int := if d.screenRun = 3 then none else d.screen

/-- Fog risk as the readings stand (R130). -/
def Defrost.fogNow (margin : Nat) (d : Defrost) : Bool :=
  match d.dewNow, d.screenNow with
  | some td, some t => decide (t ≤ td + margin)
  | _, _ => true

/-- The screen is clear as the readings stand (R130). -/
def Defrost.clearNow (margin : Nat) (d : Defrost) : Bool :=
  match d.dewNow, d.screenNow with
  | some td, some t => decide (td + margin + 10 ≤ t)
  | _, _ => false

/-- The fog-risk test stores its results (R130). -/
def Defrost.tested (margin : Nat) (d : Defrost) : Defrost := { d with dew := d.dewNow, fogRisk := d.fogNow margin }

/-! ### States -/

/-- The louvre sweep at a change of state (R139, R140). -/
def Defrost.sweep (now : Time) (old : DefrostState) (d : Defrost) : Defrost :=
  if d.state = .off then { d with louvreTimer := .stopped, louvre := 0, direction := .up }
  else if old = .off then { d with louvreTimer := .running (timeAfter now 200), louvre := 0, direction := .up }
  else d

/-- The defrost state becomes `new`, with the hand-offs of a change (R135). -/
def defrostEnter (new : DefrostState) (s : State) : State :=
  match s.defrost with
  | none => s
  | some d =>
    if d.state = new then s
    else
      let s1 := s.modDefrost (fun d => { d with state := new })
      let s2 := handOffSingle .defrost .safety (defrostCount s.config.cab new) s1
      let s3 := commandFan .defrost (if new = .off then 0 else 1) s2
      (reformClaims s3).modDefrost (Defrost.sweep s.clock d.state)

/-- The fog-risk test of the record (R130). -/
def fogTest (s : State) : State := s.modDefrost (Defrost.tested s.config.cab.margin)

/-- The defrost check (R131). -/
def defrostCheck (s : State) : State :=
  match s.defrost with
  | none => s
  | some d =>
    let s1 := fogTest (s.modDefrost (fun d => { d with check := d.check.next 5000 }))
    let margin := s.config.cab.margin
    match d.state with
    | .off => if d.fogNow margin then defrostEnter .demist s1 else s1
    | .demist =>
      if d.clearNow margin then
        if 3 ≤ d.clearCount + 1 then (defrostEnter .off s1).modDefrost (fun d => { d with clearCount := 0 })
        else s1.modDefrost (fun d => { d with clearCount := d.clearCount + 1 })
      else s1.modDefrost (fun d => { d with clearCount := 0 })
    | .boost => s1

/-- The time of the next fall of a figure that counts the units of `ms` left to an expiry, rounded up (R134, R144): none
where the next fall is the expiry itself. -/
def fallTimer (expiry : Time) (ms figure : Nat) : Timer :=
  if 1 < figure then .running (expiry - BitVec.ofNat 32 (ms * (figure - 1))) else .stopped

/-- DEFROST_BOOST is set (R132, R134). -/
def boostEnter (s : State) : State :=
  let ms := s.config.cab.boost * 1000
  let left := ceilDiv s.config.cab.boost 10
  defrostEnter .boost (s.modDefrost (fun d =>
    { d with
      boost := s.timer ms, boostLeft := left, boostFall := fallTimer (timeAfter s.clock ms) 10000 left,
      clearCount := 0 }))

/-- DEFROST_BOOST is cleared, by the driver, by a mask or at the boost timer's expiry (R133); out of BOOST the clearing does
not move the state. -/
def boostExit (s : State) : State :=
  match s.defrost with
  | none => s
  | some d =>
    let s1 := s.modDefrost (fun d =>
      { d with boost := .stopped, boostLeft := 0, boostFall := .stopped, clearCount := 0 })
    if d.state = .boost then
      defrostEnter (if d.fogNow s.config.cab.margin then .demist else .off) (fogTest s1)
    else s

/-- A fall of the boost remaining (R134). -/
def Defrost.boostFalls (d : Defrost) : Defrost :=
  let left := d.boostLeft - 1
  { d with
    boostLeft := left
    boostFall := match d.boost with
      | .running e => fallTimer e 10000 left
      | _ => .stopped }

/-- One step of the louvre sweep (R139). -/
def Defrost.sweepStep (amplitude : Nat) (d : Defrost) : Defrost :=
  match d.direction with
  | .up =>
    let n := d.louvre + 1
    { d with louvre := n, direction := if n = amplitude then .down else .up }
  | .down =>
    let n := d.louvre - 1
    { d with louvre := n, direction := if n = 0 then .up else .down }

/-- The louvre timer's expiry (R139). -/
def louvreStep (s : State) : State :=
  s.modDefrost (fun d =>
    { d.sweepStep s.config.cab.amplitude with louvreTimer := d.louvreTimer.next 200 })

/-! ### Commands -/

/-- A timer of the defrost record, stopped on a node that is not the cab node. -/
def State.defrostTimer (s : State) (timer : Defrost → Timer) : Timer :=
  match s.defrost with
  | some d => timer d
  | none => .stopped

/-- DEFROST_CHECK (R131). -/
def execDefrostCheck (s : State) : Answer := atExpiry (s.defrostTimer Defrost.check) defrostCheck s

/-- LOUVRE_STEP (R139). -/
def execLouvreStep (s : State) : Answer := atExpiry (s.defrostTimer Defrost.louvreTimer) louvreStep s

end Sys2Proof.Machine
end

