-- ==== Sys2Proof/Machine/Overrides.lean ====
section
/-! DEFINITION. The override unit (chapter 8): the adoption of a change of the state in use (R151), the cab node's word and
its changes (R141 to R146), and the modes of the state in use (R147 to R150). -/

namespace Sys2Proof.Machine

/-! ### Adoption (R151) -/

/-- VENT_ONLY is gained (R151): zones, curtains, claims, fans and damper. -/
def ventGained (s : State) : State := retarget (rechooseZoneFans (reformClaims (ventCurtains (enterOffAll s))))

/-- VENT_ONLY is lost (R151): claims, fans and damper. -/
def ventLost (s : State) : State := retarget (rechooseZoneFans (reformClaims s))

/-- The changes from an earlier state in use are handed to the blocks, in the order of R151. -/
def adopt (old : InUse) (s : State) : State :=
  let new := s.inUse
  let car := s.straps.car
  let s1 := if old.offsets.ofCar car = new.offsets.ofCar car then s else writeOffsets (new.offsets.ofCar car) s
  let s2 :=
    if new.flags.ventOnly && !old.flags.ventOnly then ventGained s1
    else if old.flags.ventOnly && !new.flags.ventOnly then ventLost s1
    else s1
  let s3 := if new.flags.eco && !old.flags.eco then capZones s2 else s2
  let s4 := if new.flags.layover && !old.flags.layover then layoverCurtains s3 else s3
  if new.flags.recirc = old.flags.recirc then s4 else retarget s4

/-- The state in use is replaced, and its changes are handed on (R151). -/
def setInUse (new : InUse) (s : State) : State := adopt s.inUse { s with inUse := new }

/-! ### The word (R141 to R146) -/

/-- The node is its own accepted cab station (R106). -/
def State.ownCab (s : State) : Bool := s.view.accepted == some s.straps.station

/-- The state in use takes the word (R146, R150). -/
def takeWord (s : State) : State :=
  match s.word with
  | some w =>
    setInUse
      { mode := .own, flags := w.flags, offsets := w.offsets, layover := w.layoverLeft, boost := s.boostLeft,
        source := some s.straps.station, silence := .stopped, hold := .stopped } s
  | none => s

/-- Steps 2 and 3 of R146, after a change of the word or of the boost remaining: the state in use takes the word, and a
changed figure queues an OVERRIDE frame. -/
def handWord (before : Frame) (s : State) : State :=
  if s.ownCab then
    let s1 := takeWord s
    if s1.overrideFrame = before then s1 else queueSingle s1.overrideFrame s1
  else s

/-- The layover timer follows LAYOVER in the word (R144). -/
def OvrWord.layoverTimed (now : Time) (limit : Nat) (w old : OvrWord) : OvrWord :=
  if w.flags.layover = old.flags.layover then w
  else if w.flags.layover then
    { w with
      layover := .running (timeAfter now (limit * 60000)), layoverLeft := limit,
      layoverFall := fallTimer (timeAfter now (limit * 60000)) 60000 limit }
  else { w with layover := .stopped, layoverLeft := 0, layoverFall := .stopped }

/-- A change of the override word (R146): the layover timer, then the defrost controller, then the state in use, the
OVERRIDE frame and the lamps. -/
def changeWord (g : OvrWord → OvrWord) (s : State) : State :=
  match s.word with
  | none => s
  | some w =>
    let w1 := (g w).layoverTimed s.clock s.config.cab.layover w
    let s1 := { s with word := some w1 }
    let s2 :=
      if w1.flags.boost = w.flags.boost then s1
      else if w1.flags.boost then boostEnter s1
      else boostExit s1
    handWord s.overrideFrame s2

/-- The word with its flags changed. -/
def OvrWord.withFlags (f : Flags → Flags) (w : OvrWord) : OvrWord := { w with flags := f w.flags }

/-- One step of the car select (R143). -/
def CarSelect.step : CarSelect → CarSelect
  | .all => .car0
  | .car0 => .car1
  | .car1 => .car2
  | .car2 => .all

/-- The offsets after a WARMER or COOLER press (R143). -/
def OvrWord.warm (by5 : Int) (w : OvrWord) : OvrWord :=
  let move (x : Int) : Int := clampInt (-30) 30 (x + by5)
  let o := w.offsets
  { w with
    offsets := match w.select with
      | .all => ⟨move o.car0, move o.car1, move o.car2⟩
      | .car0 => { o with car0 := move o.car0 }
      | .car1 => { o with car1 := move o.car1 }
      | .car2 => { o with car2 := move o.car2 } }

/-- The change of the word that a press of key `k` makes (R142, R143), keys numbered as in `Pins`. -/
def keyChange (k : Nat) (w : OvrWord) : OvrWord :=
  match k with
  | 0 => w.withFlags (fun f => { f with eco := !f.eco })
  | 1 => w.withFlags (fun f => { f with recirc := !f.recirc })
  | 2 => w.withFlags (fun f => { f with layover := !f.layover })
  | 3 => w.withFlags (fun f => { f with ventOnly := !f.ventOnly })
  | 4 => w.withFlags (fun f => { f with boost := !f.boost })
  | 5 => { w with select := w.select.step }
  | 6 => w.warm 5
  | 7 => w.warm (-5)
  | _ => w

/-- The change of the word that set and clear masks make (R145). -/
def maskChange (set clear : Byte) (w : OvrWord) : OvrWord := w.withFlags (fun f => f.masked set clear)

/-- The layover timer's expiry (R144). -/
def layoverExpiry (s : State) : State :=
  changeWord (fun w => w.withFlags (fun f => { f with layover := false }))
    (s.modWord (fun w => { w with layover := .stopped }))

/-- A fall of the layover minutes (R144). -/
def OvrWord.minutesFall (w : OvrWord) : OvrWord :=
  let left := w.layoverLeft - 1
  { w with
    layoverLeft := left
    layoverFall := match w.layover with
      | .running e => fallTimer e 60000 left
      | _ => .stopped }

/-- The boost timer's expiry (R133): the flag is cleared in the word, a change that ends the boost. -/
def boostExpiry (s : State) : State :=
  changeWord (fun w => w.withFlags (fun f => { f with boost := false }))
    (s.modDefrost (fun d => { d with boost := .stopped }))

/-- A fall of the boost remaining (R134) goes through steps 2 and 3 of R146. -/
def boostFall (s : State) : State := handWord s.overrideFrame (s.modDefrost Defrost.boostFalls)

/-! ### The state in use (R147 to R150) -/

/-- Entry into HOLDING (R149). -/
def enterHolding (s : State) : State :=
  { s with inUse := { s.inUse with mode := .holding, silence := .stopped, hold := s.timer 60000 } }

/-- FOLLOWING, or OWN, goes to HOLDING; HOLDING and DEFAULT stand (R149, R150). -/
def holdInUse (s : State) : State :=
  match s.inUse.mode with
  | .following => enterHolding s
  | .own => enterHolding s
  | .holding => s
  | .default => s

/-- The view hands on a changed accepted cab station (R106, R107, R149, R150). -/
def acceptedChanged (new : Option Station) (s : State) : State :=
  let s1 := { s with view := { s.view with accepted := new } }
  if s.straps.cab && s1.ownCab then
    let s2 := takeWord s1
    recheck .roleConflict (queueSingle s2.overrideFrame s2)
  else
    let s2 := holdInUse s1
    recheck .roleConflict (if s.straps.cab then withdrawOverride s2 else s2)

/-- The view reports the loss of a station (R149). -/
def sourceLost (station : Station) (s : State) : State :=
  if s.inUse.mode = .following ∧ s.inUse.source = some station then enterHolding s else s

/-- The contents of an OVERRIDE frame, as R148 reads them. -/
def readOverride (now : Time) (source : Station) (b : OverrideBody) : InUse :=
  { mode := .following, flags := Flags.ofByte b.flags,
    offsets := ⟨offsetOf b.offset0, offsetOf b.offset1, offsetOf b.offset2⟩,
    layover := layoverOf b.layover, boost := boostOf b.boost, source := some source,
    silence := .running (timeAfter now 5000), hold := .stopped }

/-- The override unit takes an OVERRIDE frame of the accepted cab station, and sets any other aside (R148). -/
def takeOverride (source : Station) (b : OverrideBody) (s : State) : State :=
  if s.view.accepted = some source then setInUse (readOverride s.clock source b) s else s

/-- The override silence timer's expiry (R149). -/
def overrideSilence (s : State) : State :=
  let s1 := { s with inUse := { s.inUse with silence := .stopped } }
  if s.inUse.mode = .following then enterHolding s1 else s1

/-- The override hold timer's expiry: the state in use reverts (R149). -/
def overrideReverts (s : State) : State := setInUse (InUse.fresh none) s

/-! ### Commands -/

/-- A timer of the override word, stopped on a node that is not the cab node. -/
def State.wordTimer (s : State) (timer : OvrWord → Timer) : Timer :=
  match s.word with
  | some w => timer w
  | none => .stopped

/-- LAYOVER_TIMER_EXPIRY (R144). -/
def execLayoverTimerExpiry (s : State) : Answer := atExpiry (s.wordTimer OvrWord.layover) layoverExpiry s

/-- LAYOVER_MINUTES_FALL (R144). -/
def execLayoverMinutesFall (s : State) : Answer :=
  atExpiry (s.wordTimer OvrWord.layoverFall) (changeWord OvrWord.minutesFall) s

/-- BOOST_TIMER_EXPIRY (R133). -/
def execBoostTimerExpiry (s : State) : Answer := atExpiry (s.defrostTimer Defrost.boost) boostExpiry s

/-- BOOST_REMAINING_FALL (R134). -/
def execBoostRemainingFall (s : State) : Answer := atExpiry (s.defrostTimer Defrost.boostFall) boostFall s

/-- OVERRIDE_SILENCE_EXPIRY (R149). -/
def execOverrideSilenceExpiry (s : State) : Answer := atExpiry s.inUse.silence overrideSilence s

/-- OVERRIDE_HOLD_EXPIRY (R149). -/
def execOverrideHoldExpiry (s : State) : Answer := atExpiry s.inUse.hold overrideReverts s

end Sys2Proof.Machine
end

