-- ==== Sys2Proof/Machine/View.lean ====
section
/-! DEFINITION. The peer view (chapter 5): hearing a station (R97 to R100), the accepted cab station (R106), ageing and loss
(R101, R102), and the agreed outside temperature (R104, R105). -/

namespace Sys2Proof.Machine

/-! ### The accepted cab station (R106) -/

/-- The entry is a candidate for cab acceptance (R106). -/
def Entry.isCab (e : Entry) : Bool := e.cab && (e.state == .alive || e.state == .stale)

/-- The stations, by number. -/
def stations : List Station := List.ofFn (fun i : Station => i)

/-- The choice of R106. -/
def State.cabChoice (s : State) : Option Station := stations.find? (fun i => (s.entry i).isCab)

/-- The choice is re-evaluated, and a change of it is handed on (R106). -/
def reevaluate (s : State) : State :=
  if s.cabChoice = s.view.accepted then s else acceptedChanged s.cabChoice s

/-! ### Hearing a station (R97) -/

/-- What a DEMAND frame puts into an entry (R98). -/
def Entry.takeDemand (b : DemandBody) (e : Entry) : Entry :=
  { e with claims := b.claims.map (·.toNat), intents := b.intents.map (·.toNat), draw := b.draw.toNat }

/-- What a PRESENCE frame puts into an entry (R99). -/
def Entry.takePresence (now : Time) (b : PresenceBody) (e : Entry) : Entry :=
  let reading := outsideOf b.outside
  let e1 := { e with outside := reading, outsideAt := if reading.isSome then some now else none }
  match carOf b.car with
  | some car => { e1 with car := some car, cab := b.cab && car == 0 }
  | none => e1

/-- What a frame puts into its source's entry: DEMAND and PRESENCE frames act on it (R97 step 3). -/
def Entry.takeFrame (now : Time) (f : Frame) (e : Entry) : Entry :=
  match f with
  | .demand b => e.takeDemand b
  | .presence b => e.takePresence now b
  | _ => e

/-- An entry when its station is heard with a frame (R97 steps 1 to 3). -/
def Entry.heard (now : Time) (f : Frame) (e : Entry) : Entry :=
  let e1 := if e.state = .absent then Entry.absent else e
  { e1 with lastHeard := some now, state := .alive }.takeFrame now f

/-- The changes of an entry are handed on: to the allocation, and then to the choice of the cab station (R100; the order where
one frame changes both: log 36). -/
def entryChanged (before after : Entry) (s : State) : State :=
  let s1 :=
    if before.state = after.state ∧ before.claims = after.claims ∧ before.intents = after.intents then s
    else recompute s
  if before.state = after.state ∧ before.cab = after.cab then s1 else reevaluate s1

/-- The view takes a frame (R97, R100). -/
def hear (source : Station) (f : Frame) (s : State) : State :=
  let before := s.entry source
  entryChanged before (before.heard s.clock f) (s.modEntry source (Entry.heard s.clock f))

/-! ### Routing (R117) -/

/-- A frame under the node's own number (R118): the node enters ISOLATED, once. -/
def duplicate (s : State) : State := if s.alloc.sharing = .isolated then s else enterIsolated s

/-- A valid frame other than POWER is handed on by its source (R117): `further` is what follows the view's handling. -/
def receive (source : Station) (f : Frame) (further : State → State) (s : State) : State :=
  if source = s.straps.station then duplicate s
  else if source = s.config.powerStation then s
  else further (hear source f s)

/-- A POWER frame is handed on by its source (R117, R119). -/
def receivePower (source : Station) (b : PowerBody) (s : State) : State :=
  if source = s.straps.station then duplicate s
  else if source = s.config.powerStation then takePower b s
  else latch .foreignPower (hear source (.power b) s)

/-! ### Ageing (R101, R102) -/

/-- The state ageing gives an entry of a given age (R101). -/
def agedState (age : Nat) (st : EntryState) : EntryState :=
  match st with
  | .alive => if 2000 ≤ age then .lost else if 600 ≤ age then .stale else .alive
  | .stale => if 2000 ≤ age then .lost else .stale
  | .lost => .lost
  | .absent => .absent

/-- The age of an entry (R101). -/
def Entry.age (now : Time) (e : Entry) : Nat :=
  match e.lastHeard with
  | some t => elapsed now t
  | none => 0

/-- An entry after ageing: one that becomes LOST loses its figures (R101, R102 step 1). -/
def Entry.aged (now : Time) (e : Entry) : Entry :=
  let new := agedState (e.age now) e.state
  if new = .lost ∧ e.state ≠ .lost then
    { e with state := .lost, claims := .const 0, intents := .const 0, draw := 0 }
  else { e with state := new }

/-- One peer entry is aged, and what follows is handed on in the order of R102. -/
def ageStation (i : Station) (s : State) : State :=
  if i = s.straps.station then s
  else
    let before := s.entry i
    let after := before.aged s.clock
    if after.state = before.state then s
    else
      let s1 := entryChanged before after (s.modEntry i (fun _ => after))
      if after.state = .lost then
        let s2 := lossDecay i s1
        if s.view.accepted = some i then sourceLost i s2 else s2
      else s1

/-! ### The agreement (R104, R105) -/

/-- Insert a reading into an ascending list. -/
def insertAsc (x : Int) : List Int → List Int
  | [] => [x]
  | y :: rest => if x ≤ y then x :: y :: rest else y :: insertAsc x rest

/-- Readings in ascending order. -/
def sortAsc : List Int → List Int
  | [] => []
  | x :: rest => insertAsc x (sortAsc rest)

/-- The median of R104: the reading at position floor((n − 1) / 2) in ascending order. -/
def median (l : List Int) : Option Int := (sortAsc l)[(l.length - 1) / 2]?

/-- The report of an entry where it is counted (R104). -/
def Entry.report (now : Time) (e : Entry) : Option Int :=
  match e.outside, e.outsideAt with
  | some x, some t => if e.state = .alive ∧ elapsed now t ≤ 30000 then some x else none
  | _, _ => none

/-- The counted reports, by station number (R104). -/
def State.reports (s : State) : List Int := s.view.entries.toList.filterMap (Entry.report s.clock)

/-- The view changed by `g`. -/
def State.modView (s : State) (g : View → View) : State := { s with view := g s.view }

/-- A formation of the agreed outside temperature (R104, R105). -/
def formAgreement (s : State) : State :=
  match median s.reports with
  | some x => s.modView (fun v => { v with agreed := x, source := .median, hold := s.timer 600000 })
  | none => s.modView (fun v => { v with source := if v.source = .median then .held else v.source })

/-- The ageing timer's expiry (R101, R104, R124); the DEMAND frame it makes due comes behind what the ageing queues
(log 39). -/
def ageingExpiry (s : State) : State :=
  let s1 := s.modView (fun v => { v with ageing := v.ageing.next 200 })
  demandDue (formAgreement (stations.foldl (fun s i => ageStation i s) s1))

/-- The agreement's hold timer's expiry (R105). -/
def agreementHoldExpiry (s : State) : State :=
  s.modView (fun v => { v with agreed := s.config.design, source := .design, hold := .stopped })

/-! ### Commands -/

/-- AGEING_EXPIRY (R101). -/
def execAgeingExpiry (s : State) : Answer := atExpiry s.view.ageing ageingExpiry s

/-- AGREEMENT_HOLD_EXPIRY (R105). -/
def execAgreementHoldExpiry (s : State) : Answer := atExpiry s.view.hold agreementHoldExpiry s

/-- POWER_FRAME (R68, R119). -/
def execPowerFrame (source : Station) (b : PowerBody) (s : State) : Answer := whileRunning (receivePower source b) s

/-- DEMAND_FRAME (R98). -/
def execDemandFrame (source : Station) (b : DemandBody) (s : State) : Answer :=
  whileRunning (receive source (.demand b) id) s

/-- PRESENCE_FRAME (R99). -/
def execPresenceFrame (source : Station) (b : PresenceBody) (s : State) : Answer :=
  whileRunning (receive source (.presence b) id) s

/-- DOOR_FRAME (R40). -/
def execDoorFrame (source : Station) (b : DoorBody) (s : State) : Answer :=
  whileRunning (receive source (.door b) (peerDoor source b)) s

/-- OVERRIDE_FRAME (R148). -/
def execOverrideFrame (source : Station) (b : OverrideBody) (s : State) : Answer :=
  whileRunning (receive source (.override b) (takeOverride source b)) s

/-- STATUS_FRAME (R97, R169): the view marks the source heard, and no further block takes it. -/
def execStatusFrame (source : Station) (b : StatusBody) (s : State) : Answer :=
  whileRunning (receive source (.status b) id) s

/-- ANSWER_FRAME (R97): the view marks the source heard, and no further block takes it. -/
def execAnswerFrame (source : Station) (b : AnswerBody) (s : State) : Answer :=
  whileRunning (receive source (.answer b) id) s

end Sys2Proof.Machine
end

