-- ==== Sys2Proof/Machine/Link.lean ====
section
/-! DEFINITION. The link controller's sending (chapter 6): the end of the join listen (R123, R166), attempts (R109), failures
and backoff (R110, R111), confirmations (R112), discards (R115, R116) and the schedules (R123 to R125). -/

namespace Sys2Proof.Machine

/-- The link controller's record changed by `g`. -/
def State.modLink (s : State) (g : Link → Link) : State := { s with link := g s.link }

/-! ### The join listen -/

/-- The end of the join listen (R123, R125, R166): the timers start, and the first frames are queued in order. -/
def listenEnd (s : State) : State :=
  let s1 := s.modLink (fun l =>
    { l with
      listen := .stopped, warmListen := false, presence := s.timer 1000, override := s.timer 1000,
      status := s.timer 5000 })
  let s2 := queueSingle s1.demandFrame (queueSingle s1.presenceFrame s1)
  let s3 := if s2.ownCab then queueSingle s2.overrideFrame s2 else s2
  queueSingle s3.statusFrame s3

/-! ### Attempts -/

/-- The head entry may be attempted: a DEMAND entry makes no attempt while the spacing timer runs (R109, R124). -/
def Link.headFree (l : Link) (e : TxEntry) : Bool := !(e.frame.isDemand && l.spacing.isRunning)

/-- The line has been idle past its idle gap for a number of backoff slots, and is then read at the moment an attempt would
begin (R109, R111): the head's wait counts down, and with none left and the line recessive its attempt begins. Its bytes carry the
node's own station number as the source (R113, R161). -/
def attemptStart (slots : Nat) (dominant : Bool) (s : State) : State :=
  match s.link.list with
  | [] => s
  | e :: rest =>
    if s.listening || s.link.attempt.isSome then s
    else
      let e1 : TxEntry := { e with backoff := e.backoff - slots }
      let s1 := s.withList (e1 :: rest)
      if e1.backoff = 0 ∧ dominant = false ∧ s.link.headFree e1 then
        s1.modLink (fun l => { l with attempt := some ⟨e1.frame, encodeFrame s.straps.station e1.frame, false⟩ })
      else s1

/-- The DEMAND spacing timer starts (R124). -/
def startSpacing (f : Frame) (s : State) : State :=
  if f.isDemand then s.modLink (fun l => { l with spacing := s.timer 50 }) else s

/-- The slots a failed entry waits: the draw ANDed with 2^min(k, 5) − 1 (R111). -/
def backoffSlots (draw k : Nat) : Nat := draw % 2 ^ min k 5

/-- A failed attempt (R110, R111): the backoff of the head entry, or its drop at the eighth failure. An attempt whose entry
was withdrawn leads to neither (R122). -/
def attemptFailed (s : State) : State :=
  match s.link.attempt with
  | none => s
  | some a =>
    let s1 := s.modLink (fun l => { l with attempt := none })
    if a.withdrawn then s1
    else match s1.link.list with
      | [] => s1
      | e :: rest =>
        let k := e.failed + 1
        if 8 ≤ k then startSpacing e.frame (s1.withList rest)
        else
          let s2 := s1.draw
          s2.withList ({ e with failed := k, backoff := backoffSlots (backoffDraw s2.seq) k, replaced := false } :: rest)

/-- The entry of a confirmed attempt leaves the list, or stays in its place with newer contents (R112 step 1). -/
def confirmHead (s : State) : State :=
  match s.link.list with
  | [] => s
  | e :: rest =>
    startSpacing e.frame
      (s.withList (if e.replaced then { e with failed := 0, replaced := false } :: rest else rest))

/-- The transmit-failure timer is restarted, or stopped where the list is empty (R112 step 2, R125). -/
def restartFailure (s : State) : State :=
  s.modLink (fun l => { l with failure := if l.list = [] then .stopped else s.timer 1000 })

/-- A confirmed attempt (R112). -/
def attemptConfirmed (s : State) : State :=
  match s.link.attempt with
  | none => s
  | some a =>
    let s1 := s.modLink (fun l => { l with attempt := none })
    let s2 := if a.withdrawn then s1 else confirmHead s1
    confirmation a.carried (restartFailure s2)

/-! ### Discards (R116) -/

/-- A discarded frame joins the error window. -/
def discard (s : State) : State :=
  recheck .linkNoise (s.modLink (fun l => { l with window := l.window ++ [s.clock] }))

/-- The moment the oldest discard leaves the window, 1 s after it joined. -/
def State.departure (s : State) : Timer :=
  match s.link.window with
  | t :: _ => .running (timeAfter t 1000)
  | [] => .stopped

/-- The oldest discard leaves the window. -/
def windowDeparture (s : State) : State :=
  recheck .linkNoise (s.modLink (fun l => { l with window := l.window.tail }))

/-! ### Schedules -/

/-- The transmit-failure timer's expiry (R125). -/
def failureExpiry (s : State) : State := transmitFailure (s.modLink (fun l => { l with failure := .expired }))

/-- The spacing timer's expiry (R124). -/
def spacingExpiry (s : State) : State :=
  let s1 := s.modLink (fun l => { l with spacing := .stopped, due := false })
  if s.link.due then queueSingle s1.demandFrame s1 else s1

/-- The PRESENCE timer's expiry (R123). -/
def presenceExpiry (s : State) : State :=
  queueSingle s.presenceFrame (s.modLink (fun l => { l with presence := l.presence.next 1000 }))

/-- The OVERRIDE timer's expiry (R123): only the node's own accepted cab station queues a frame. -/
def overrideExpiry (s : State) : State :=
  let s1 := s.modLink (fun l => { l with override := l.override.next 1000 })
  if s1.ownCab then queueSingle s1.overrideFrame s1 else s1

/-- The STATUS timer's expiry (R123, R169). -/
def statusExpiry (s : State) : State :=
  queueSingle s.statusFrame (s.modLink (fun l => { l with status := l.status.next 5000 }))

/-! ### Commands -/

/-- JOIN_LISTEN_END (R166). -/
def execJoinListenEnd (s : State) : Answer := atExpiry s.link.listen listenEnd s

/-- TX_ATTEMPT_START (R109). -/
def execTxAttemptStart (slots : Nat) (dominant : Bool) (s : State) : Answer :=
  whileRunning (attemptStart slots dominant) s

/-- COLLISION (R110). -/
def execCollision (s : State) : Answer := whileRunning attemptFailed s

/-- FRAME_CONFIRMED (R112). -/
def execFrameConfirmed (s : State) : Answer := whileRunning attemptConfirmed s

/-- FRAME_DISCARD (R115): a frame that passes every test is no discard. -/
def execFrameDiscard (r : Reception) (s : State) : Answer :=
  whileRunning (if r.isDiscard then discard else id) s

/-- ERROR_WINDOW_DEPARTURE (R116). -/
def execErrorWindowDeparture (s : State) : Answer := atExpiry s.departure windowDeparture s

/-- TX_FAILURE_EXPIRY (R125). -/
def execTxFailureExpiry (s : State) : Answer := atExpiry s.link.failure failureExpiry s

/-- SPACING_EXPIRY (R124). -/
def execSpacingExpiry (s : State) : Answer := atExpiry s.link.spacing spacingExpiry s

/-- PRESENCE_TIMER_EXPIRY (R123). -/
def execPresenceTimerExpiry (s : State) : Answer := atExpiry s.link.presence presenceExpiry s

/-- OVERRIDE_TIMER_EXPIRY (R123). -/
def execOverrideTimerExpiry (s : State) : Answer := atExpiry s.link.override overrideExpiry s

/-- STATUS_TIMER_EXPIRY (R123). -/
def execStatusTimerExpiry (s : State) : Answer := atExpiry s.link.status statusExpiry s

end Sys2Proof.Machine
end

