-- ==== Sys2Proof/Machine/Inputs.lean ====
section
/-! DEFINITION. The sensor scan (R3, R96, R129), the input sample (R25) with keys (R142), tachometers (R153) and contactor
feedback (R62), the contactor fault (R63), and the stage controller's timers (R56, R59). -/

namespace Sys2Proof.Machine

/-! ### The scan -/

/-- The scan of a zone's sensor is taken by the zone (R3 to R5, R8). -/
def scanZone (replies : ScanReplies) (z : Fin 4) (s : State) : State :=
  match s.zoneCfg? z with
  | some g => recheck .zoneSensor (s.modZone z (Zone.scan s.clock (replies.replyAt g.sensor)))
  | none => s

/-- The scan of the outside sensor, where the node has one (R96). -/
def scanOutside (r : Reply) (s : State) : State :=
  if s.config.outsidePresent then
    recheck .outsideSensor (match r.reading with
      | some t =>
        (modOwn (fun e => { e with outside := some t, outsideAt := some s.clock }) s).modView
          (fun v => { v with outsideRun := 0 })
      | none =>
        let run := runUp s.view.outsideRun
        let s1 := s.modView (fun v => { v with outsideRun := run })
        if run = 3 then modOwn (fun e => { e with outside := none, outsideAt := none }) s1 else s1)
  else s

/-- The scans of the windscreen sensors, on the cab node (R129). SCREEN_SENSOR is tested once, after both scans of the round
(log 16). -/
def scanWindscreen (cab : CabReply) (screen : Reply) (s : State) : State :=
  if s.defrost.isSome then
    recheck .screenSensor (s.modDefrost (fun d => (d.cabScan cab).screenScan screen))
  else s

/-- The scan timer's expiry: every configured sensor is polled (R3). -/
def scanExpiry (r : ScanReplies) (s : State) : State :=
  let s1 := { s with scanTimer := s.scanTimer.next 500 }
  let s2 := scanZone r 3 (scanZone r 2 (scanZone r 1 (scanZone r 0 s1)))
  scanWindscreen r.cabAir r.screen (scanOutside r.outside s2)

/-! ### The sample -/

/-- One sample of key `k` (R142): a press changes the word; a release has no effect. -/
def sampleKey (keys : BitVec 8) (s : State) (k : Nat) : State :=
  match s.keys[k]? with
  | some f =>
    let out := f.sample 4 (keys.getLsbD k)
    let s1 := { s with keys := s.keys.set k out.1 }
    if out.2 = some true then changeWord (keyChange k) s1 else s1
  | none => s

/-- One sample of a fan's tachometer (R153): an accepted change to high is a pulse. -/
def sampleTach (tachs : BitVec 8) (s : State) (f : FanId) : State :=
  match s.fan? f with
  | some b =>
    let out := b.filter.sample 2 (tachs.getLsbD f.pin)
    let s1 := s.modFan f (fun b => { b with filter := out.1 })
    if out.2 = some true then countPulse f s1 else s1
  | none => s

/-- The moment the sample timer was last set: for the first sample after a reset the moment the reset completed (R25). -/
def State.sampleSet (s : State) : Time :=
  match s.sampleTimer with
  | .running e => e - 10
  | _ => s.clock

/-- One sample of a stage's contactor feedback (R62): a first level or an accepted change is compared with the output. A first
level that differs has differed since the reset, at `reset`, and a changed one differs from now on (log 19). -/
def Stage.sampleFeedback (reset now : Time) (level : Bool) (st : Stage) : Stage :=
  let out := st.filter.sample 2 level
  let st1 := { st with filter := out.1 }
  let since := if st.filter.level = none then reset else now
  if st.filter.level = none ∨ out.2 ≠ none then
    if out.1.level = some st.output then { st1 with feedback := .agree }
    else if st.feedback = .agree then { st1 with feedback := .disagree (.running (timeAfter since 200)) }
    else st1
  else st1

/-- Every stage's feedback is sampled, by table index from `i`. -/
def sampleStages (reset now : Time) (feedback : BitVec 44) : Nat → List Stage → List Stage
  | _, [] => []
  | i, st :: rest =>
    st.sampleFeedback reset now (feedback.getLsbD i) :: sampleStages reset now feedback (i + 1) rest

/-- The sample timer's expiry: doors, keys, tachometers and feedback, in the order of log 7 (R25). -/
def sampleExpiry (p : Pins) (s : State) : State :=
  let s1 := { s with sampleTimer := s.sampleTimer.next 10 }
  let s2 := sampleDoor 2 (p.doors.getLsbD 2) (sampleDoor 1 (p.doors.getLsbD 1) (sampleDoor 0 (p.doors.getLsbD 0) s1))
  let s3 := [0, 1, 2, 3, 4, 5, 6, 7].foldl (sampleKey p.keys) s2
  let s4 := fanPins.foldl (sampleTach p.tachs) s3
  { s4 with stages := sampleStages s.sampleSet s4.clock p.feedback 0 s4.stages }

/-! ### The contactor fault (R63) -/

/-- The expiry of a stage's DISAGREE field, stopped where there is none. -/
def State.feedbackTimer (s : State) (i : Fin 44) : Timer :=
  match s.stage? i.val with
  | some st =>
    match st.feedback with
    | .disagree e => e
    | .agree => .stopped
  | none => .stopped

/-- The record of a stage that becomes FAULTY (R63 step 1). -/
def Stage.toFaulty (st : Stage) : Stage :=
  { st.toIdle with state := .faulty, feedback := .agree }

/-- The owner's shortfall after a fault (R63 step 4): the first replacement of the faulty stage's class goes to its place,
the others to the back. -/
def refill (o : Owner) (c : Cls) (n : Nat) (first : Option (Cls × Place)) (s : State) : State :=
  match first with
  | some (c', place) =>
    if c' = c ∧ s.heldCount o c < n then fillTo o c n (enqueueNext o c place s) else fillTo o c n s
  | none => fillTo o c n s

/-- The owner's shortfalls in its classes, ZONE before ABSORB (R49, R50, R63 step 4). The claim of a curtain (R41) and the need of
the defrost controller (R136) are re-formed once the shortfall is filled (log 39). -/
def refillOwner (o : Owner) (first : Option (Cls × Place)) (s : State) : State :=
  match o with
  | .zone z =>
    match s.zone? z with
    | some r => refill o .absorb r.offer first (refill o .zone r.wanted first s)
    | none => s
  | .curtain d => reformClaims (refill o .curtain (min (s.curtainCount d) (s.goodCount o)) first s)
  | .defrost =>
    match s.defrost with
    | some d => reformClaims (refill o .safety (min (defrostCount s.config.cab d.state) (s.goodCount o)) first s)
    | none => s

/-- Where the first replacement of a faulty stage goes (R63 step 4): the front for one that was heating, the queue position
for one that was queued. -/
def State.replacementPlace (s : State) (i : Nat) (st : Stage) : Option (Cls × Place) :=
  match st.cls with
  | some c =>
    if st.heating then some (c, .front)
    else if st.state = .queued then some (c, .position ((s.queue.get c).idxOf i))
    else none
  | none => none

/-- The owner is told of a fault (R63 step 3): a zone's N_avail falls. -/
def tellOwner (o : Owner) (s : State) : State :=
  match o with
  | .zone z => availFall z s
  | .curtain _ => s
  | .defrost => s

/-- The expiry of a DISAGREE field (R63, R64); of a FAULTY stage it has no effect but that the expiry is spent: the field stays
DISAGREE with no expiry to come (log 34). The claim of a curtain or of the defrost controller follows after step 4, so that the
STATUS entry of STAGE_FAULTY joins the transmit list before its DEMAND entry (log 39). -/
def feedbackFault (i : Nat) (s : State) : State :=
  match s.stage? i with
  | none => s
  | some st =>
    if st.state = .faulty then modStage i (fun st => { st with feedback := .disagree .expired }) s
    else
      let s1 := unqueue i { s with stages := s.stages.set i st.toFaulty }
      let s2 := tellOwner st.owner (recheck .stageFaulty s1)
      let s3 := refillOwner st.owner (s.replacementPlace i st) s2
      if st.heating then oweAttempt s3 else s3

/-! ### Pacing and rotation -/

/-- The pacing timer's expiry (R55, R56). -/
def pacingExpiry (s : State) : State := oweAttempt { s with pacing := .stopped }

/-- The slice timer of a stage, stopped where the node has no such stage. -/
def State.sliceTimer (s : State) (i : Fin 44) : Timer :=
  match s.stage? i.val with
  | some st => st.slice
  | none => .stopped

/-- A waiting stage for which a stage of class `c` and a given size may rotate out (R59). -/
def State.rotatesFor (s : State) (c : Cls) (size : Nat) (j : Nat) : Bool :=
  match s.stage? j with
  | some st => st.state == .queued && s.fanRunning st.owner.fan
      && decide (s.occupancy c + st.size ≤ s.alloc.usable.get c + size)
  | none => false

/-- The slice timer's expiry of an ENERGIZED stage (R59). -/
def sliceExpiry (i : Nat) (s : State) : State :=
  let s1 := modStage i (fun st => { st with slice := .stopped }) s
  match s.stage? i with
  | none => s
  | some st =>
    match st.state, st.cls with
    | .energized, some c =>
      if (s.queue.get c).any (s.rotatesFor c st.size) then
        oweAttempt (queueBack c i (modStage i Stage.toQueued s1))
      else
        modStage i (fun st => { st with sliceStart := some s.clock, slice := s.timer s.sliceMs }) s1
    | _, _ => s1

/-! ### Commands -/

/-- SENSOR_SCAN (R3). -/
def execSensorScan (r : ScanReplies) (s : State) : Answer := atExpiry s.scanTimer (scanExpiry r) s

/-- INPUT_SAMPLE (R25). -/
def execInputSample (p : Pins) (s : State) : Answer := atExpiry s.sampleTimer (sampleExpiry p) s

/-- FEEDBACK_FAULT (R63). -/
def execFeedbackFault (i : Fin 44) (s : State) : Answer := atExpiry (s.feedbackTimer i) (feedbackFault i.val) s

/-- PACING_EXPIRY (R56). -/
def execPacingExpiry (s : State) : Answer := atExpiry s.pacing pacingExpiry s

/-- SLICE_EXPIRY (R59). -/
def execSliceExpiry (i : Fin 44) (s : State) : Answer := atExpiry (s.sliceTimer i) (sliceExpiry i.val) s

end Sys2Proof.Machine
end

