-- ==== Sys2Proof/Machine/Loader.lean ====
section
/-! DEFINITION. The configuration loader and the resets (chapter 10): straps (R161), the configuration image (R162), the
built-in profile (R163), the power-on reset (R164) and the warm restart (R165). -/

namespace Sys2Proof.Machine

/-! ### The configuration image (R162) -/

/-- A number lies in a range. -/
def within (lo hi x : Nat) : Bool := decide (lo ≤ x ∧ x ≤ hi)

/-- A 2-byte field, high byte first. -/
def field2 (hi lo : Byte) : Nat := (halfOf hi lo).toNat

/-- A zone record of 11 bytes, and what follows it. -/
def readZone : List Byte → Option (ZoneCfg × List Byte)
  | n :: s :: bh :: bl :: kp :: ki :: kf :: p :: fh :: fl :: a :: rest =>
    some (⟨n.toNat, s.toNat, field2 bh bl, kp.toNat, ki.toNat, kf.toNat, p.toNat, field2 fh fl, a⟩, rest)
  | _ => none

/-- A door record of 13 bytes, and what follows it. -/
def readDoor : List Byte → Option (DoorCfg × List Byte)
  | ah :: al :: bh :: bl :: ch :: cl :: dh :: dl :: t :: f :: n :: z :: r :: rest =>
    some (⟨[field2 ah al, field2 bh bl, field2 ch cl, field2 dh dl], t.toNat, f.toNat, n.toNat, z.toNat, r.toNat⟩, rest)
  | _ => none

/-- `n` records one after another, and what follows them. -/
def readMany {α : Type} (read : List Byte → Option (α × List Byte)) : Nat → List Byte → Option (List α × List Byte)
  | 0, l => some ([], l)
  | n + 1, l =>
    match read l with
    | some (x, rest) =>
      match readMany read n rest with
      | some (xs, rest') => some (x :: xs, rest')
      | none => none
    | none => none

/-- A sensor-present field: 1 for yes, 0 for no (R162). -/
def presentOf (b : Byte) : Option Bool :=
  if b = 1#8 then some true else if b = 0#8 then some false else none

/-- The groups after the door records, up to the check bytes. -/
def readGroups (zones : List ZoneCfg) (doors : List DoorCfg) : List Byte → Option Image
  | a0h :: a0l :: a1h :: a1l :: a2h :: a2l :: ps :: slh :: sll :: fch :: fcl :: db :: fnh :: fnl :: fmh :: fml
      :: z0 :: z1 :: z2 :: z3 :: c0 :: c1 :: c2 :: df :: sp :: dvh :: dvl
      :: nd :: nb :: sz :: mg :: bth :: btl :: rst :: amp :: lay :: _ =>
    if h : ps.toNat < 16 then
      (presentOf sp).map (fun present =>
        { zones := zones
          doors := doors
          attenuation := [field2 a0h a0l, field2 a1h a1l, field2 a2h a2l]
          powerStation := ⟨ps.toNat, h⟩
          slice := field2 slh sll
          fullCount := field2 fch fcl
          deadband := db.toNat
          fNorm := field2 fnh fnl
          fMin := field2 fmh fml
          fanMin := [z0, z1, z2, z3, c0, c1, c2, df].map (·.toNat)
          outsidePresent := present
          design := (halfOf dvh dvl).toInt
          cab := ⟨nd.toNat, nb.toNat, sz.toNat, mg.toNat, field2 bth btl, rst.toNat, amp.toNat, lay.toNat⟩ })
    else none
  | _ => none

/-- The ranges of a zone record (R162). -/
def zoneInRange (g : ZoneCfg) : Bool :=
  within 1 8 g.stages && within 1 8 g.size && decide (160 ≤ g.base ∧ g.base ≤ 280) && within 0 50 g.kp
    && within 0 64 g.ki && within 0 100 g.kf && within 1 10 g.period && within 0 1000 g.fallback

/-- A door's weight is above 0 only for a zone the zone table holds (R162). -/
def weightsHeld (zones : Nat) (weights : List Nat) : Bool := (weights.drop zones).all (· == 0)

/-- The ranges of a door record (R162). -/
def doorInRange (zones : Nat) (g : DoorCfg) : Bool :=
  g.weights.all (within 0 1000) && weightsHeld zones g.weights && within 10 120 g.decay && [1, 2, 4, 8].contains g.filter
    && within 0 2 g.curtainStages && within 1 8 g.curtainSize && within 0 30 g.runOn

/-- The ranges of the cab group, with Nb at least Nd (R162). -/
def cabInRange (c : CabCfg) : Bool :=
  within 1 4 c.nd && within c.nd 6 c.nb && within 1 8 c.size && within 0 100 c.margin && within 120 1200 c.boost
    && within 0 255 c.rest && within 1 63 c.amplitude && within 5 60 c.layover

/-- Every field of an image lies in its range, and the relations hold (R162 step 3). -/
def imageInRange (c : Image) : Bool :=
  within 1 4 c.zones.length && within 0 3 c.doors.length && c.zones.all zoneInRange
    && c.doors.all (doorInRange c.zones.length) && c.attenuation.all (within 0 1000) && within 60 600 c.slice
    && within 100 4000 c.fullCount && within 1 50 c.deadband && within 0 1000 c.fNorm && within 0 1000 c.fMin
    && c.fanMin.all (within 0 255) && decide (-400 ≤ c.design ∧ c.design ≤ 850) && cabInRange c.cab

/-- The fields of an image from its bytes (R162). -/
def readImage (zones doors : Nat) (bytes : List Byte) : Option Image :=
  match readMany readZone zones (bytes.drop 2) with
  | none => none
  | some (zs, l) =>
    match readMany readDoor doors l with
    | none => none
    | some (ds, l') => readGroups zs ds l'

/-- The image that the bytes read carry, with its check: none where the read is cut short, the check fails or a field is out
of range (R162). -/
def loadImage (bytes : List Byte) : Option (Image × BitVec 16) :=
  match bytes with
  | b0 :: b1 :: _ =>
    let zones := b0.toNat
    let doors := b1.toNat
    let n := 40 + 11 * zones + 13 * doors
    if within 1 4 zones && within 0 3 doors then
      let check := checkOf (bytes.take (n - 2))
      if n ≤ bytes.length ∧ (bytes.drop (n - 2)).take 2 = halfBytes check then
        match readImage zones doors bytes with
        | some c => if imageInRange c then some (c, check) else none
        | none => none
      else none
    else none
  | _ => none

/-! ### The built-in profile (R163) -/

/-- The built-in attenuation of a car (R163). -/
def builtInAttenuation (car : Fin 3) : List Nat :=
  match car with
  | 0 => [1000, 300, 100]
  | 1 => [300, 1000, 300]
  | 2 => [100, 300, 1000]

/-- The built-in profile (R163). -/
def builtInProfile (car : Fin 3) : Image :=
  { zones := [⟨4, 2, 200, 20, 8, 30, 2, 400, Config.firstZoneSensor⟩]
    doors := []
    attenuation := builtInAttenuation car
    powerStation := 15
    slice := 180
    fullCount := 1000
    deadband := 10
    fNorm := 300
    fMin := 100
    fanMin := [4, 4, 4, 4, 4, 4, 4, 4]
    outsidePresent := false
    design := -100
    cab := ⟨2, 4, 2, 20, 600, 128, 20, 20⟩ }

/-! ### What the blocks are built from -/

/-- Zone numbers in table order. -/
def zoneNumbers : List (Fin 4) := [0, 1, 2, 3]

/-- Door numbers in table order. -/
def doorNumbers : List (Fin 3) := [0, 1, 2]

/-- The first control expiry after a reset: at an offset within one period, the zone's own (R2, log 9). -/
def firstControl (now : Time) (z : Nat) (period : Nat) : Timer :=
  .running (timeAfter now (Config.controlOffset z now % (period * 1000 + 1)))

/-- A zone context after either reset (R2). -/
def freshZone (now : Time) (z : Nat) (g : ZoneCfg) : Zone :=
  { state := .regulating, measured := none, lastValid := none, badRun := 0, hold := .stopped, returnPending := false,
    pendingOffset := 0, activeOffset := 0, setpoint := effectiveSetpoint g.base 0, integral := 0, demand := 0,
    wanted := 0, avail := g.stages, offer := 0, limited := false, drafts := [],
    control := firstControl now z g.period }

/-- The zone contexts after either reset, numbered in table order (R1, R2). -/
def freshZones (now : Time) : Nat → List ZoneCfg → List Zone
  | _, [] => []
  | i, g :: rest => freshZone now i g :: freshZones now (i + 1) rest

/-- A door record after either reset, with its open count, before its first sample (R26, log 8). -/
def freshDoor (openCount : Nat) : Door :=
  { state := .closed, openCount := openCount, openedAt := none, stuck := .stopped, layoverMark := .stopped,
    curtain := .off, runOn := .stopped, filter := .fresh }

/-- A stage record after either reset, before its wear count is taken over (R46). -/
def freshStage (o : Owner) (size : Nat) (index : Nat) : Stage :=
  { owner := o, index := index, size := size, state := .idle, cls := none, since := none, sliceStart := none,
    slice := .stopped, suspendedAt := none, wear := 0, feedback := .agree, filter := .fresh }

/-- An owner's stages (R46). -/
def ownerStages (o : Owner) (n size : Nat) : List Stage := (List.range n).map (freshStage o size)

/-- The stage table of a configuration (R46). -/
def stageTable (c : Image) (cab : Bool) : List Stage :=
  (List.zip zoneNumbers c.zones).flatMap (fun p => ownerStages (.zone p.1) p.2.stages p.2.size)
    ++ (List.zip doorNumbers c.doors).flatMap (fun p => ownerStages (.curtain p.1) p.2.curtainStages p.2.curtainSize)
    ++ (if cab then ownerStages .defrost c.cab.nb c.cab.size else [])

/-- The fans of a configuration (R153). -/
def fanTable (c : Image) (cab : Bool) : List FanId :=
  (List.zip zoneNumbers c.zones).map (fun p => .zone p.1)
    ++ ((List.zip doorNumbers c.doors).filter (fun p => p.2.curtainStages != 0)).map (fun p => .curtain p.1)
    ++ (if cab then [.defrost] else [])

/-- Stage records take over the wear counts of the table before (R46, R53). -/
def keepWear : List Stage → List Stage → List Stage
  | _, [] => []
  | [], l => l
  | old :: olds, st :: rest => { st with wear := old.wear } :: keepWear olds rest

/-- The open counts the door records take over (R26). -/
def openCounts (old : List Door) (doors : Nat) : List Nat :=
  (List.range doors).map (fun i => match old[i]? with
    | some r => r.openCount
    | none => 0)

/-- The damper record after either reset: homing (R158). -/
def freshDamper (now : Time) (c : Image) : Damper :=
  { state := .homing, position := 0, target := c.fNorm * c.fullCount / 1000, motor := .closing,
    stall := .running (timeAfter now 500), rest := .stopped, lost := false, doorOpen := false }

/-- Every current flag is re-evaluated (R165, R167). -/
def reevaluateFlags (s : State) : State := Condition.all.foldl (fun s c => recheck c s) s

/-- The blocks take their reset values, the generator is seeded, and the reset completes with its timers and the join listen
(R164, R165, R127). The wear counts and open counts that stand are kept: a power-on reset has emptied them. -/
def completeReset (warm : Bool) (s : State) : State :=
  let c := s.config
  let cab := s.straps.cab
  let own := s.straps.station
  reevaluateFlags
    { s with
      phase := .running
      loadLimit := .stopped
      seq := seedOf own s.checksum
      scanTimer := s.timer 500
      sampleTimer := s.timer 10
      windowTimer := s.timer 500
      zones := freshZones s.clock 0 c.zones
      doors := (openCounts s.doors c.doors.length).map freshDoor
      keys := if cab then List.replicate 8 Filter.fresh else []
      stages := keepWear s.stages (stageTable c cab)
      queue := .const []
      pacing := .stopped
      attemptDue := false
      alloc := Alloc.fresh (s.timer 500)
      view := View.fresh s.straps c.design (s.timer 200)
      link := Link.fresh (s.timer 1000) warm
      defrost := if cab then some (Defrost.fresh (s.timer 5000)) else none
      word := if cab then some OvrWord.fresh else none
      inUse := InUse.fresh (if cab then some own else none)
      fans := (fanTable c cab).map Blower.fresh
      damper := freshDamper s.clock c
      cond := { s.cond with current := 0 }
      cursor := ⟨none, 0⟩ }

/-! ### The power-on reset (R161 to R164) -/

/-- CONFIG_DEFAULTED is latched in the load, before there is a list to queue a STATUS frame in (R163, R167). -/
def latchDefaulted (s : State) : State :=
  { s with cond := { s.cond with latched := withFlag s.cond.latched .configDefaulted } }

/-- A configuration is installed with its checksum, and the reset completes. -/
def install (c : Image) (checksum : BitVec 16) (s : State) : State :=
  completeReset false { s with config := c, checksum := checksum }

/-- The built-in profile is installed, and CONFIG_DEFAULTED latched (R163). -/
def installBuiltIn (s : State) : State := install (builtInProfile s.straps.car) 0 (latchDefaulted s)

/-- The car taken from the strap pins (R161). -/
def carTaken (car : BitVec 2) : Fin 3 :=
  match carOf car with
  | some c => c
  | none => 2

/-- The straps as taken (R161). -/
def strapsTaken (p : StrapPins) : Straps :=
  { station := p.station, car := carTaken p.car, cab := p.cab && carTaken p.car == 0, memory := p.memory }

/-- A strap reading is rejected: a car of 3, or a cab strap outside car 0 (R161). -/
def strapsRejected (p : StrapPins) : Bool := (carOf p.car).isNone || (p.cab && carTaken p.car != 0)

/-- The reset pin is released (R161, R162, R164). -/
def releaseReset (p : StrapPins) (s : State) : State :=
  let s1 := { s with straps := strapsTaken p }
  let s2 := if strapsRejected p then latchDefaulted s1 else s1
  if p.memory then { s2 with phase := .loading, loadLimit := s2.timer 200 } else installBuiltIn s2

/-- The image read ends with the bytes read, or with none where the memory did not answer (R162). -/
def imageRead (image : Option (List Byte)) (s : State) : State :=
  match image with
  | some bytes =>
    match loadImage bytes with
    | some (c, check) => install c check s
    | none => installBuiltIn s
  | none => installBuiltIn s

/-! ### The warm restart (R165) -/

/-- The warm restart; ignored in the join listen of a warm restart (R165, R174). -/
def warmRestart (s : State) : State :=
  if s.listening && s.link.warmListen then s else completeReset true s

/-! ### Commands -/

/-- POWER_ON_RESET (R164): the supply rises or the reset pin is asserted. -/
def execPowerOnReset (s : State) : Answer := .next { State.reset with pending := s.pending }

/-- RESET_PIN_RELEASE (R161, R164): in a node that is not held in reset, the pin is released already. -/
def execResetPinRelease (p : StrapPins) (s : State) : Answer :=
  .next (if s.phase = .held then finish (releaseReset p s) else s)

/-- IMAGE_READ_DONE (R162). -/
def execImageReadDone (image : Option (List Byte)) (s : State) : Answer :=
  .next (if s.phase = .loading then finish (imageRead image s) else s)

/-- IMAGE_READ_TIMEOUT (R162): the read is abandoned 200 ms after it began. -/
def execImageReadTimeout (s : State) : Answer :=
  match s.loadLimit with
  | .running e => .next (if s.phase = .loading then finish (installBuiltIn (advanceTo e s)) else s)
  | .stopped => .next s
  | .expired => .next s

end Sys2Proof.Machine
end

