-- ==== Sys2Proof/Machine/Service.lean ====
section
/-! DEFINITION. The service responder (chapter 11): the entries of the collections (R172, R173), the probe cursor (R168, R170,
R171) and CONTROL frames (R145, R174). -/

namespace Sys2Proof.Machine

/-! ### Codes (R172): the position of a value in the list of its owning rule (log 12) -/

/-- A yes or no field. -/
def boolByte (b : Bool) : Byte := if b then 1 else 0

/-- The value absent in a field of 1 byte. -/
def absentByte : Byte := 255

/-- The position of an entry state (R93). -/
def EntryState.code : EntryState → Byte
  | .absent => 0
  | .alive => 1
  | .stale => 2
  | .lost => 3

/-- The position of a sharing state (R67). -/
def Sharing.code : Sharing → Byte
  | .joining => 0
  | .active => 1
  | .gapHold => 2
  | .silent => 3
  | .muted => 4
  | .isolated => 5

/-- The position of a line state taken (R67). -/
def Line.code : Line → Byte
  | .none => 0
  | .live => 1
  | .gap => 2
  | .dead => 3

/-- The position of an agreement source (R105, R173). -/
def Source.code : Source → Byte
  | .median => 0
  | .held => 1
  | .design => 2

/-- The position of a damper state (R158). -/
def DamperState.code : DamperState → Byte
  | .homing => 0
  | .tracking => 1
  | .stalled => 2

/-- The position of a motor output (R158). -/
def Motor.code : Motor → Byte
  | .stopped => 0
  | .opening => 1
  | .closing => 2

/-- The position of a car select (R141). -/
def CarSelect.code : CarSelect → Byte
  | .all => 0
  | .car0 => 1
  | .car1 => 2
  | .car2 => 3

/-- The position of a mode (R147). -/
def Mode.code : Mode → Byte
  | .default => 0
  | .own => 1
  | .following => 2
  | .holding => 3

/-- The position of a defrost state (R128). -/
def DefrostState.code : DefrostState → Byte
  | .off => 0
  | .demist => 1
  | .boost => 2

/-- The position of a louvre direction (R128). -/
def Direction.code : Direction → Byte
  | .up => 0
  | .down => 1

/-- The position of a zone state (R1). -/
def ZoneState.code : ZoneState → Byte
  | .off => 0
  | .regulating => 1
  | .holding => 2
  | .fallback => 3

/-- The position of a draft's origin (R33). -/
def Origin.code : Origin → Byte
  | .loc => 0
  | .peer => 1

/-- The position of a draft's state (R33). -/
def DraftState.code : DraftState → Byte
  | .opened => 0
  | .decay => 1

/-- The code of an owner (R172): 0..3 zone, 4..6 curtain, 7 defrost. -/
def Owner.code : Owner → Byte
  | .zone z => BitVec.ofNat 8 z.val
  | .curtain d => BitVec.ofNat 8 (4 + d.val)
  | .defrost => 7

/-- The position of a stage state (R46). -/
def StageState.code : StageState → Byte
  | .idle => 0
  | .queued => 1
  | .energized => 2
  | .suspended => 3
  | .faulty => 4

/-- The position of a class (R46), 255 where absent. -/
def classCode : Option Cls → Byte
  | some .safety => 0
  | some .curtain => 1
  | some .zone => 2
  | some .absorb => 3
  | none => absentByte

/-- The position of a feedback value (R46). -/
def Feedback.code : Feedback → Byte
  | .agree => 0
  | .disagree _ => 1

/-- The position of a door state (R26). -/
def DoorState.code : DoorState → Byte
  | .closed => 0
  | .opened => 1
  | .stuck => 2

/-- The position of a curtain value (R26). -/
def Curtain.code : Curtain → Byte
  | .off => 0
  | .wanted => 1
  | .runOn => 2
  | .barred => 3

/-- The position of a blower state (R153). -/
def BlowerState.code : BlowerState → BitVec 4
  | .stopped => 0
  | .starting => 1
  | .running => 2
  | .failed => 3

/-! ### Fields -/

/-- A field of 1 byte. -/
def byteField (n : Nat) : List Byte := [natByte n]

/-- A field of 2 bytes, high byte first. -/
def halfField (n : Nat) : List Byte := halfBytes (natHalf n)

/-- A signed field of 2 bytes. -/
def signedHalf (x : Int) : List Byte := halfBytes (BitVec.ofInt 16 x)

/-- A temperature field, −32768 where absent. -/
def tempField (t : Option Int) : List Byte := halfBytes (tempHalf t)

/-- Milliseconds in the units of a field, rounded as the free value of log 11 says. -/
def inUnits (f : TimeField) (unit ms : Nat) : Nat := if Config.roundsUp f then ceilDiv ms unit else ms / unit

/-- The age of a time in a field's units; an absent time is above every field's largest value (R171). -/
def ageIn (f : TimeField) (unit : Nat) (now : Time) : Option Time → Nat
  | some t => inUnits f unit (elapsed now t)
  | none => 65535

/-- Bits of a byte, from bit 0. -/
def marks (b0 b1 b2 b3 : Bool) : Byte :=
  0#4 ++ BitVec.ofBool b3 ++ BitVec.ofBool b2 ++ BitVec.ofBool b1 ++ BitVec.ofBool b0

/-- The byte of a curtain or defrost fan: its state above, retrying in bit 0; 255 where there is no such fan (R172). -/
def fanByte : Option Blower → Byte
  | some b => nibbles b.state.code (0#3 ++ BitVec.ofBool b.retrying)
  | none => absentByte

/-! ### Entries (R172, R173) -/

/-- A station's entry of the VIEW collection. -/
def viewFields (now : Time) (e : Entry) : List Byte :=
  [e.state.code, match e.car with
    | some c => BitVec.ofNat 8 c.val
    | none => absentByte, boolByte e.cab]
    ++ halfField (ageIn .lastHeard 10 now e.lastHeard)
    ++ (e.claims.map natByte).toList ++ (e.intents.map natByte).toList ++ byteField e.draw
    ++ tempField e.outside ++ byteField (ageIn .outsideAge 1000 now e.outsideAt)

/-- Page 16 of the VIEW collection: the allocator. -/
def State.allocatorPage (s : State) : List Byte :=
  let a := s.alloc
  [a.sharing.code, a.line.code] ++ byteField a.budget ++ byteField a.surplus
    ++ (a.allocation.map natByte).toList ++ (a.usable.map natByte).toList
    ++ [marks a.powerHeard a.demandConfirmed a.raisePending false]
    ++ byteField (inUnits .holdOffRemaining 10 (a.holdOff.left s.clock))
    ++ byteField (inUnits .gapRemaining 100 (a.gap.left s.clock))

/-- Page 17 of the VIEW collection: the agreement and the damper. -/
def State.agreementPage (s : State) : List Byte :=
  signedHalf s.view.agreed ++ [s.view.source.code]
    ++ halfField (inUnits .agreementRemaining 1000 (s.view.hold.left s.clock))
    ++ [s.damper.state.code] ++ halfField s.damper.position ++ halfField s.damper.target
    ++ [s.damper.motor.code, boolByte s.damper.lost] ++ halfField s.freshFraction

/-- Three offsets. -/
def offsetFields (o : Offsets) : List Byte := [signedByte o.car0, signedByte o.car1, signedByte o.car2]

/-- The word's fields of page 18; on a node that is not the cab node 0, with the car select 255 (R173). -/
def wordFields : Option OvrWord → List Byte
  | some w => w.flags.toByte :: offsetFields w.offsets ++ [w.select.code] ++ byteField w.layoverLeft
  | none => [0, 0, 0, 0, absentByte, 0]

/-- Page 18 of the VIEW collection: the overrides. -/
def State.overridePage (s : State) : List Byte :=
  let u := s.inUse
  wordFields s.word ++ [u.mode.code, u.flags.toByte] ++ offsetFields u.offsets ++ byteField u.layover
    ++ byteField u.boost ++ [match u.source with
      | some i => BitVec.ofNat 8 i.val
      | none => absentByte]

/-- Page 19 of the VIEW collection: the defrost record, on the cab node. Fog risk is sent as a yes or no field, 1 for present
(log 12). -/
def State.defrostPage (s : State) (d : Defrost) : List Byte :=
  [d.state.code] ++ tempField d.cabTemp ++ halfField (d.humidity.getD 65535) ++ tempField d.screen
    ++ byteField d.cabRun ++ byteField d.screenRun ++ tempField d.dew ++ [boolByte d.fogRisk] ++ byteField d.clearCount
    ++ byteField d.boostLeft ++ byteField d.louvre ++ [d.direction.code, fanByte (s.fan? .defrost)]

/-- An entry of the VIEW collection. -/
def State.viewEntry (s : State) (i : Nat) : Option (List Byte) :=
  if h : i < 16 then some (viewFields s.clock (s.view.entries[i]))
  else match i with
    | 16 => some s.allocatorPage
    | 17 => some s.agreementPage
    | 18 => some s.overridePage
    | 19 => s.defrost.map s.defrostPage
    | _ => none

/-- The zone fan's byte of a ZONES entry: its state above, its commanded level below. -/
def zoneFanByte : Option Blower → Byte
  | some b => nibbles b.state.code (BitVec.ofNat 4 b.level)
  | none => absentByte

/-- An entry of the ZONES collection. -/
def State.zoneFields (s : State) (i : Nat) (z : Zone) : List Byte :=
  let fan := s.fan? (.zone (Fin.ofNat 4 i))
  [z.state.code] ++ tempField z.measured ++ halfField (ageIn .lastValid 100 s.clock z.lastValid) ++ byteField z.badRun
    ++ [marks z.returnPending z.limited z.hold.isRunning (match fan with
      | some b => b.retrying
      | none => false)]
    ++ [signedByte z.activeOffset, signedByte z.pendingOffset] ++ signedHalf z.setpoint ++ halfField z.integral
    ++ halfField z.demand ++ byteField z.wanted ++ byteField z.avail ++ byteField z.offer ++ [zoneFanByte fan]

/-- An entry of a DRAFTS collection. -/
def State.draftFields (s : State) (d : Draft) : List Byte :=
  [BitVec.ofNat 8 d.station.val, BitVec.ofNat 8 d.door.val, d.origin.code] ++ halfField d.weight ++ [d.state.code]
    ++ halfField d.total ++ halfField (if d.state = .opened then 0 else d.remaining s.clock)
    ++ halfField (s.contribution d)

/-- The slice remaining of a stage, in milliseconds: of its running timer, or frozen in SUSPENDED; absent otherwise
(R58, log 33). -/
def State.sliceLeft (s : State) (st : Stage) : Option Nat :=
  match st.sliceStart, st.state with
  | some t, .energized => some (s.sliceMs - elapsed s.clock t)
  | some t, .suspended => some (s.sliceMs - elapsed (st.suspendedAt.getD s.clock) t)
  | _, _ => none

/-- An entry of the STAGES collection. -/
def State.stageFields (s : State) (i : Nat) (st : Stage) : List Byte :=
  [st.owner.code] ++ byteField st.index ++ byteField st.size ++ [st.state.code, classCode st.cls]
    ++ halfField st.wear ++ [st.feedback.code] ++ halfField (ageIn .energizedAge 1000 s.clock st.since)
    ++ halfField (match s.sliceLeft st with
      | some ms => inUnits .sliceRemaining 1000 ms
      | none => 65535)
    ++ byteField (if st.state = .queued then s.queueOrder.idxOf i else 255)

/-- An entry of the QUEUE collection. -/
def State.queueFields (s : State) (i : Nat) : List Byte :=
  match s.stage? i with
  | some st => byteField i ++ [classCode st.cls, st.owner.code] ++ byteField st.size
  | none => []

/-- An entry of the DOORS collection. -/
def State.doorFields (s : State) (i : Nat) (r : Door) : List Byte :=
  [r.state.code] ++ halfField r.openCount ++ halfField (ageIn .openedAge 1000 s.clock r.openedAt) ++ [r.curtain.code]
    ++ halfField (inUnits .runOnRemaining 100 (r.runOn.left s.clock)) ++ [fanByte (s.fan? (.curtain (Fin.ofNat 3 i)))]

/-- An entry of the CONDITIONS collection: by the condition's bit number. -/
def State.conditionFields (s : State) (i : Nat) : Option (List Byte) :=
  if i < 16 then some [boolByte (s.cond.current.getLsbD i), boolByte (s.cond.latched.getLsbD i)] else none

/-- The fields of an entry as the collection stands; none at or beyond its end (R171, R172). -/
def State.entryFields (s : State) (c : Collection) (i : Nat) : Option (List Byte) :=
  match c with
  | .view => s.viewEntry i
  | .zones => s.zones[i]?.map (s.zoneFields i)
  | .drafts z => match s.zone? z with
    | some r => r.drafts[i]?.map s.draftFields
    | none => none
  | .stages => s.stages[i]?.map (s.stageFields i)
  | .queue => s.queueOrder[i]?.map s.queueFields
  | .doors => s.doors[i]?.map (s.doorFields i)
  | .conditions => s.conditionFields i

/-! ### The probe cursor (R170, R171) -/

/-- The code of a collection (R170). -/
def Collection.code : Collection → Byte
  | .view => 0
  | .zones => 1
  | .drafts z => BitVec.ofNat 8 (2 + z.val)
  | .stages => 6
  | .queue => 7
  | .doors => 8
  | .conditions => 9

/-- The DRAFTS collection of a zone, where the zone table holds the zone (R170). -/
def State.draftsOf (s : State) (z : Fin 4) : Option Collection :=
  if z.val < s.zones.length then some (.drafts z) else none

/-- The collection the node holds under a code (R170). -/
def State.collectionOf (s : State) (code : Byte) : Option Collection :=
  match code.toNat with
  | 0 => some .view
  | 1 => some .zones
  | 2 => s.draftsOf 0
  | 3 => s.draftsOf 1
  | 4 => s.draftsOf 2
  | 5 => s.draftsOf 3
  | 6 => some .stages
  | 7 => some .queue
  | 8 => some .doors
  | 9 => some .conditions
  | _ => none

/-- Queue an ANSWER to a requester: outcome 0 ENTRY, 1 END, 2 REFUSED (R113, R171). -/
def queueAnswer (requester : Station) (outcome collection index : Byte) (fields : List Byte) (s : State) : State :=
  queueSingle (.answer ⟨BitVec.ofNat 8 requester.val, outcome, collection, index, fields⟩) s

/-- An ANSWER of outcome REFUSED that names no collection (R145, R170, R171, R174). -/
def refuse (requester : Station) (s : State) : State := queueAnswer requester 2 255 255 [] s

/-- SELECT (R170). -/
def selectCursor (requester : Station) (collection index : Byte) (s : State) : State :=
  match s.collectionOf collection with
  | some c => { s with cursor := ⟨some c, index.toNat⟩ }
  | none => queueAnswer requester 2 collection index [] s

/-- The entry at the cursor is answered (R171): NEXT advances past an entry, PEEK does not. -/
def readCursor (advance : Bool) (requester : Station) (s : State) : State :=
  match s.cursor.collection with
  | none => refuse requester s
  | some c =>
    let i := s.cursor.index
    match (writeDraw s).entryFields c i with
    | some fields =>
      let s1 := queueAnswer requester 0 c.code (natByte i) fields s
      if advance then { s1 with cursor := ⟨some c, i + 1⟩ } else s1
    | none => queueAnswer requester 1 c.code (natByte i) [] s

/-- CLEAR (R168): the latch of every condition that is not current is cleared, and the flags are answered. -/
def clearLatches (requester : Station) (s : State) : State :=
  let s1 := { s with cond := { s.cond with latched := s.cond.latched &&& s.cond.current } }
  queueAnswer requester 0 9 255 (halfBytes s1.cond.current ++ halfBytes s1.cond.latched) s1

/-- What a frame for the service responder does where it names this node as its target (R170, R174). -/
def forMe (target : Byte) (effect : State → State) (s : State) : State :=
  if isTarget target s.straps.station then effect s else s

/-- OVR_MASKS (R145): applied to the word of the cab node, refused on any other. -/
def applyMasks (requester : Station) (set clear : Byte) (s : State) : State :=
  if s.word.isSome then changeWord (maskChange set clear) s else refuse requester s

/-! ### Commands -/

/-- PROBE_SELECT (R170). -/
def execProbeSelect (source : Station) (target collection index : Byte) (s : State) : Answer :=
  whileRunning (receive source (.probe ⟨target, 0, collection, index⟩)
    (forMe target (selectCursor source collection index))) s

/-- PROBE_NEXT (R171). -/
def execProbeNext (source : Station) (target collection index : Byte) (s : State) : Answer :=
  whileRunning (receive source (.probe ⟨target, 1, collection, index⟩) (forMe target (readCursor true source))) s

/-- PROBE_PEEK (R171). -/
def execProbePeek (source : Station) (target collection index : Byte) (s : State) : Answer :=
  whileRunning (receive source (.probe ⟨target, 2, collection, index⟩) (forMe target (readCursor false source))) s

/-- PROBE_CLEAR (R168). -/
def execProbeClear (source : Station) (target collection index : Byte) (s : State) : Answer :=
  whileRunning (receive source (.probe ⟨target, 3, collection, index⟩) (forMe target (clearLatches source))) s

/-- PROBE_BAD_OPERATION (R170). -/
def execProbeBadOperation (source : Station) (target operation collection index : Byte) (s : State) : Answer :=
  whileRunning (receive source (.probe ⟨target, operation, collection, index⟩) (forMe target (refuse source))) s

/-- CONTROL_RESTART (R165, R174). -/
def execControlRestart (source : Station) (target set clear : Byte) (s : State) : Answer :=
  whileRunning (receive source (.control ⟨target, 0, set, clear⟩) (forMe target warmRestart)) s

/-- CONTROL_OVR_MASKS (R145, R174). -/
def execControlOvrMasks (source : Station) (target set clear : Byte) (s : State) : Answer :=
  whileRunning (receive source (.control ⟨target, 1, set, clear⟩) (forMe target (applyMasks source set clear))) s

/-- CONTROL_BAD_OPERATION (R174). -/
def execControlBadOperation (source : Station) (target operation set clear : Byte) (s : State) : Answer :=
  whileRunning (receive source (.control ⟨target, operation, set, clear⟩) (forMe target (refuse source))) s

end Sys2Proof.Machine
end

