-- ==== Sys2Proof/Machine/Dispatch.lean ====
section
/-! DEFINITION. The command a step runs: one arm per constructor of `Instr`, each one call of its meaning. -/

namespace Sys2Proof.Machine

/-- The meaning of a command, on everything but the queue. -/
def exec (i : Instr) (s : State) : Host.Outcome State Fault Refusal :=
  match i with
  | .powerOnReset => Sys2Proof.Machine.execPowerOnReset s
  | .imageReadDone image => Sys2Proof.Machine.execImageReadDone image s
  | .imageReadTimeout => Sys2Proof.Machine.execImageReadTimeout s
  | .joinListenEnd => Sys2Proof.Machine.execJoinListenEnd s
  | .controlPeriodExpiry zone => Sys2Proof.Machine.execControlPeriodExpiry zone s
  | .sensorScan replies => Sys2Proof.Machine.execSensorScan replies s
  | .holdTimerExpiry zone => Sys2Proof.Machine.execHoldTimerExpiry zone s
  | .inputSample pins => Sys2Proof.Machine.execInputSample pins s
  | .stuckTimerExpiry door => Sys2Proof.Machine.execStuckTimerExpiry door s
  | .layoverMarkExpiry door => Sys2Proof.Machine.execLayoverMarkExpiry door s
  | .runOnExpiry door => Sys2Proof.Machine.execRunOnExpiry door s
  | .feedbackFault stage => Sys2Proof.Machine.execFeedbackFault stage s
  | .pacingExpiry => Sys2Proof.Machine.execPacingExpiry s
  | .sliceExpiry stage => Sys2Proof.Machine.execSliceExpiry stage s
  | .tachWindowExpiry => Sys2Proof.Machine.execTachWindowExpiry s
  | .startTimerExpiry fan => Sys2Proof.Machine.execStartTimerExpiry fan s
  | .retryTimerExpiry fan => Sys2Proof.Machine.execRetryTimerExpiry fan s
  | .encoderStep move => Sys2Proof.Machine.execEncoderStep move s
  | .stallTimerExpiry => Sys2Proof.Machine.execStallTimerExpiry s
  | .restTimerExpiry => Sys2Proof.Machine.execRestTimerExpiry s
  | .defrostCheck => Sys2Proof.Machine.execDefrostCheck s
  | .boostTimerExpiry => Sys2Proof.Machine.execBoostTimerExpiry s
  | .boostRemainingFall => Sys2Proof.Machine.execBoostRemainingFall s
  | .louvreStep => Sys2Proof.Machine.execLouvreStep s
  | .layoverTimerExpiry => Sys2Proof.Machine.execLayoverTimerExpiry s
  | .layoverMinutesFall => Sys2Proof.Machine.execLayoverMinutesFall s
  | .overrideSilenceExpiry => Sys2Proof.Machine.execOverrideSilenceExpiry s
  | .overrideHoldExpiry => Sys2Proof.Machine.execOverrideHoldExpiry s
  | .ageingExpiry => Sys2Proof.Machine.execAgeingExpiry s
  | .agreementHoldExpiry => Sys2Proof.Machine.execAgreementHoldExpiry s
  | .silenceExpiry => Sys2Proof.Machine.execSilenceExpiry s
  | .gapTimerExpiry => Sys2Proof.Machine.execGapTimerExpiry s
  | .holdOffExpiry => Sys2Proof.Machine.execHoldOffExpiry s
  | .txFailureExpiry => Sys2Proof.Machine.execTxFailureExpiry s
  | .spacingExpiry => Sys2Proof.Machine.execSpacingExpiry s
  | .presenceTimerExpiry => Sys2Proof.Machine.execPresenceTimerExpiry s
  | .overrideTimerExpiry => Sys2Proof.Machine.execOverrideTimerExpiry s
  | .statusTimerExpiry => Sys2Proof.Machine.execStatusTimerExpiry s
  | .txAttemptStart slots dominant => Sys2Proof.Machine.execTxAttemptStart slots dominant s
  | .collision => Sys2Proof.Machine.execCollision s
  | .frameConfirmed => Sys2Proof.Machine.execFrameConfirmed s
  | .frameDiscard reception => Sys2Proof.Machine.execFrameDiscard reception s
  | .errorWindowDeparture => Sys2Proof.Machine.execErrorWindowDeparture s
  | .powerFrame source body => Sys2Proof.Machine.execPowerFrame source body s
  | .demandFrame source body => Sys2Proof.Machine.execDemandFrame source body s
  | .presenceFrame source body => Sys2Proof.Machine.execPresenceFrame source body s
  | .doorFrame source body => Sys2Proof.Machine.execDoorFrame source body s
  | .overrideFrame source body => Sys2Proof.Machine.execOverrideFrame source body s
  | .statusFrame source body => Sys2Proof.Machine.execStatusFrame source body s
  | .answerFrame source body => Sys2Proof.Machine.execAnswerFrame source body s
  | .probeSelect source target collection index => Sys2Proof.Machine.execProbeSelect source target collection index s
  | .probeNext source target collection index => Sys2Proof.Machine.execProbeNext source target collection index s
  | .probePeek source target collection index => Sys2Proof.Machine.execProbePeek source target collection index s
  | .probeClear source target collection index => Sys2Proof.Machine.execProbeClear source target collection index s
  | .probeBadOperation source target operation collection index => Sys2Proof.Machine.execProbeBadOperation source target operation collection index s
  | .controlRestart source target set clear => Sys2Proof.Machine.execControlRestart source target set clear s
  | .controlOvrMasks source target set clear => Sys2Proof.Machine.execControlOvrMasks source target set clear s
  | .controlBadOperation source target operation set clear => Sys2Proof.Machine.execControlBadOperation source target operation set clear s
  | .resetPinRelease pins => Sys2Proof.Machine.execResetPinRelease pins s

end Sys2Proof.Machine
end

