-- ==== Sys2Proof/Machine/Step.lean ====
section
/-! DEFINITION. One step of the block: the command at the front of the queue, or on an empty queue the passing of time. -/

namespace Sys2Proof.Machine

/-- The timers of one zone, with the commands of their expiries. -/
def zoneTimers (s : State) (z : Fin 4) : List (Timer × Instr) :=
  [(s.zoneTimer z Zone.control, .controlPeriodExpiry z), (s.zoneTimer z Zone.hold, .holdTimerExpiry z)]

/-- The timers of one door. -/
def doorTimers (s : State) (d : Fin 3) : List (Timer × Instr) :=
  [(s.doorTimer d Door.stuck, .stuckTimerExpiry d), (s.doorTimer d Door.layoverMark, .layoverMarkExpiry d),
    (s.doorTimer d Door.runOn, .runOnExpiry d)]

/-- The timers of one fan. -/
def fanTimers (s : State) (f : FanId) : List (Timer × Instr) :=
  [(s.startTimer f, .startTimerExpiry f), (s.retryTimer f, .retryTimerExpiry f)]

/-- The timers of one stage. -/
def stageTimers (s : State) (i : Fin 44) : List (Timer × Instr) :=
  [(s.feedbackTimer i, .feedbackFault i), (s.sliceTimer i, .sliceExpiry i)]

/-- Every timer whose expiry brings nothing from outside, with its command, in the order of log 3. The scan timer and the
sample timer are not among them: their commands bring replies and pin levels. -/
def timers (s : State) : List (Timer × Instr) :=
  [(s.loadLimit, .imageReadTimeout), (s.link.listen, .joinListenEnd), (s.alloc.silence, .silenceExpiry),
    (s.alloc.gap, .gapTimerExpiry), (s.alloc.holdOff, .holdOffExpiry), (s.link.failure, .txFailureExpiry),
    (s.link.spacing, .spacingExpiry), (s.link.presence, .presenceTimerExpiry),
    (s.link.override, .overrideTimerExpiry), (s.link.status, .statusTimerExpiry),
    (s.departure, .errorWindowDeparture), (s.view.ageing, .ageingExpiry), (s.view.hold, .agreementHoldExpiry)]
  ++ zoneNumbers.flatMap (zoneTimers s) ++ doorNumbers.flatMap (doorTimers s)
  ++ [(s.pacing, .pacingExpiry)] ++ (List.ofFn (fun i : Fin 44 => i)).flatMap (stageTimers s)
  ++ [(s.windowTimer, .tachWindowExpiry)] ++ fanPins.flatMap (fanTimers s)
  ++ [(s.damper.stall, .stallTimerExpiry), (s.damper.rest, .restTimerExpiry),
    (s.defrostTimer Defrost.check, .defrostCheck), (s.defrostTimer Defrost.boost, .boostTimerExpiry),
    (s.defrostTimer Defrost.boostFall, .boostRemainingFall), (s.defrostTimer Defrost.louvreTimer, .louvreStep),
    (s.wordTimer OvrWord.layover, .layoverTimerExpiry), (s.wordTimer OvrWord.layoverFall, .layoverMinutesFall),
    (s.inUse.silence, .overrideSilenceExpiry), (s.inUse.hold, .overrideHoldExpiry)]

/-- The first timer in the order of log 3 whose expiry the clock has reached, as its command. -/
def dueCommand (s : State) : Option Instr := ((timers s).find? (fun p => p.1.isDue s.clock)).map (·.2)

/-- One millisecond passes. -/
def tick (s : State) : State := { s with clock := timeAfter s.clock 1 }

/-- One step: the command at the front of the queue is taken. On an empty queue the node takes the expiry that is due, or one
millisecond passes (log 3). -/
def step (s : State) : Host.Outcome State Fault Refusal :=
  match s.pending with
  | c :: rest => exec c { s with pending := rest }
  | [] => match dueCommand s with
    | some c => exec c s
    | none => .next (tick s)

/-- The state with the command a word spells at the front of its queue; the opcode table gives no row bits, so no word spells
one. -/
def State.withFetchWord (s : State) (nbits w : Nat) : State :=
  match decodeTableWord nbits w with
  | some c => { s with pending := c :: s.pending }
  | none => s

end Sys2Proof.Machine
end

