-- ==== Sys2Proof/Safety.lean ====
section
/-! DEFINITION. What the spec promises of every state between steps, as predicates on `State`: the terms the obligations are
stated in. -/

namespace Sys2Proof.Machine

/-- The usable intent of every class exceeds neither the announced intent nor the allocation (R73). -/
def State.IntentsBounded (s : State) : Prop :=
  ∀ c : Cls, s.alloc.usable.get c ≤ s.alloc.announced.get c ∧ s.alloc.usable.get c ≤ s.alloc.allocation.get c

/-- The occupancy of every class lies within its usable intent (R57, R73). -/
def State.WithinRoom (s : State) : Prop := ∀ c : Cls, s.occupancy c ≤ s.alloc.usable.get c

/-- A stage is ENERGIZED only while the sharing state is ACTIVE (R54). -/
def State.ActiveOnly (s : State) : Prop :=
  s.alloc.sharing ≠ .active → ∀ st ∈ s.stages, st.state ≠ .energized

/-- A stage that is ENERGIZED or SUSPENDED has its blower RUNNING (R54, R65). -/
def State.BlowersProven (s : State) : Prop := ∀ st ∈ s.stages, st.heating = true → s.fanRunning st.owner.fan = true

/-- The sequence generator is never 0 (R126, R127). -/
def State.SeqAlive (s : State) : Prop := s.seq ≠ 0

/-- A condition that is current is latched (R167). -/
def State.LatchesHold (s : State) : Prop := s.cond.current &&& ~~~s.cond.latched = 0

/-- Two entries may not both stand on the transmit list: they are of one kind, and not of kind DOOR (R120). -/
def clash (a b : TxEntry) : Prop := sameKind a.frame b.frame = true ∧ a.frame.isDoor = false

/-- A frame of a kind the node sends (R120). -/
def sendable : Frame → Bool
  | .presence _ => true
  | .demand _ => true
  | .door _ => true
  | .override _ => true
  | .status _ => true
  | .answer _ => true
  | .power _ => false
  | .probe _ => false
  | .control _ => false

/-- The transmit list is as R120 bounds it: frames the node sends, one entry of each kind but DOOR, at most 3 of DOOR. -/
def State.ListBounded (s : State) : Prop :=
  (∀ e ∈ s.link.list, sendable e.frame = true) ∧ s.link.list.Pairwise (fun a b => ¬ clash a b)
    ∧ (s.link.list.filter (fun e => e.frame.isDoor)).length ≤ 3

/-- A draft list is as R33 bounds it: at most 8 records, one for each door. -/
def draftsBounded (l : List Draft) : Prop :=
  l.length ≤ 8 ∧ l.Pairwise (fun a b => ¬ (a.station = b.station ∧ a.door = b.door))

/-- Every zone's draft list is as R33 bounds it. -/
def State.DraftsBounded (s : State) : Prop := ∀ z ∈ s.zones, draftsBounded z.drafts

/-- The own entry of a node that runs is ALIVE, has no last-heard time, and carries the announced intents (R93, R95, R79). -/
def State.OwnEntryKept (s : State) : Prop :=
  s.phase = .running →
    s.ownEntry.state = .alive ∧ s.ownEntry.lastHeard = none ∧ s.ownEntry.intents = s.alloc.announced

/-- The queue of a class holds the stages that are QUEUED in that class, each once (R47, R48). -/
def State.QueueSound (s : State) : Prop :=
  ∀ c : Cls, (s.queue.get c).Nodup ∧
    ∀ i, i ∈ s.queue.get c ↔ ∃ st, s.stage? i = some st ∧ st.state = .queued ∧ st.cls = some c

/-- The figures of every zone lie in the ranges of R1, given fallback demands in the range of R162. -/
def State.ZonesInRange (s : State) : Prop :=
  (∀ g ∈ s.config.zones, g.fallback ≤ 1000) ∧
    ∀ z ∈ s.zones, z.badRun ≤ 3 ∧ (150 ≤ z.setpoint ∧ z.setpoint ≤ 290) ∧ z.integral ≤ 16000 ∧ z.demand ≤ 1000
      ∧ z.wanted + z.offer ≤ z.avail

/-- In a node that runs, the allocation is the one the budget, the surplus and the counted claims give (R70, R71). -/
def State.AllocationFollows (s : State) : Prop := s.phase = .running → s.alloc.allocation = s.ownShare

/-- In a node that runs, the own entry's claims are those the inputs of R24 give. -/
def State.ClaimsFollow (s : State) : Prop := s.phase = .running → s.ownEntry.claims = s.claimsNow

/-- In a node that runs, the accepted cab station is the choice of R106: the lowest station number whose entry is ALIVE or
STALE with the cab flag. -/
def State.CabFollows (s : State) : Prop := s.phase = .running → s.view.accepted = s.cabChoice

/-- In a node that runs, the damper's target count is the one R159 gives. -/
def State.TargetFollows (s : State) : Prop := s.phase = .running → s.damper.target = s.targetCount

/-- In a node that runs, a condition is current exactly while its cause holds; an event condition is never current between
steps (R167 and the rule that owns the condition). -/
def State.ConditionsFollow (s : State) : Prop :=
  s.phase = .running → ∀ c : Condition, flagSet s.cond.current c = conditionHolds s c

/-- A door that no sample has set stands CLOSED (R26, log 8). -/
def State.UnsampledClosed (s : State) : Prop := ∀ r ∈ s.doors, r.filter.level = none → r.state = .closed

/-- The node runs and owes no admission attempt: how a step of a running node finds it. -/
structure State.Ready (s : State) : Prop where
  running : s.phase = .running
  settled : s.attemptDue = false

/-- The link's record with a frame of a single-entry kind queued (R120): it replaces a waiting entry of its kind in place,
and otherwise joins at the back, where a stopped transmit-failure timer then starts unless the join listen runs (R125). -/
def queuedIn (s : State) (l : Link) (f : Frame) : Link :=
  if l.list.any (fun w => kindCode w.frame == kindCode f) then
    { l with list := l.list.mapIdx (fun n w =>
        if kindCode w.frame = kindCode f then
          { w with frame := f, failed := 0, replaced := w.replaced || (n == 0 && s.headSending) }
        else w) }
  else
    { l with
      list := l.list ++ [⟨f, 0, 0, false⟩]
      failure := if l.failure = .stopped ∧ l.listen.isRunning = false then .running (timeAfter s.clock 1000)
        else l.failure }

/-- A peer that is ALIVE is heard again: nothing but its last-heard time changes (R97). -/
def State.hearing (s : State) (source : Station) : State :=
  s.modEntry source (fun x => { x with lastHeard := some s.clock })

/-- What follows a change of the accepted cab station from `s` to `t` (R106), and that nothing follows where it stands. A cab
node that becomes its own accepted cab station takes its word into use and queues an OVERRIDE frame (R150). Otherwise FOLLOWING
and OWN go to HOLDING for 60 s with everything else kept (R149, R150), and on a cab node ROLE_CONFLICT is current (R107) and
the OVERRIDE entry is withdrawn, from under its attempt too (R122). -/
structure State.TakesChoice (s t : State) : Prop where
  stands : t.view.accepted = s.view.accepted → t.inUse = s.inUse
  own : t.view.accepted ≠ s.view.accepted → s.straps.cab = true → t.view.accepted = some s.straps.station →
    flagSet t.cond.current .roleConflict = false ∧ ∀ w, s.word = some w →
      t.inUse = { mode := .own, flags := w.flags, offsets := w.offsets, layover := w.layoverLeft, boost := s.boostLeft,
                  source := some s.straps.station, silence := .stopped, hold := .stopped }
      ∧ ∃ x ∈ t.link.list, x.frame = t.overrideFrame
  other : t.view.accepted ≠ s.view.accepted → (s.straps.cab = false ∨ t.view.accepted ≠ some s.straps.station) →
    t.inUse = (if s.inUse.mode = .following ∨ s.inUse.mode = .own then
        { s.inUse with mode := .holding, silence := .stopped, hold := .running (timeAfter t.clock 60000) }
      else s.inUse)
    ∧ flagSet t.cond.current .roleConflict = s.straps.cab
    ∧ (s.straps.cab = true → (∀ x ∈ t.link.list, x.frame.isOverride = false)
      ∧ (s.LatchesHold → flagSet t.cond.latched .roleConflict = true)
      ∧ ∀ x rest a, s.link.list = x :: rest → x.frame.isOverride = true → s.link.attempt = some a →
        t.link.attempt = some { a with withdrawn := true })

/-- A source is heard and nothing but its entry takes the frame: the other peers' entries stand, the choice of the accepted cab
station is made again where the entry's state or cab flag changed, and a change of it and of the allocation follow (R97, R100,
R106). -/
structure State.Hears (s : State) (source : Station) (t : State) : Prop where
  peers : ∀ i, i ≠ source → i ≠ s.straps.station → t.entry i = s.entry i
  choice : t.view.accepted =
    if (t.entry source).state = (s.entry source).state ∧ (t.entry source).cab = (s.entry source).cab then s.view.accepted
    else t.cabChoice
  handed : s.TakesChoice t
  rest : { t with
    zones := s.zones, doors := s.doors, stages := s.stages, queue := s.queue, pacing := s.pacing, seq := s.seq,
    alloc := s.alloc, view := s.view, link := s.link, inUse := s.inUse, fans := s.fans, damper := s.damper,
    cond := s.cond, outputs := s.outputs } = s
  still : (t.view.accepted = s.view.accepted ∨ s.straps.cab = false ∨ t.view.accepted ≠ some s.straps.station) →
    { t with
      stages := s.stages, queue := s.queue, alloc := s.alloc, view := s.view, link := s.link, inUse := s.inUse,
      cond := s.cond, outputs := s.outputs } = s

/-- After a hand-off the owner holds `n` stages in the class, or fewer where it has no IDLE stage left (R49, R50, R52). -/
def State.Handed (t : State) (o : Owner) (c : Cls) (n : Nat) : Prop :=
  t.heldCount o c = n ∨ (t.heldCount o c < n ∧ ∀ st ∈ t.stages, st.owner = o → st.state ≠ .idle)

/-- The fans of `t` are those of `s` after a zone has handed the demand `u` to its fan (R157): the demand level by the table,
and the commanded level from it; a fan that stays on, or stays off, keeps the rest of its record (R154). -/
def State.FanTakes (s t : State) (z : Fin 4) (u : Nat) : Prop :=
  (∀ f, f ≠ .zone z → t.fan? f = s.fan? f) ∧ ∀ b, s.fan? (.zone z) = some b →
    let demandLevel :=
      if 750 ≤ u then 3
      else if 700 ≤ u then (if b.demandLevel = 3 then 3 else 2)
      else if 400 ≤ u then 2
      else if 350 ≤ u then (if b.demandLevel = 1 then 1 else 2)
      else 1
    let level := if s.alloc.sharing = .joining then 0 else if s.inUse.flags.ventOnly then 2 else demandLevel
    ∃ b', t.fan? (.zone z) = some b' ∧ b'.demandLevel = demandLevel ∧ b'.level = level
      ∧ ((b.level = 0 ↔ level = 0) → b' = { b with demandLevel := demandLevel, level := level })

/-- The defrost record `d` leaves BOOST as `d'` (R133): the dew estimate and the fog risk are formed from the readings as they
stand (R130), and DEMIST follows where fog risk is present, OFF where it is absent. The timers of the falls are log 27. -/
def Defrost.LeavesBoost (margin : Int) (d d' : Defrost) : Prop :=
  let dew : Option Int := match d.cabTemp, d.humidity with
    | some x, some h => if d.cabRun = 3 then none else some (x - ((1000 - h) / 5 : Nat))
    | _, _ => none
  let screen := if d.screenRun = 3 then none else d.screen
  let fog : Bool := match dew, screen with
    | some a, some b => decide (b ≤ a + margin)
    | _, _ => true
  d'.dew = dew ∧ d'.fogRisk = fog ∧ d'.state = (if fog then .demist else .off) ∧ d'.boost = .stopped
    ∧ d'.boostLeft = 0 ∧ d'.boostFall = .stopped ∧ d'.clearCount = 0 ∧ d'.cabTemp = d.cabTemp
    ∧ d'.humidity = d.humidity ∧ d'.screen = d.screen ∧ d'.check = d.check

/-- The commands a node that does not run acts on (R162, R164). -/
def startsUp : Instr → Bool
  | .powerOnReset => true
  | .resetPinRelease _ => true
  | .imageReadDone _ => true
  | .imageReadTimeout => true
  | _ => false

/-- `t` is `s` with what closes every step written, and nothing else: the own entry's draw (R66, R95), the figures of the
waiting frames, each change a replacement in place (R112, R120), and the pins (R66, R140, R152, R154, R164). The moment of the rewriting is the model's (logs 6 and 24). -/
structure Closes (s t : State) : Prop where
  rest :
    { t with
      outputs := s.outputs, view := { t.view with entries := s.view.entries },
      link := { t.link with list := s.link.list } } = s
  peers : ∀ i, i ≠ s.straps.station → t.entry i = s.entry i
  own : t.ownEntry = { s.ownEntry with draw := capNat 255 s.drawNow }
  list : t.link.list = s.link.list.mapIdx (fun n w =>
    if t.figures w.frame = w.frame then w
    else { w with frame := t.figures w.frame, failed := 0, replaced := w.replaced || (n == 0 && s.headSending) })
  outputs : t.outputs = if s.phase = .running then s.pins else .off

/-- A frame is set aside after its source is heard: the source's entry is ALIVE and heard now, and a source that was ALIVE
changes nothing else (R97). -/
structure State.OnlyHears (s : State) (source : Station) (t : State) : Prop where
  entry : t.entry source =
    { (if (s.entry source).state = .absent then Entry.absent else s.entry source) with
      lastHeard := some s.clock, state := .alive }
  hears : s.Hears source t
  alive : (s.entry source).state = .alive → Closes (s.hearing source) t

/-- The blocks stand at the values a reset gives them (R164, R165), built from the configuration, the straps and the checksum
that `t` holds; wear counts and open counts are those of `s`. The model's own part of it: logs 2, 6, 8, 9, 29 and 31. -/
structure Rebuilt (s t : State) : Prop where
  running : t.phase = .running ∧ t.clock = s.clock ∧ t.attemptDue = false ∧ t.pacing = .stopped ∧ t.queue = .const []
  seed : t.seq = seedOf t.straps.station t.checksum
  timers : t.scanTimer = .running (timeAfter s.clock 500) ∧ t.sampleTimer = .running (timeAfter s.clock 10)
    ∧ t.windowTimer = .running (timeAfter s.clock 500)
  zoneCount : t.zones.length = t.config.zones.length
  zones : ∀ z g r, t.zoneCfg? z = some g → t.zone? z = some r → ∃ ms ≤ g.period * 1000, r =
    { state := .regulating, measured := none, lastValid := none, badRun := 0, hold := .stopped, returnPending := false,
      pendingOffset := 0, activeOffset := 0, setpoint := effectiveSetpoint g.base 0, integral := 0, demand := 0,
      wanted := 0, avail := g.stages, offer := 0, limited := false, drafts := [],
      control := .running (timeAfter s.clock ms) }
  keys : t.keys = if t.straps.cab then List.replicate 8 ⟨none, 0⟩ else []
  doorCount : t.doors.length = t.config.doors.length
  doors : ∀ d r, t.door? d = some r → r = freshDoor (((s.door? d).map (·.openCount)).getD 0)
  stageCount : t.stages.length = (stageTable t.config t.straps.cab).length
  stages : ∀ (i : Nat) st st', (stageTable t.config t.straps.cab)[i]? = some st → t.stage? i = some st' →
    st' = { st with wear := ((s.stage? i).map (·.wear)).getD 0 }
  alloc : t.alloc = Alloc.fresh (.running (timeAfter s.clock 500))
  peers : ∀ i, i ≠ t.straps.station → t.entry i = Entry.absent
  own : t.ownEntry = { Entry.absent with state := .alive, car := some t.straps.car, cab := t.straps.cab }
  view : { t.view with entries := s.view.entries } =
    { entries := s.view.entries, outsideRun := 0, agreed := t.config.design, source := .design, hold := .stopped,
      accepted := if t.straps.cab then some t.straps.station else none, ageing := .running (timeAfter s.clock 200) }
  link : { t.link with warmListen := false } = Link.fresh (.running (timeAfter s.clock 1000)) false
  defrost : t.defrost = if t.straps.cab then some (Defrost.fresh (.running (timeAfter s.clock 5000))) else none
  word : t.word = if t.straps.cab then some OvrWord.fresh else none
  inUse : t.inUse = InUse.fresh (if t.straps.cab then some t.straps.station else none)
  fans : t.fans = (fanTable t.config t.straps.cab).map Blower.fresh
  damper : t.damper = freshDamper s.clock t.config
  conditions : t.cond.current = 0
  cursor : t.cursor = ⟨none, 0⟩
  outputs : t.outputs =
    { stages := List.replicate t.stages.length false, fans := List.replicate 8 0, motor := .closing
      louvre := if t.straps.cab then min 255 t.config.cab.rest else 0, lamps := ⟨false, false, false, false, false⟩ }

end Sys2Proof.Machine
end

