-- ==== Sys2Proof/WellFormed.lean ====
section
/-! DEFINITION. The operands a command may carry: what the spec's words for its row require of them. -/

namespace Sys2Proof

/-- A frame the receiver could have found valid: an ANSWER of at most 24 payload bytes (R113). Every other payload is
well-formed by its type. -/
def Frame.wellFormed : Frame → Bool
  | .answer b => decide (b.fields.length ≤ 20)
  | _ => true

/-- An operation code that is no operation of PROBE: above 3 (R170). -/
def badProbeOperation (op : Byte) : Bool := decide (3 < op.toNat)

/-- An operation code that is no operation of CONTROL: above 1 (R174). -/
def badControlOperation (op : Byte) : Bool := decide (1 < op.toNat)

/-- The backoff slots one wait can count: at most 31 (R111). -/
def slotsInRange (slots : Nat) : Bool := decide (slots ≤ 31)

/-- The operands are ones the row's event can bring: a discarded frame fails a reception check (R115), a bad operation
is no operation (R170, R174), an ANSWER fits its payload (R113), a backoff count is within range (R111). -/
def Instr.wellFormed : Instr → Bool
  | .answerFrame _ b => (Frame.answer b).wellFormed
  | .frameDiscard r => r.isDiscard
  | .probeBadOperation _ _ op _ _ => badProbeOperation op
  | .controlBadOperation _ _ op _ _ => badControlOperation op
  | .txAttemptStart slots _ => slotsInRange slots
  | _ => true

end Sys2Proof
end

