-- ==== Sys2Proof/Certificates/Slice0/Obligations.lean ====
section
/-! DEFINITION. The statements about the model: what steps and commands do, by the rules of spec/. A statement about a command
says that it completes, and gives the next state: the written record, and by `Closes` what closes every step. A docstring names
the log entries of the model's own choices that a statement rests on: that part of it is the model's, not the spec's. -/

open Sys2Proof Sys2Proof.Machine

/-! ### Steps and resets -/

/-- A step takes the command at the front of the queue. -/
def Obligations.StepTakesTheFrontCommand : Prop :=
  ∀ (c : Instr) (rest : List Instr) (s : State),
    step { s with pending := c :: rest } = exec c { s with pending := rest }

/-- On an empty queue the step takes the first expiry that is due, and with none due one millisecond passes (log 3: the
model's choice). -/
def Obligations.StepOnAnEmptyQueue : Prop :=
  ∀ s : State, s.pending = [] →
    ((∀ p ∈ timers s, p.1.isDue s.clock = false) → step s = .next { s with clock := s.clock + 1 })
    ∧ ∀ before p after, timers s = before ++ p :: after → (∀ q ∈ before, q.1.isDue s.clock = false) →
        p.1.isDue s.clock = true → step s = exec p.2 s

/-- No command touches the queue of waiting commands. -/
def Obligations.CommandsLeaveTheQueue : Prop :=
  ∀ (c : Instr) (s t : State), exec c s = .next t → t.pending = s.pending

/-- A power-on reset holds the node with every output off, and until the blocks are built no event but those of the reset has
an effect (R164). The model's own choices: what a power-on reset begins with and keeps (log 1); the clock at 0 (log 2); the
events left without effect (log 22); the values while the node is held (log 23); the louvre output at position 0 (log 38). -/
def Obligations.PowerOnResetHoldsTheNode : Prop :=
  (∀ s : State, ∃ t, exec .powerOnReset s = .next t ∧ t = { State.reset with pending := s.pending }
      ∧ t.phase = .held ∧ t.outputs = .off ∧ t.cond = ⟨0, 0⟩ ∧ t.link.list = [] ∧ t.stages = [] ∧ t.zones = [])
  ∧ ∀ (c : Instr) (s : State), startsUp c = false → s.phase ≠ .running → exec c s = .next s

/-- The release of the reset pin takes the straps. With the memory strap set the image read begins, 200 ms at most; with it
clear the built-in profile is installed and every block is rebuilt (R161, R163, R164). CONFIG_DEFAULTED is latched for a
rejected strap and for the built-in profile. The model's own choices: the clock through a reset (log 2); the moment of the
closing rewriting (log 6); a door before its first sample (log 8); the offset of a zone's first expiry (log 9); the first
expiries of the periodic timers (log 29); the source of the state in use (log 31); the louvre output while the node loads (log
38). -/
def Obligations.ReleaseTakesTheStraps : Prop :=
  ∀ (s : State) (p : StrapPins), s.phase = .held → s.attemptDue = false →
    let car : Fin 3 := if p.car = 0 then 0 else if p.car = 1 then 1 else 2
    let straps : Straps := ⟨p.station, car, p.cab && car == 0, p.memory⟩
    let rejected := p.car = 3 ∨ (p.cab = true ∧ car ≠ 0)
    let defaulted : CondRecord := { s.cond with latched := s.cond.latched ||| 0x2000#16 }
    (p.memory = true → ∃ t, exec (.resetPinRelease p) s = .next t ∧
      Closes { s with
        straps := straps, phase := .loading, loadLimit := .running (timeAfter s.clock 200),
        cond := if rejected then defaulted else s.cond } t)
    ∧ (p.memory = false → ∃ t, exec (.resetPinRelease p) s = .next t ∧ Rebuilt s t ∧ t.straps = straps
      ∧ t.config = builtInProfile car ∧ t.checksum = 0 ∧ t.cond.latched = defaulted.latched
      ∧ t.link.warmListen = false)

/-- The end of the image read: an image that passes the three steps is installed whole, with its check as the configuration
checksum; any other image, an abandoned read and the 200 ms limit install the built-in profile (R162, R163). The model's own
choices: the clock through a reset (log 2); a command before or after its time, and the clock it moves (log 4); the moment of
the closing rewriting (log 6); a door before its first sample (log 8); the offset of a zone's first expiry (log 9); the first
expiries of the periodic timers (log 29); the source of the state in use (log 31). -/
def Obligations.ImageReadEnds : Prop :=
  ∀ s : State, s.phase = .loading → s.attemptDue = false →
    (∀ bytes c check, loadImage bytes = some (c, check) →
      ∃ t, exec (.imageReadDone (some bytes)) s = .next t ∧ Rebuilt s t ∧ t.config = c ∧ t.checksum = check
        ∧ t.straps = s.straps ∧ t.cond.latched = s.cond.latched)
    ∧ (∀ image : Option (List Byte), (∀ bytes, image = some bytes → loadImage bytes = none) →
      ∃ t, exec (.imageReadDone image) s = .next t ∧ Rebuilt s t ∧ t.config = builtInProfile s.straps.car
        ∧ t.checksum = 0 ∧ t.straps = s.straps ∧ t.cond.latched = s.cond.latched ||| 0x2000#16)
    ∧ ∀ e, s.loadLimit = .running e →
      ∃ t, exec .imageReadTimeout s = .next t ∧ Rebuilt (advanceTo e s) t ∧ t.config = builtInProfile s.straps.car
        ∧ t.checksum = 0 ∧ t.straps = s.straps ∧ t.cond.latched = s.cond.latched ||| 0x2000#16

/-- An image is installed only with as many bytes as its counts call for, a check that stands, and every field and relation in
range (R162); bytes beyond that length are not looked at (log 28). Conversely every image whose fields lie in range, laid out
by R162 and closed by its check, loads with those fields: counts, zone records, door records, car attenuation, sharing, damper,
fans, outside and cab, a field of range 0..255 in 1 byte and any other in 2, high byte first. -/
def Obligations.InstalledImageIsSound : Prop :=
  let one (n : Nat) : Byte := BitVec.ofNat 8 n
  let two (n : Nat) : List Byte := [BitVec.ofNat 8 (n / 256), BitVec.ofNat 8 n]
  let zoneBytes (g : ZoneCfg) : List Byte :=
    [one g.stages, one g.size] ++ two g.base.toNat ++ [one g.kp, one g.ki, one g.kf, one g.period] ++ two g.fallback ++ [g.sensor]
  let doorBytes (g : DoorCfg) : List Byte :=
    g.weights.flatMap two ++ [one g.decay, one g.filter, one g.curtainStages, one g.curtainSize, one g.runOn]
  let layout (c : Image) : List Byte :=
    [one c.zones.length, one c.doors.length] ++ c.zones.flatMap zoneBytes ++ c.doors.flatMap doorBytes
      ++ c.attenuation.flatMap two ++ [one c.powerStation.val] ++ two c.slice
      ++ two c.fullCount ++ [one c.deadband] ++ two c.fNorm ++ two c.fMin ++ c.fanMin.map one
      ++ [if c.outsidePresent then 1#8 else 0#8] ++ two (c.design % 65536).toNat
      ++ [one c.cab.nd, one c.cab.nb, one c.cab.size, one c.cab.margin] ++ two c.cab.boost
      ++ [one c.cab.rest, one c.cab.amplitude, one c.cab.layover]
  let length (c : Image) : Nat := 40 + 11 * c.zones.length + 13 * c.doors.length
  let sound (c : Image) : Prop :=
    (1 ≤ c.zones.length ∧ c.zones.length ≤ 4) ∧ c.doors.length ≤ 3
    ∧ (∀ g ∈ c.zones, (1 ≤ g.stages ∧ g.stages ≤ 8) ∧ (1 ≤ g.size ∧ g.size ≤ 8) ∧ (160 ≤ g.base ∧ g.base ≤ 280)
        ∧ g.kp ≤ 50 ∧ g.ki ≤ 64 ∧ g.kf ≤ 100 ∧ (1 ≤ g.period ∧ g.period ≤ 10) ∧ g.fallback ≤ 1000)
    ∧ (∀ g ∈ c.doors, g.weights.length = 4 ∧ (∀ w ∈ g.weights, w ≤ 1000) ∧ (∀ w ∈ g.weights.drop c.zones.length, w = 0)
        ∧ (10 ≤ g.decay ∧ g.decay ≤ 120) ∧ g.filter ∈ [1, 2, 4, 8] ∧ g.curtainStages ≤ 2
        ∧ (1 ≤ g.curtainSize ∧ g.curtainSize ≤ 8) ∧ g.runOn ≤ 30)
    ∧ c.attenuation.length = 3 ∧ (∀ a ∈ c.attenuation, a ≤ 1000)
    ∧ c.fanMin.length = 8 ∧ (∀ m ∈ c.fanMin, m ≤ 255)
    ∧ (60 ≤ c.slice ∧ c.slice ≤ 600) ∧ (100 ≤ c.fullCount ∧ c.fullCount ≤ 4000)
    ∧ (1 ≤ c.deadband ∧ c.deadband ≤ 50) ∧ c.fNorm ≤ 1000 ∧ c.fMin ≤ 1000 ∧ (-400 ≤ c.design ∧ c.design ≤ 850)
    ∧ (1 ≤ c.cab.nd ∧ c.cab.nd ≤ 4) ∧ (c.cab.nd ≤ c.cab.nb ∧ c.cab.nb ≤ 6) ∧ (120 ≤ c.cab.boost ∧ c.cab.boost ≤ 1200)
    ∧ (1 ≤ c.cab.size ∧ c.cab.size ≤ 8) ∧ c.cab.margin ≤ 100 ∧ c.cab.rest ≤ 255
    ∧ (1 ≤ c.cab.amplitude ∧ c.cab.amplitude ≤ 63) ∧ (5 ≤ c.cab.layover ∧ c.cab.layover ≤ 60)
  (∀ (bytes : List Byte) (c : Image) (check : BitVec 16), loadImage bytes = some (c, check) →
    length c ≤ bytes.length
    ∧ bytes[0]? = some (BitVec.ofNat 8 c.zones.length) ∧ bytes[1]? = some (BitVec.ofNat 8 c.doors.length)
    ∧ check = checkOf (bytes.take (length c - 2)) ∧ (bytes.drop (length c - 2)).take 2 = halfBytes check
    ∧ bytes.take (length c - 2) = layout c ∧ sound c)
  ∧ ∀ (bytes : List Byte) (c : Image), sound c → bytes.take (length c) = layout c ++ halfBytes (checkOf (layout c)) →
    loadImage bytes = some (c, checkOf (layout c))

/-- A warm restart rebuilds every block and keeps the clock, the configuration, the straps, the wear counts, the open counts
and the latched flags. In the join listen of a warm restart it is ignored (R165), and one that names another target is set
aside (R174): its station is only heard. The model's own
choices: the clock through a reset (log 2); the one attempt at the end of a step (log 5); the moment of the closing rewriting
(log 6); a door before its first sample (log 8); the offset of a zone's first expiry (log 9); the first expiries of the
periodic timers (log 29); the source of the state in use (log 31). -/
def Obligations.WarmRestartRebuilds : Prop :=
  ∀ (s : State) (source : Station) (target set clear : Byte), s.Ready → source ≠ s.straps.station →
    source ≠ s.config.powerStation →
    (target.toNat = s.straps.station.val → (s.listening && s.link.warmListen) = false →
      ∃ t, exec (.controlRestart source target set clear) s = .next t ∧ Rebuilt s t ∧ t.config = s.config
        ∧ t.checksum = s.checksum ∧ t.straps = s.straps ∧ t.link.warmListen = true
        ∧ s.cond.latched &&& ~~~t.cond.latched = 0)
    ∧ (target.toNat ≠ s.straps.station.val ∨ (s.listening && s.link.warmListen) = true →
      ∃ t, exec (.controlRestart source target set clear) s = .next t ∧ s.OnlyHears source t
        ∧ Closes (payAttempt (hear source (.control ⟨target, 0, set, clear⟩) s)) t)

/-- At the end of the join listen the PRESENCE, OVERRIDE and STATUS timers start and the first frames join the list: PRESENCE,
DEMAND, OVERRIDE on the accepted cab station, STATUS; the transmit-failure timer then runs (R123, R125, R166). The model's own
choices: a command before or after its time, and the clock it moves (log 4); the moment of the closing rewriting (log 6); what
joins the list in the listen (log 17). -/
def Obligations.JoinListenEndQueuesTheFirstFrames : Prop :=
  ∀ (s : State) (e : Time), s.Ready → s.link.listen = .running e →
    (∀ w ∈ s.link.list, w.frame.isDoor = true ∨ kindCode w.frame = 8#4) →
    let s1 := advanceTo e s
    let fresh (f : Frame) : TxEntry := ⟨f, 0, 0, false⟩
    ∃ t, exec .joinListenEnd s = .next t ∧
      Closes { s1 with
        link := { s1.link with
          listen := .stopped, warmListen := false, presence := .running (timeAfter s1.clock 1000),
          override := .running (timeAfter s1.clock 1000), status := .running (timeAfter s1.clock 5000),
          failure := if s1.link.failure = .stopped then .running (timeAfter s1.clock 1000) else s1.link.failure,
          list := s1.link.list ++ [fresh s1.presenceFrame, fresh s1.demandFrame]
            ++ (if s1.view.accepted = some s1.straps.station then [fresh s1.overrideFrame] else [])
            ++ [fresh s1.statusFrame] } } t

/-! ### Zones -/

/-- The hysteresis of R19 on a demand of at most 1000: a rise, a fall to the least count within four tenths of a stage, or the
count that stands, clamped to N_avail; so a second expiry at the same demand moves nothing. It sets the wanted count of every
control computation but in OFF, after the demand and before the ECO cap. -/
def Obligations.HysteresisSettles : Prop :=
  (∀ avail u c : Nat, u ≤ 1000 →
    let x := u * avail
    let c' := hysteresis avail u c
    (1000 * c + 600 ≤ x → c' = min avail ((x + 400) / 1000))
    ∧ (x + 600 ≤ 1000 * c → x ≤ 1000 * c' + 400 ∧ ∀ k, x ≤ 1000 * k + 400 → c' ≤ k)
    ∧ (x < 1000 * c + 600 → 1000 * c < x + 600 → c' = min avail c)
    ∧ c' ≤ avail ∧ hysteresis avail u c' = c')
  ∧ ∀ (s : State) (z : Fin 4) (g : ZoneCfg) (r : Zone),
      let after := s.controlled z g r
      let c' := hysteresis r.avail after.demand r.wanted
      after.wanted = if after.state = .off then r.wanted
        else if s.inUse.flags.eco then min c' ((r.avail + 1) / 2) else c'

/-- One control-period expiry that runs the full computation, in REGULATING with a measurement and in HOLDING, after the
return step of R7 (R11 to R20, R22). A changed count or offer is handed on (R23, R49 to R52), and the demand sets the zone's
fan (R154, R157). Every other zone, the doors, the overrides and the damper stand. The model's own choices: a command before or after its time, and the clock it moves (log 4); the next expiry counted from the expiry taken (log 26). -/
def Obligations.ControlExpiryRegulates : Prop :=
  ∀ (s : State) (z : Fin 4) (e : Time) (r : Zone) (g : ZoneCfg) (m : Int), s.Ready → s.zone? z = some r →
    s.zoneCfg? z = some g → r.control = .running e → r.measured = some m →
    (r.state = .regulating ∨ r.state = .holding ∨ (r.state = .fallback ∧ r.returnPending = true)) →
    let s1 := advanceTo e s
    let setpoint := clampInt 150 290 (g.base + r.pendingOffset)
    let err := clampInt (-200) 200 (setpoint - m)
    let p : Int := g.kp * err
    let f := if s.damper.state = .tracking then s.damper.position * 1000 / s.config.fullCount else 1000
    let ff := min 500 (f * (setpoint - s.view.agreed).toNat * g.kf / 10000)
    let fd := min 400 ((r.drafts.map s1.contribution).sum)
    let i0 := if r.returnPending then 0 else r.integral
    let ua : Int := p + (i0 / 16 + ff + fd : Nat)
    let energized := ((s.stages.filter
      (fun st => st.state == .energized && st.owner == .zone z && st.cls == some .zone)).map (·.size)).sum
    let limited := decide (energized < r.wanted * g.size)
    let skip := (∃ d ∈ r.drafts, d.origin = .loc ∧ d.state = .opened)
      ∨ (∃ st ∈ s.stages, st.owner = .zone z ∧ st.cls = some .absorb ∧ (st.state = .energized ∨ st.state = .suspended))
      ∨ s.fanRunning (.zone z) = false ∨ (0 < err ∧ (1000 ≤ ua ∨ limited = true)) ∨ (err < 0 ∧ ua ≤ 0)
    ∃ t integral u wanted offer, exec (.controlPeriodExpiry z) s = .next t
      ∧ t.zone? z = some { r with
          state := if r.returnPending then .regulating else r.state
          returnPending := false, activeOffset := r.pendingOffset, setpoint := setpoint
          drafts := r.drafts.filter (fun d => !d.runOut s1.clock), control := .running (timeAfter e (g.period * 1000))
          limited := limited, integral := integral, demand := u, wanted := wanted, offer := offer }
      ∧ (skip → integral = i0) ∧ (¬ skip → (integral : Int) = clampInt 0 16000 (i0 + g.ki * err))
      ∧ (u : Int) = clampInt 0 1000 (p + (integral / 16 + ff + fd : Nat))
      ∧ wanted = (if s.inUse.flags.eco then min (hysteresis r.avail u r.wanted) ((r.avail + 1) / 2)
          else hysteresis r.avail u r.wanted)
      ∧ offer = (if 0 < s.alloc.surplus ∧ m < setpoint + 15 ∧ s.inUse.flags.ventOnly = false then r.avail - wanted else 0)
      ∧ s.FanTakes t z u
      ∧ (s.QueueSound → (wanted ≠ r.wanted ∨ offer ≠ r.offer) →
          t.Handed (.zone z) .zone wanted ∧ t.Handed (.zone z) .absorb offer)
      ∧ (∀ y, y ≠ z → t.zone? y = s.zone? y)
      ∧ { t with
          clock := s.clock, zones := s.zones, stages := s.stages, queue := s.queue, pacing := s.pacing, seq := s.seq,
          alloc := s.alloc, view := s.view, link := s.link, fans := s.fans, cond := s.cond, outputs := s.outputs } = s

/-- One control-period expiry that forms no error: in FALLBACK at the fallback demand, awaiting a measurement at demand 0, and
in OFF, which a zone leaves by its sensor standing once VENT_ONLY is no longer adopted (R7, R10 to R12, R16, R18 to R20). A
changed count or offer is handed on (R23, R49 to R52), and the demand sets the zone's fan (R154, R157). The model's own
choices: a command before or after its time, and the clock it moves (log 4); the next expiry counted from the
expiry taken (log 26). -/
def Obligations.ControlExpiryWithoutAnError : Prop :=
  ∀ (s : State) (z : Fin 4) (e : Time) (r : Zone) (g : ZoneCfg), s.Ready → s.zone? z = some r →
    s.zoneCfg? z = some g → r.control = .running e →
    let s1 := advanceTo e s
    let base : Zone := { r with
      returnPending := false, activeOffset := r.pendingOffset, setpoint := clampInt 150 290 (g.base + r.pendingOffset)
      integral := if r.returnPending then 0 else r.integral
      drafts := r.drafts.filter (fun d => !d.runOut s1.clock), control := .running (timeAfter e (g.period * 1000)) }
    let energized := ((s.stages.filter
      (fun st => st.state == .energized && st.owner == .zone z && st.cls == some .zone)).map (·.size)).sum
    let computed (u : Nat) : Zone :=
      let h := hysteresis r.avail u r.wanted
      { base with
        limited := decide (energized < r.wanted * g.size), demand := u
        wanted := if s.inUse.flags.eco then min h ((r.avail + 1) / 2) else h, offer := 0 }
    let others (t : State) : Prop := (∀ y, y ≠ z → t.zone? y = s.zone? y) ∧
      { t with
        clock := s.clock, zones := s.zones, stages := s.stages, queue := s.queue, pacing := s.pacing, seq := s.seq,
        alloc := s.alloc, view := s.view, link := s.link, fans := s.fans, cond := s.cond, outputs := s.outputs } = s
    let handsOn (t : State) (a : Zone) : Prop := s.FanTakes t z a.demand ∧
      (s.QueueSound → (a.wanted ≠ r.wanted ∨ a.offer ≠ r.offer) →
        t.Handed (.zone z) .zone a.wanted ∧ t.Handed (.zone z) .absorb a.offer)
    let gives (a : Zone) : Prop :=
      ∃ t, exec (.controlPeriodExpiry z) s = .next t ∧ t.zone? z = some a ∧ handsOn t a ∧ others t
    (r.state = .fallback → r.returnPending = false → gives (computed g.fallback))
    ∧ (r.state = .regulating → r.measured = none → gives (computed 0))
    ∧ (r.state = .off → s.inUse.flags.ventOnly = true →
      ∃ t, exec (.controlPeriodExpiry z) s = .next t ∧ t.zone? z = some base ∧ t.fans = s.fans ∧ others t)
    ∧ (r.state = .off → s.inUse.flags.ventOnly = false →
      ∃ t r', exec (.controlPeriodExpiry z) s = .next t ∧ t.zone? z = some r' ∧ handsOn t r' ∧ others t
        ∧ r'.state = if r.badRun < 3 then .regulating else if r.hold.isRunning then .holding else .fallback)

/-- A round of the sensor scanner: what each zone, the outside sensor and the windscreen sensors take of their replies (R3 to
R5, R96, R129). The model's own choices: a command before or after its time, and the clock it moves (log 4); the next expiry
counted from the expiry taken (log 26). -/
def Obligations.SensorScanIsTaken : Prop :=
  ∀ (s : State) (e : Time) (q : ScanReplies), s.Ready → s.scanTimer = .running e →
    let now := (advanceTo e s).clock
    ∃ t, exec (.sensorScan q) s = .next t ∧ t.scanTimer = .running (timeAfter e 500)
      ∧ (∀ z r g, s.zone? z = some r → s.zoneCfg? z = some g →
          (∀ x, q.replyAt g.sensor = .answer x → -400 ≤ x → x ≤ 850 →
            t.zone? z = some { r with
              measured := some x, lastValid := some now, badRun := 0, returnPending := r.returnPending || r.badRun == 3
              hold := if r.badRun = 3 then .stopped else r.hold })
          ∧ ((∀ x, q.replyAt g.sensor = .answer x → x < -400 ∨ 850 < x) →
              (r.badRun = 3 → t.zone? z = some r)
              ∧ (r.badRun < 2 → t.zone? z = some { r with badRun := r.badRun + 1 })
              ∧ (r.badRun = 2 → t.zone? z = some { r with
                  badRun := 3, returnPending := false
                  state := if r.state = .regulating then (if r.measured.isSome then .holding else .fallback) else r.state
                  hold := if r.measured.isSome then .running (timeAfter now 60000) else r.hold })))
      ∧ (s.config.outsidePresent = true →
          (∀ x, q.outside = .answer x → -400 ≤ x → x ≤ 850 →
            t.ownEntry.outside = some x ∧ t.ownEntry.outsideAt = some now ∧ t.view.outsideRun = 0)
          ∧ ((∀ x, q.outside = .answer x → x < -400 ∨ 850 < x) → s.view.outsideRun ≤ 3 →
            t.view.outsideRun = min 3 (s.view.outsideRun + 1)
            ∧ (2 ≤ s.view.outsideRun → t.ownEntry.outside = none)))
      ∧ (∀ d, s.defrost = some d → ∃ d', t.defrost = some d'
          ∧ (∀ x, q.screen = .answer x → -400 ≤ x → x ≤ 850 → d'.screen = some x ∧ d'.screenRun = 0)
          ∧ ((∀ x, q.screen = .answer x → x < -400 ∨ 850 < x) → d.screenRun ≤ 3 →
              d'.screen = d.screen ∧ d'.screenRun = min 3 (d.screenRun + 1))
          ∧ (∀ x h, q.cabAir = .answer x h → -400 ≤ x → x ≤ 850 →
              d'.cabTemp = some x ∧ d'.humidity = some (clampInt 0 1000 h).toNat ∧ d'.cabRun = 0)
          ∧ ((∀ x h, q.cabAir = .answer x h → x < -400 ∨ 850 < x) → d.cabRun ≤ 3 →
              d'.cabTemp = d.cabTemp ∧ d'.humidity = d.humidity ∧ d'.cabRun = min 3 (d.cabRun + 1)))
      ∧ (∀ i, i ≠ s.straps.station → t.entry i = s.entry i)
      ∧ { t with
          clock := s.clock, scanTimer := s.scanTimer, zones := s.zones, view := s.view, defrost := s.defrost,
          cond := s.cond, link := s.link, outputs := s.outputs } = s

/-- At the expiry of the hold timer a zone in HOLDING goes to FALLBACK, a zone in any other state keeps its state, and the
timer stands stopped; a hold timer that does not run has no expiry (R6). The model's own choices: a command before or after
its time, and the clock it moves (log 4). -/
def Obligations.HoldTimerExpiry : Prop :=
  ∀ (s : State) (z : Fin 4) (r : Zone), s.Ready → s.zone? z = some r →
    (∀ e, r.hold = .running e →
      ∃ t, exec (.holdTimerExpiry z) s = .next t
        ∧ t.zone? z = some { r with hold := .stopped, state := if r.state = .holding then .fallback else r.state }
        ∧ (∀ y, y ≠ z → t.zone? y = s.zone? y)
        ∧ { t with
            clock := s.clock, zones := s.zones, view := s.view, cond := s.cond, link := s.link,
            outputs := s.outputs } = s)
    ∧ ((∀ e, r.hold ≠ .running e) → exec (.holdTimerExpiry z) s = .next s)

/-! ### Doors and drafts -/

/-- The input filter of R25 with length `n`, from an accepted level `a`: `n` samples in a row that differ are an accepted
change at the last of them, fewer are none, an equal sample clears the run, and the first sample sets the level without a
change. -/
def Obligations.FilterAcceptsARun : Prop :=
  ∀ (n : Nat) (a : Bool), 1 ≤ n →
    (∀ m, m < n →
      (List.replicate m (!a)).foldl (fun f l => (Filter.sample f n l).1) ⟨some a, 0⟩ = ⟨some a, m⟩
      ∧ Filter.sample ⟨some a, m⟩ n (!a) = (if m + 1 = n then (⟨some (!a), 0⟩, some (!a)) else (⟨some a, m + 1⟩, none)))
    ∧ (List.replicate n (!a)).foldl (fun f l => (Filter.sample f n l).1) ⟨some a, 0⟩ = ⟨some (!a), 0⟩
    ∧ (∀ k, Filter.sample ⟨some a, k⟩ n a = (⟨some a, 0⟩, none))
    ∧ (∀ k, Filter.sample ⟨none, k⟩ n a = (⟨some a, 0⟩, none))

/-- A sample in which every input reads its accepted level clears the run counts and changes nothing else (R25). A sample with
no accepted change of a door and no key press moves the filters on. The first sample after a reset sets a door's state without
an event, and an open door counts for the damper (R26, R45). An accepted change of a tachometer to high adds 1 to the tach
count, held at 255 (R153). A first level or an accepted change of a contactor feedback that matches the output makes the
feedback AGREE, and one that differs DISAGREE with an expiry 200 ms later (R62). An accepted key release has no effect (R142).
The model's own choices: a command before or after its time, and the clock it moves (log 4); the moment of the closing
rewriting (log 6); the feedback before its first sample (log 19); the next expiry counted from the expiry taken (log 26). -/
def Obligations.QuietSampleChangesNothing : Prop :=
  (∀ (s : State) (e : Time) (p : Pins), s.Ready → s.sampleTimer = .running e → s.doors.length ≤ 3 → s.keys.length ≤ 8 →
    (∀ d r, s.door? d = some r → s.doorCfg? d ≠ none ∧ r.filter.level = some (p.doors.getLsbD d.val)) →
    (∀ (k : Nat) f, s.keys[k]? = some f → f.level = some (p.keys.getLsbD k)) →
    (∀ b ∈ s.fans, b.filter.level = some (p.tachs.getLsbD b.fan.pin)) →
    (∀ (i : Nat) st, s.stages[i]? = some st → st.filter.level = some (p.feedback.getLsbD i)) →
    let still (f : Filter) : Filter := { f with run := 0 }
    let s1 := advanceTo e s
    ∃ t, exec (.inputSample p) s = .next t ∧
      Closes { s1 with
        sampleTimer := .running (timeAfter e 10)
        doors := s1.doors.map (fun r => { r with filter := still r.filter })
        keys := s1.keys.map still
        fans := s1.fans.map (fun b => { b with filter := still b.filter })
        stages := s1.stages.map (fun st => { st with filter := still st.filter }) } t)
  ∧ ∀ (s : State) (e : Time) (p : Pins), s.Ready → s.sampleTimer = .running e →
    let now := (advanceTo e s).clock
    let turns (f : Filter) (n : Nat) (l : Bool) : Bool := f.level == some (!l) && decide (n ≤ f.run + 1)
    let sampled (f : Filter) (n : Nat) (l : Bool) : Filter :=
      if f.level = some (!l) ∧ turns f n l = false then { f with run := f.run + 1 } else ⟨some l, 0⟩
    (∀ d r g, s.door? d = some r → s.doorCfg? d = some g → turns r.filter g.filter (p.doors.getLsbD d.val) = false) →
    (∀ (k : Fin 8) f, s.keys[k.val]? = some f → p.keys.getLsbD k.val = true → turns f 4 true = false) →
    ∃ t, exec (.inputSample p) s = .next t ∧ t.sampleTimer = .running (timeAfter e 10)
      ∧ (∀ d r, s.door? d = some r → t.door? d = some (match s.doorCfg? d with
          | none => r
          | some g =>
            let level := p.doors.getLsbD d.val
            let r' : Door := { r with filter := sampled r.filter g.filter level }
            if r.filter.level ≠ none then r'
            else if level then { r' with
              state := .opened, openedAt := some now, stuck := .running (timeAfter now 1200000)
              layoverMark := .running (timeAfter now 60000) }
            else { r' with state := .closed, openedAt := none, stuck := .stopped, layoverMark := .stopped }))
      ∧ (t.damper = s.damper ∨ t.damper.doorOpen = t.doors.any (fun x => x.state == .opened))
      ∧ (∀ d r g, s.door? d = some r → s.doorCfg? d = some g → r.filter.level = none →
          t.damper.doorOpen = t.doors.any (fun x => x.state == .opened))
      ∧ (∀ k : Fin 8, t.keys[k.val]? = s.keys[k.val]?.map (fun f => sampled f 4 (p.keys.getLsbD k.val)))
      ∧ (∀ f, t.fan? f = (s.fan? f).map (fun b =>
          let level := p.tachs.getLsbD b.fan.pin
          { b with
            filter := sampled b.filter 2 level
            tach := if level = true ∧ turns b.filter 2 level = true then min 255 (b.tach + 1) else b.tach }))
      ∧ (∀ i : Nat, t.stage? i = (s.stage? i).map (fun st =>
          let level := p.feedback.getLsbD i
          let since := if st.filter.level = none then e - 10 else now
          { st with
            filter := sampled st.filter 2 level
            feedback := if st.filter.level ≠ none ∧ turns st.filter 2 level = false then st.feedback
              else if level = (st.state == .energized) then .agree
              else match st.feedback with
                | .agree => .disagree (.running (timeAfter since 200))
                | .disagree x => .disagree x }))
      ∧ { t with
          clock := s.clock, sampleTimer := s.sampleTimer, doors := s.doors, keys := s.keys, stages := s.stages,
          view := s.view, link := s.link, fans := s.fans, damper := s.damper, outputs := s.outputs } = s

/-- An accepted open of a door in CLOSED and an accepted close of a door in OPEN or STUCK, the only change of their sample:
the door record, the zones' draft lists, the DOOR frame and what the damper drive is told (R27, R28, R30, R31, R45); the
curtain moves by R41 and R42 where the door has one, its stages and fan with it, and a close of a STUCK door leaves DOOR_STUCK
current only for another STUCK door (R32). On a list of 3 DOOR entries the frame replaces the newest of its door, or else the
oldest DOOR entry with LINK_OVERRUN (R121). The model's own choices: a command before or after its time, and the clock it moves
(log 4); the order of the inputs (log 7); the next expiry counted from the expiry taken (log 26); the failed count and the
backoff of another door's entry (log 37). -/
def Obligations.AcceptedLevelMovesTheDoor : Prop :=
  ∀ (s : State) (e : Time) (p : Pins) (d : Fin 3) (r : Door) (g : DoorCfg), s.Ready → s.sampleTimer = .running e →
    s.door? d = some r → s.doorCfg? d = some g → g.filter ≤ r.filter.run + 1 → s.keys.length ≤ 8 →
    (∀ y ry, y ≠ d → s.door? y = some ry → ry.filter.level = some (p.doors.getLsbD y.val)) →
    (∀ (k : Nat) f, s.keys[k]? = some f → f.level = some (p.keys.getLsbD k)) →
    let s1 := advanceTo e s
    let waiting := s.link.list
    let same (w : TxEntry) : Prop := ∃ b, w.frame = .door b ∧ b.car = BitVec.ofNat 4 s.straps.car.val
      ∧ b.door = BitVec.ofNat 4 d.val
    let replaced (n : Nat) : Prop :=
      (∃ w, waiting[n]? = some w ∧ same w ∧ ∀ (k : Nat) x, n < k → waiting[k]? = some x → ¬ same x)
      ∨ ((∀ x ∈ waiting, ¬ same x) ∧ (∃ w, waiting[n]? = some w ∧ w.frame.isDoor = true)
        ∧ ∀ (k : Nat) x, k < n → waiting[k]? = some x → x.frame.isDoor = false)
    let announced (event : Byte) (t : State) : Prop :=
      let frame : Frame := .door
        { car := BitVec.ofNat 4 s.straps.car.val, door := BitVec.ofNat 4 d.val, event := event,
          weight := natHalf (g.weights.foldl max 0), decay := natByte g.decay }
      let full := 3 ≤ (waiting.filter (fun w => w.frame.isDoor)).length
      (¬ full → ∃ w ∈ t.link.list, w.frame = frame)
      ∧ (full → ∀ (n : Nat) w, replaced n → waiting[n]? = some w →
          (∃ w', t.link.list[n]? = some w' ∧ w'.frame = frame ∧ w'.failed = 0 ∧ w'.backoff = w.backoff)
          ∧ ((∀ x ∈ waiting, ¬ same x) → flagSet t.cond.latched .linkOverrun = true))
    let moves (c c' : Curtain) (t : State) : Prop :=
      let wanted (x : Curtain) : Bool := x == .wanted || x == .runOn
      wanted c ≠ wanted c' → g.curtainStages ≠ 0 →
        (s.QueueSound → t.Handed (.curtain d) .curtain (if wanted c' then g.curtainStages else 0))
        ∧ ∀ b, s.fan? (.curtain d) = some b →
            ∃ b', t.fan? (.curtain d) = some b' ∧ b'.level = if wanted c' then 1 else 0
    let others (t : State) : Prop := (∀ y, y ≠ d → (t.door? y).map (·.state) = (s.door? y).map (·.state))
      ∧ t.keys = s.keys.map (fun f => { f with run := 0 })
      ∧ { t with
          clock := s.clock, sampleTimer := s.sampleTimer, zones := s.zones, doors := s.doors, keys := s.keys,
          stages := s.stages, queue := s.queue, pacing := s.pacing, seq := s.seq, alloc := s.alloc, view := s.view,
          link := s.link, fans := s.fans, damper := s.damper, cond := s.cond, outputs := s.outputs } = s
    (r.state = .closed → r.filter.level = some false → p.doors.getLsbD d.val = true →
      (r.curtain = .off ∨ r.curtain = .runOn) →
      let opened : Door := { r with
        state := .opened, openCount := if r.openCount < 65535 then r.openCount + 1 else r.openCount,
        openedAt := some s1.clock, stuck := .running (timeAfter s1.clock 1200000)
        layoverMark := .running (timeAfter s1.clock 60000), filter := ⟨some true, 0⟩
        curtain := if g.curtainStages = 0 then r.curtain else if s.inUse.flags.ventOnly then .barred else .wanted
        runOn := if g.curtainStages = 0 then r.runOn else .stopped }
      let seen : State := { s1 with doors := s1.doors.set d.val opened }
      ∃ t, exec (.inputSample p) s = .next t ∧ t.door? d = some opened
        ∧ (∀ z rz, s.zone? z = some rz →
            let w := g.weights.getD z.val 0
            t.zone? z = some (if w = 0 then rz else { rz with
              drafts := draftOpened seen.contribution ⟨s.straps.station, d, .loc, w, .opened, 10 * g.decay, none⟩ rz.drafts }))
        ∧ announced 1#8 t ∧ moves r.curtain opened.curtain t ∧ t.damper.doorOpen = true ∧ others t)
    ∧ (r.state = .opened ∨ r.state = .stuck → r.filter.level = some true → p.doors.getLsbD d.val = false →
      let runsOn := r.state = .opened ∧ r.curtain = .wanted ∧ 0 < g.runOn
      let stays := g.curtainStages = 0 ∨ (r.state = .opened ∧ (r.curtain = .off ∨ r.curtain = .runOn))
      let closed : Door := { r with
        state := .closed, openedAt := none, stuck := .stopped, layoverMark := .stopped, filter := ⟨some false, 0⟩
        curtain := if stays then r.curtain else if runsOn then .runOn else .off
        runOn := if stays then r.runOn else if runsOn then .running (timeAfter s1.clock (g.runOn * 1000)) else .stopped }
      ∃ t, exec (.inputSample p) s = .next t ∧ t.door? d = some closed
        ∧ (∀ z rz, s.zone? z = some rz → t.zone? z = some { rz with
            drafts := draftClosed s1.clock s.straps.station d (10 * g.decay) rz.drafts })
        ∧ announced 0#8 t ∧ moves r.curtain closed.curtain t
        ∧ (r.state = .opened → t.damper.doorOpen = t.doors.any (fun x => x.state == .opened))
        ∧ (r.state = .stuck → t.damper = s.damper
            ∧ flagSet t.cond.current .doorStuck = t.doors.any (fun x => x.state == .stuck))
        ∧ others t)

/-- A door's three timers: the stuck timer moves a door in OPEN to STUCK, bars its curtain, queues a DOOR frame at a quarter
weight and raises DOOR_STUCK (R29, R32); the layover mark bars a WANTED curtain while LAYOVER is adopted (R43); the run-on's
end withdraws the curtain (R42). The model's own choices: a command before or after its time, and the clock it moves (log 4).
-/
def Obligations.DoorTimersExpire : Prop :=
  ∀ (s : State) (d : Fin 3) (e : Time) (r : Door) (g : DoorCfg), s.Ready → s.door? d = some r → s.doorCfg? d = some g →
    let others (t : State) : Prop := (∀ y, y ≠ d → t.door? y = s.door? y) ∧
      { t with
        clock := s.clock, doors := s.doors, stages := s.stages, queue := s.queue, pacing := s.pacing, seq := s.seq,
        alloc := s.alloc, view := s.view, link := s.link, fans := s.fans, damper := s.damper, cond := s.cond,
        outputs := s.outputs } = s
    (r.stuck = .running e → r.state = .opened →
      ∃ t, exec (.stuckTimerExpiry d) s = .next t
        ∧ t.door? d = some { r with
            state := .stuck, stuck := .stopped, layoverMark := .stopped
            curtain := if g.curtainStages = 0 then r.curtain else .barred
            runOn := if g.curtainStages = 0 then r.runOn else .stopped }
        ∧ flagSet t.cond.current .doorStuck = true
        ∧ ((s.link.list.filter (fun w => w.frame.isDoor)).length < 3 → ∃ w ∈ t.link.list, w.frame = .door
            { car := BitVec.ofNat 4 s.straps.car.val, door := BitVec.ofNat 4 d.val, event := 1#8,
              weight := natHalf (g.weights.foldl max 0 / 4), decay := natByte g.decay })
        ∧ others t)
    ∧ (r.layoverMark = .running e →
      let barred := s.inUse.flags.layover && r.curtain == .wanted && g.curtainStages != 0
      ∃ t, exec (.layoverMarkExpiry d) s = .next t
        ∧ t.door? d = some { r with
            layoverMark := .stopped, curtain := if barred then .barred else r.curtain
            runOn := if barred then .stopped else r.runOn }
        ∧ others t ∧ t.damper = s.damper)
    ∧ (r.runOn = .running e → r.curtain = .runOn → g.curtainStages ≠ 0 →
      ∃ t, exec (.runOnExpiry d) s = .next t ∧ t.door? d = some { r with curtain := .off, runOn := .stopped }
        ∧ others t ∧ t.damper = s.damper)

/-- The events on one draft list: an OPEN event (R35) with the replacement of R36, and a CLOSED event (R37). `f` gives the
contributions at the moment. -/
def Obligations.DraftEventsActOnTheList : Prop :=
  ∀ (f : Draft → Nat) (rec : Draft) (l : List Draft),
    ((∃ d ∈ l, d.isFor rec.station rec.door = true) → 0 < rec.weight →
      draftOpened f rec l = l.map (fun d => if d.station = rec.station ∧ d.door = rec.door then rec else d))
    ∧ ((∃ d ∈ l, d.isFor rec.station rec.door = true) → rec.weight = 0 →
      draftOpened f rec l = l.filter (fun d => ¬ (d.station = rec.station ∧ d.door = rec.door)))
    ∧ ((∀ d ∈ l, d.isFor rec.station rec.door = false) →
      (rec.weight = 0 → draftOpened f rec l = l)
      ∧ (0 < rec.weight → l.length < 8 → draftOpened f rec l = l ++ [rec])
      ∧ (0 < rec.weight → l.length = 8 → ∀ i d, l[i]? = some d → (∀ d' ∈ l, f d ≤ f d') →
          (∀ (j : Nat) d', j < i → l[j]? = some d' → f d < f d') →
          draftOpened f rec l = if f d < rec.weight then l.set i rec else l))
    ∧ ∀ (now : Time) (total : Nat), (draftClosed now rec.station rec.door total l).length = l.length ∧
        ∀ (i : Nat) d, l[i]? = some d → (draftClosed now rec.station rec.door total l)[i]? = some
          (if d.station = rec.station ∧ d.door = rec.door ∧ d.state = .opened then
            { d with state := .decay, close := some now, total := total } else d)

/-- A DOOR frame of a peer: the view marks the station heard, and the event acts on every zone's list with the weight
attenuated for the frame's car and the decay clamped to 10..120 s. A car or door above 2 or another event leaves the lists as
they are (R34, R40). Of a station that is ALIVE it does nothing else; of any other the view takes the frame first, and the
accepted cab station follows its inputs before it (R106). The model's own choices: the moment of the closing rewriting (log 6). -/
def Obligations.DoorFrameReachesTheDrafts : Prop :=
  ∀ (s : State) (source : Station) (b : DoorBody), s.Ready → source ≠ s.straps.station →
    source ≠ s.config.powerStation → ((s.entry source).state = .alive ∨ s.CabFollows) →
    let heard := s.hearing source
    let total := 10 * max 10 (min 120 b.decay.toNat)
    let acts (f : List Draft → List Draft) : Prop := ∃ t, exec (.doorFrame source b) s = .next t
      ∧ (t.entry source).state = .alive ∧ (t.entry source).lastHeard = some s.clock
      ∧ (∀ z r, s.zone? z = some r → ∃ r', t.zone? z = some r' ∧ r'.drafts = f r.drafts)
      ∧ ((s.entry source).state = .alive →
          Closes { heard with zones := s.zones.map (fun z => { z with drafts := f z.drafts }) } t)
    (∀ (car door : Fin 3), b.car = BitVec.ofNat 4 car.val → b.door = BitVec.ofNat 4 door.val →
      let w := min 1000 b.weight.toNat * s.config.attenuation.getD car.val 0 / 1000
      (b.event = 1#8 → acts (draftOpened s.contribution ⟨source, door, .peer, w, .opened, total, none⟩))
      ∧ (b.event = 0#8 → acts (draftClosed s.clock source door total)))
    ∧ (2 < b.car.toNat ∨ 2 < b.door.toNat ∨ 1 < b.event.toNat → acts id)

/-! ### Stages -/

/-- A step switches on at most one stage, in ACTIVE; its wear count increases and the pacing timer starts with the pause 20 ms
× (1 + v) of the draw just taken (R53, R54, R56). The model's own choices: the one attempt at the end of a step (log 5). -/
def Obligations.OneStageSwitchesOnAtATime : Prop :=
  ∀ (c : Instr) (s t : State), exec c s = .next t →
    let switched (i : Nat) : Prop := (∃ st', t.stage? i = some st' ∧ st'.state = .energized) ∧
      ∀ st, s.stage? i = some st → st.state ≠ .energized
    ∀ i, switched i → (∀ j, switched j → j = i) ∧ t.alloc.sharing = .active
      ∧ t.pacing = .running (timeAfter t.clock (20 * (1 + t.seq.toNat % 16)))
      ∧ ∀ st st', s.stage? i = some st → t.stage? i = some st' →
          st'.wear = if st.wear < 65535 then st.wear + 1 else st.wear

/-- The pacing timer's expiry makes an admission attempt (R54 to R56). Out of ACTIVE the timer just stops. In ACTIVE the
SUSPENDED stage of the first class with the earliest energized-since is resumed, or with none the first QUEUED stage, in the
queue's order, whose blower is RUNNING and whose class has room for it is admitted. The model's own choices: a command before or after its time, and the clock it moves (log 4); the one attempt at the end of a step (log 5); the moment of
the closing rewriting (log 6). -/
def Obligations.PacingExpiryMakesAnAttempt : Prop :=
  ∀ (s : State) (e : Time), s.Ready → s.pacing = .running e →
    let s1 := { advanceTo e s with pacing := .stopped }
    let v := seqStep s.seq
    let switchedOn (t : State) (i : Nat) : Prop :=
      t.seq = v ∧ t.pacing = .running (timeAfter s1.clock (20 * (1 + v.toNat % 16)))
      ∧ (∀ j, j ≠ i → t.stage? j = s.stage? j)
      ∧ { t with
          clock := s.clock, seq := s.seq, pacing := s.pacing, stages := s.stages, queue := s.queue, view := s.view,
          link := s.link, outputs := s.outputs } = s
    let rank : Cls → Nat
      | .safety => 0
      | .curtain => 1
      | .zone => 2
      | .absorb => 3
    let able (c : Cls) (j : Nat) : Prop := ∃ w, s.stage? j = some w ∧ w.state = .queued ∧ w.cls = some c
      ∧ s.fanRunning w.owner.fan = true ∧ s.occupancy c + w.size ≤ s.alloc.usable.get c
    (s.alloc.sharing ≠ .active → ∃ t, exec .pacingExpiry s = .next t ∧ Closes s1 t)
    ∧ (s.alloc.sharing = .active → (∀ st ∈ s.stages, st.state ≠ .suspended) → (∀ c, ∀ j ∈ s.queue.get c, ¬ able c j) →
      ∃ t, exec .pacingExpiry s = .next t ∧ Closes s1 t)
    ∧ (∀ i st c since, s.alloc.sharing = .active → s.stage? i = some st → st.state = .suspended → st.cls = some c →
      st.since = some since →
      (∀ j w c', j ≠ i → s.stage? j = some w → w.state = .suspended → w.cls = some c' → rank c < rank c' ∨ (c' = c ∧
        ∃ b, w.since = some b ∧ (elapsed s1.clock b < elapsed s1.clock since
          ∨ (elapsed s1.clock b = elapsed s1.clock since ∧ i < j)))) →
      ∃ t st', exec .pacingExpiry s = .next t ∧ switchedOn t i ∧ t.queue = s.queue ∧ t.stage? i = some st'
        ∧ { st' with feedback := st.feedback } = { st with
            state := .energized, suspendedAt := none, wear := if st.wear < 65535 then st.wear + 1 else st.wear
            sliceStart := st'.sliceStart, slice := st'.slice }
        ∧ (∀ a b, st.sliceStart = some a → st.suspendedAt = some b →
            st'.sliceStart = some (timeAfter a (elapsed s1.clock b))
            ∧ st'.slice = .running (timeAfter (timeAfter a (elapsed s1.clock b)) (s.config.slice * 1000))))
    ∧ ∀ i st c before after, s.alloc.sharing = .active → (∀ w ∈ s.stages, w.state ≠ .suspended) →
      s.queue.get c = before ++ i :: after → able c i → (∀ j ∈ before, ¬ able c j) →
      (∀ c', rank c' < rank c → ∀ j ∈ s.queue.get c', ¬ able c' j) → s.stage? i = some st →
      let rotating := st.cls = some .zone ∨ st.cls = some .absorb
      ∃ t st', exec .pacingExpiry s = .next t ∧ switchedOn t i ∧ (∀ c, t.queue.get c = (s.queue.get c).filter (· != i))
        ∧ t.stage? i = some st'
        ∧ { st' with feedback := st.feedback } = { st with
            state := .energized, since := some s1.clock, suspendedAt := none
            wear := if st.wear < 65535 then st.wear + 1 else st.wear
            sliceStart := if rotating then some s1.clock else none
            slice := if rotating then .running (timeAfter s1.clock (s.config.slice * 1000)) else .stopped }

/-- The slice timer's expiry of an ENERGIZED stage (R59): it rotates out to the back of its class where a waiting stage with a
running blower would fit in its place, and otherwise begins a fresh slice. The model's own choices: a command before or after
its time, and the clock it moves (log 4); the moment of the closing rewriting (log 6); the energized-since and slice start of
a stage that rotates out (log 13). -/
def Obligations.SliceExpiryRotates : Prop :=
  ∀ (s : State) (e : Time) (i : Fin 44) (st : Stage) (c : Cls), s.Ready → s.QueueSound → s.stage? i.val = some st →
    st.state = .energized → st.cls = some c → st.slice = .running e →
    let s1 := advanceTo e s
    let fits (j : Nat) : Prop := ∃ w, s.stage? j = some w ∧ s.fanRunning w.owner.fan = true
      ∧ s.occupancy c + w.size ≤ s.alloc.usable.get c + st.size
    ((∃ j ∈ s.queue.get c, fits j) →
      ∃ t st', exec (.sliceExpiry i) s = .next t ∧ t.stage? i.val = some st'
        ∧ { st' with feedback := st.feedback } = { st with
            state := .queued, slice := .stopped, sliceStart := none, suspendedAt := none }
        ∧ (t.queue.get c).getLast? = some i.val
        ∧ { t with
            clock := s.clock, seq := s.seq, pacing := s.pacing, stages := s.stages, queue := s.queue, view := s.view,
            link := s.link, outputs := s.outputs } = s)
    ∧ ((∀ j ∈ s.queue.get c, ¬ fits j) →
      ∃ t, exec (.sliceExpiry i) s = .next t ∧
        Closes { s1 with stages := s.stages.set i.val { st with
          sliceStart := some s1.clock, slice := .running (timeAfter s1.clock (s.config.slice * 1000)) } } t)

/-- The expiry of a DISAGREE field (R62, R63): the stage is FAULTY, off, out of the queue and not held; STAGE_FAULTY is
current; a zone's N_avail falls by one with its count and offer. Where the owner held what it wants and still wants it, its
next IDLE stage replaces the stage: at the front of its class for one that was heating, in its place for one that was QUEUED;
in ACTIVE the attempt that follows may switch one stage on. A curtain or the defrost with no IDLE stage holds one less. A
further disagreement of a FAULTY stage has no effect (R64) but that its expiry is spent. The model's own choices: a command
before or after its time, and the clock it moves (log 4); the one attempt at the end of a step (log 5); the moment of the
closing rewriting (log 6); the place of the replacement (log 14); the spent expiry of a FAULTY stage (log 34). -/
def Obligations.FeedbackFaultTakesTheStage : Prop :=
  ∀ (s : State) (e : Time) (i : Fin 44) (st : Stage), s.Ready → s.stage? i.val = some st →
    st.feedback = .disagree (.running e) →
    let faulty : Stage := { st with
      state := .faulty, cls := none, since := none, sliceStart := none, slice := .stopped, suspendedAt := none
      feedback := .agree }
    let short (c : Cls) : Prop := match st.owner with
      | .zone z => ∃ r, s.zone? z = some r ∧ r.wanted + r.offer < r.avail
          ∧ (s.inUse.flags.eco = true → r.wanted ≤ r.avail / 2)
          ∧ ((c = .zone ∧ s.heldCount (.zone z) .zone = r.wanted)
            ∨ (c = .absorb ∧ s.heldCount (.zone z) .absorb = r.offer ∧ r.wanted ≤ s.heldCount (.zone z) .zone))
      | .curtain d => c = .curtain ∧ s.ClaimsFollow ∧ s.heldCount (.curtain d) .curtain = s.curtainCount d
      | .defrost => ∃ d, s.defrost = some d ∧ c = .safety ∧ s.ClaimsFollow
          ∧ s.heldCount .defrost .safety = defrostCount s.config.cab d.state
    let lined (c : Cls) (j : Nat) : List Nat :=
      if st.heating then j :: (s.queue.get c).filter (· != i.val)
      else (s.queue.get c).map (fun k => if k = i.val then j else k)
    (st.state = .faulty → ∃ t, exec (.feedbackFault i) s = .next t ∧
      Closes { advanceTo e s with stages := s.stages.set i.val { st with feedback := .disagree .expired } } t)
    ∧ (st.state ≠ .faulty →
      ∃ t, exec (.feedbackFault i) s = .next t ∧ t.stage? i.val = some faulty ∧ (∀ c, i.val ∉ t.queue.get c)
        ∧ flagSet t.cond.current .stageFaulty = true
        ∧ (∀ z r, st.owner = .zone z → s.zone? z = some r →
            let c := min r.wanted (r.avail - 1)
            let c' := if s.inUse.flags.eco then min c ((r.avail - 1 + 1) / 2) else c
            t.zone? z = some { r with avail := r.avail - 1, wanted := c', offer := min r.offer (r.avail - 1 - c') })
        ∧ (∀ z, st.owner ≠ .zone z → t.zone? z = s.zone? z)
        ∧ (∀ c j, st.cls = some c → st.isHeld = true → s.nextIdle st.owner = some j → short c →
            (st.heating = true ∨ s.QueueSound) →
            ((t.queue.get c = lined c j) ∨ (s.alloc.sharing = .active ∧ ∃ x stx, t.stage? x = some stx
                ∧ stx.state = .energized ∧ t.queue.get c = (lined c j).filter (· != x)))
            ∧ ∃ st', t.stage? j = some st' ∧ st'.cls = some c
                ∧ (st'.state = .queued ∨ (s.alloc.sharing = .active ∧ st'.state = .energized)))
        ∧ (∀ c, st.cls = some c → st.isHeld = true → (∀ z, st.owner ≠ .zone z) → s.nextIdle st.owner = none →
            t.heldCount st.owner c + 1 = s.heldCount st.owner c)
        ∧ { t with
            clock := s.clock, zones := s.zones, seq := s.seq, pacing := s.pacing, stages := s.stages, queue := s.queue,
            alloc := s.alloc, view := s.view, link := s.link, cond := s.cond, outputs := s.outputs } = s)

/-! ### Air -/

/-- The blower supervisor's timers: the window's examination (R153, R155), the start limit (R155) and the retry (R156). A fan
that fails takes the stages it serves off (R65) and raises BLOWER_FAILED. The model's own choices: a command before or after
its time, and the clock it moves (log 4); the start time that stands when STARTING is left (log 20); the next expiry counted
from the expiry taken (log 26). -/
def Obligations.BlowersAreProven : Prop :=
  ∀ (s : State) (e : Time), s.Ready →
    let now := (advanceTo e s).clock
    let failed (b : Blower) : Blower := { b with
      state := .failed, start := .stopped, retrying := true, retry := .running (timeAfter now 30000) }
    let others (t : State) : Prop := { t with
      clock := s.clock, windowTimer := s.windowTimer, fans := s.fans, stages := s.stages, queue := s.queue,
      pacing := s.pacing, seq := s.seq, view := s.view, link := s.link, cond := s.cond, outputs := s.outputs } = s
    (s.windowTimer = .running e → (s.fans.map (·.fan)).Nodup →
      ∃ t, exec .tachWindowExpiry s = .next t ∧ t.windowTimer = .running (timeAfter e 500) ∧ others t
        ∧ ∀ b ∈ s.fans, let enough := s.config.fanMinOf b.fan ≤ b.tach
            (b.state = .starting → enough → t.fan? b.fan = some { b with
              state := .running, start := .stopped, retrying := false, tach := 0 })
            ∧ (b.state = .running → ¬ enough → t.fan? b.fan = some { failed b with tach := 0 }
              ∧ flagSet t.cond.current .blowerFailed = true
              ∧ ∀ st ∈ t.stages, st.owner.fan = b.fan → st.heating = false)
            ∧ (b.state = .starting ∧ ¬ enough ∨ b.state = .running ∧ enough ∨ b.state = .stopped ∨ b.state = .failed →
              t.fan? b.fan = some { b with tach := 0 }))
    ∧ ∀ f b, s.fan? f = some b →
      (b.start = .running e → b.state = .starting →
        ∃ t, exec (.startTimerExpiry f) s = .next t ∧ t.fan? f = some (failed b)
          ∧ flagSet t.cond.current .blowerFailed = true ∧ others t)
      ∧ (b.retry = .running e → b.state = .failed →
        ∃ t, exec (.retryTimerExpiry f) s = .next t ∧ others t ∧ t.fan? f = some { b with
          state := .starting, startedAt := some now, start := .running (timeAfter now 3000), retry := .stopped
          tach := 0 })

/-- A change of the damper encoder's phases (R158 to R160): in TRACKING the count follows the step and the motor the count; in
HOMING and STALLED the count stands; a step while the motor drives restarts the stall timer. The damper's timers (R160): a
stall in TRACKING, the closed end stop in HOMING, and the end of the rest in STALLED. The model's own choices: a command
before or after its time, and the clock it moves (log 4); the moment of the closing rewriting (log 6); the step's direction as
operand (log 25). -/
def Obligations.DamperFollowsItsEncoderAndTimers : Prop :=
  (∀ (s : State) (move : EncoderMove), s.Ready →
      let d := s.damper
      let restart : Timer := .running (timeAfter s.clock 500)
      let position := match move with
        | .opening => min s.config.fullCount (d.position + 1)
        | .closing => d.position - 1
        | .both => d.position
      let motor : Motor :=
        if position + s.config.deadband < d.target then .opening
        else if d.target + s.config.deadband < position then .closing
        else .stopped
      (move = .both → ∃ t, exec (.encoderStep move) s = .next t ∧ Closes s t)
      ∧ (move ≠ .both → d.state = .tracking → ∃ t, exec (.encoderStep move) s = .next t ∧
        Closes { s with damper := { d with
          position := position, motor := motor
          stall := if motor ≠ .stopped then restart else if d.motor = .stopped then d.stall else .stopped } } t)
      ∧ (move ≠ .both → d.state ≠ .tracking → ∃ t, exec (.encoderStep move) s = .next t ∧
        Closes { s with damper := { d with stall := if d.motor = .stopped then d.stall else restart } } t))
  ∧ ∀ (s : State) (e : Time), s.Ready →
      let s1 := advanceTo e s
      let d := s.damper
      let after (ms : Nat) : Timer := .running (timeAfter s1.clock ms)
      let others (t : State) : Prop := { t with
        clock := s.clock, damper := s.damper, view := s.view, link := s.link, cond := s.cond, outputs := s.outputs } = s
      (d.stall = .running e → d.state = .tracking →
        ∃ t, exec .stallTimerExpiry s = .next t ∧ others t ∧ flagSet t.cond.current .damperStalled = true
          ∧ t.damper = { d with state := .stalled, motor := .stopped, stall := .stopped, lost := true, rest := after 500 })
      ∧ (d.stall = .running e → d.state = .homing → d.motor = .closing →
        let opens := s.config.deadband < d.target
        ∃ t, exec .stallTimerExpiry s = .next t ∧ others t ∧ flagSet t.cond.current .damperStalled = false
          ∧ t.damper = { d with
              state := .tracking, position := 0, lost := false, motor := if opens then .opening else .stopped
              stall := if opens then after 500 else .stopped })
      ∧ (d.rest = .running e → d.state = .stalled →
        ∃ t, exec .restTimerExpiry s = .next t ∧
          Closes { s1 with damper := { d with
            state := .homing, motor := .closing, stall := after 500, rest := .stopped } } t)
/-! ### Sharing -/

/-- The allocation computation of R71, with its bounds: the classes SAFETY, CURTAIN and ZONE share the budget in that order,
ABSORB the surplus. -/
def Obligations.AllocationSharesTheBudget : Prop :=
  ∀ (budget surplus : Nat) (counted : PerClass (List Nat)),
    let a := allocate budget surplus counted
    let grant (A : Nat) (q : List Nat) : List Nat := if q.sum ≤ A then q else q.map (fun x => A * x / q.sum)
    let left (A : Nat) (q : List Nat) : Nat := A - (grant A q).sum
    a.safety = grant budget counted.safety
    ∧ a.curtain = grant (left budget counted.safety) counted.curtain
    ∧ a.zone = grant (left (left budget counted.safety) counted.curtain) counted.zone
    ∧ a.absorb = grant surplus counted.absorb
    ∧ a.safety.sum + a.curtain.sum + a.zone.sum ≤ budget ∧ a.absorb.sum ≤ surplus
    ∧ ∀ (c : Cls) (i : Nat) (x q : Nat), (a.get c)[i]? = some x → (counted.get c)[i]? = some q → x ≤ q

/-- A POWER frame of the power station (R68): the silence timer restarts, budget, surplus and line state are taken, and the
sharing state moves by the table of states (R80 to R88), the zone fans with the end of JOINING (R157). A first DEAD frame
sheds. A line state above 2 has no effect. The model's own choices: the moment of the closing rewriting (log 6). -/
def Obligations.PowerFrameIsTaken : Prop :=
  ∀ (s : State) (b : PowerBody), s.Ready → s.config.powerStation ≠ s.straps.station →
    (∀ st ∈ s.stages, 0 < st.size) →
    let cmd : Instr := .powerFrame s.config.powerStation b
    (2 < b.line.toNat → ∃ t, exec cmd s = .next t ∧ Closes s t)
    ∧ ∀ line : Line, lineOf b.line = some line →
      let dead := line = .dead ∧ s.alloc.line ≠ .dead ∧ s.alloc.sharing ≠ .isolated
      let hold := s.alloc.sharing = .active ∧ line = .gap ∧ (s.alloc.line = .live ∨ s.alloc.line = .dead)
      ∃ t, exec cmd s = .next t ∧ t.alloc.silence = .running (timeAfter s.clock 500) ∧ t.alloc.powerHeard = true
        ∧ t.alloc.line = line
        ∧ t.alloc.budget = (if line = .gap then s.alloc.budget else b.budget.toNat)
        ∧ t.alloc.surplus = (if line = .gap then 0 else b.surplus.toNat)
        ∧ t.alloc.sharing = (match s.alloc.sharing with
            | .isolated => .isolated
            | .muted => .muted
            | .silent => .active
            | .joining => if s.alloc.demandConfirmed then .active else .joining
            | .gapHold => if line = .gap then .gapHold else .active
            | .active => if hold then .gapHold else .active)
        ∧ (dead → t.alloc.usable = .const 0 ∧ ∀ st ∈ t.stages, st.heating = false)
        ∧ (hold → t.alloc.gap = .running (timeAfter s.clock 3000) ∧ ∀ st ∈ t.stages, st.state ≠ .energized)
        ∧ (s.alloc.sharing = .joining → s.alloc.demandConfirmed = true → ∀ z b, s.fan? (.zone z) = some b →
            ∃ b', t.fan? (.zone z) = some b' ∧ b'.level = if s.inUse.flags.ventOnly then 2 else b.demandLevel)
        ∧ { t with
            stages := s.stages, queue := s.queue, pacing := s.pacing, seq := s.seq, alloc := s.alloc, view := s.view,
            link := s.link, fans := s.fans, cond := s.cond, outputs := s.outputs } = s

/-- The silence timer's expiry (R69, R86): budget, surplus and every allocation and intent are 0, and ACTIVE and GAP_HOLD go
to SILENT with every stage off. The gap timer's expiry sheds, and GAP_HOLD goes to ACTIVE (R84, R89). The model's own choices:
a command before or after its time, and the clock it moves (log 4). -/
def Obligations.SilenceAndGapExpire : Prop :=
  ∀ (s : State) (e : Time), s.Ready →
    let others (t : State) : Prop := { t with
      clock := s.clock, stages := s.stages, queue := s.queue, alloc := s.alloc, view := s.view, link := s.link,
      cond := s.cond, outputs := s.outputs } = s
    (s.alloc.silence = .running e →
      let enters := s.alloc.sharing = .active ∨ s.alloc.sharing = .gapHold
      ∃ t, exec .silenceExpiry s = .next t ∧ t.alloc.silence = .expired ∧ t.alloc.budget = 0 ∧ t.alloc.surplus = 0
        ∧ t.alloc.line = .none ∧ t.alloc.allocation = .const 0 ∧ t.alloc.announced = .const 0
        ∧ t.alloc.usable = .const 0 ∧ t.alloc.sharing = (if enters then .silent else s.alloc.sharing)
        ∧ (enters → t.alloc.gap = .stopped ∧ flagSet t.cond.current .powerSilent = true
            ∧ ∀ st ∈ t.stages, st.heating = false)
        ∧ others t)
    ∧ (s.alloc.gap = .running e → s.alloc.sharing = .gapHold → (∀ st ∈ s.stages, 0 < st.size) →
      ∃ t, exec .gapTimerExpiry s = .next t ∧ (∀ st ∈ t.stages, st.heating = false) ∧ others t
        ∧ t.alloc = { s.alloc with
            sharing := .active, gap := .stopped, usable := .const 0, announced := s.alloc.allocation
            raisePending := s.alloc.allocation != .const 0, holdOff := .stopped })

/-- The hold-off's expiry (R77): every usable intent becomes the lesser of the announced intent and the allocation, and the
timer stands stopped. The model's own choices: a command before or after its time, and the clock it moves (log 4); the one
attempt at the end of a step (log 5). -/
def Obligations.HoldOffRaisesTheUsableIntents : Prop :=
  ∀ (s : State) (e : Time), s.Ready → s.alloc.holdOff = .running e →
    ∃ t, exec .holdOffExpiry s = .next t
      ∧ t.alloc = { s.alloc with
          holdOff := .stopped, usable := PerClass.ofFn (fun c => min (s.alloc.announced.get c) (s.alloc.allocation.get c)) }
      ∧ { t with
          clock := s.clock, stages := s.stages, queue := s.queue, pacing := s.pacing, seq := s.seq, alloc := s.alloc,
          view := s.view, link := s.link, outputs := s.outputs } = s

/-- The transmit-failure timer's expiry (R125, R87): the node goes MUTED with a shed, in every state but MUTED and ISOLATED,
where only the timer stands expired. The shed sets the announced intents to 0 and raises them to the allocation again (R89):
a waiting DEMAND entry is replaced in place, though it may end with the figures it had (R120). The model's own choices: a command before or after its time, and the clock it moves (log
4); the moment of the closing rewriting (log 6). -/
def Obligations.TransmitFailureMutes : Prop :=
  ∀ (s : State) (e : Time), s.Ready → s.link.failure = .running e →
    let s1 := advanceTo e s
    (s.alloc.sharing = .muted ∨ s.alloc.sharing = .isolated →
      ∃ t, exec .txFailureExpiry s = .next t ∧ Closes { s1 with link := { s1.link with failure := .expired } } t)
    ∧ (s.alloc.sharing ≠ .muted → s.alloc.sharing ≠ .isolated →
      ∃ t, exec .txFailureExpiry s = .next t ∧ t.link.failure = .expired ∧ (∀ st ∈ t.stages, st.heating = false)
        ∧ flagSet t.cond.current .txFailed = true ∧ flagSet t.cond.current .powerSilent = false
        ∧ t.alloc = { s.alloc with
            sharing := .muted, gap := .stopped, usable := .const 0, announced := s.alloc.allocation
            raisePending := s.alloc.allocation != .const 0, holdOff := .stopped }
        ∧ (s.OwnEntryKept → s.alloc.announced ≠ .const 0 → ∀ (n : Nat) w, s.link.list[n]? = some w →
            w.frame = s.demandFrame → t.link.list[n]? = some { w with
              frame := t.demandFrame, failed := 0, replaced := w.replaced || (n == 0 && s.headSending) })
        ∧ { t with
            clock := s.clock, stages := s.stages, queue := s.queue, alloc := s.alloc, view := s.view, link := s.link,
            fans := s.fans, cond := s.cond, outputs := s.outputs } = s)

/-- Any valid frame that carries the node's own station number makes the node ISOLATED, whatever the sharing state: every
stage is off, the claims and the usable intents are 0, and DUPLICATE_STATION is current. In ISOLATED it has no effect (R88,
R118). The model's own choices: the moment of the closing rewriting (log 6); the claims before the shed (log 15). -/
def Obligations.DuplicateStationIsolates : Prop :=
  ∀ (s : State) (c : Instr) (f : Frame), s.Ready → frameOf c = some (s.straps.station, f) →
    (s.alloc.sharing = .isolated → ∃ t, exec c s = .next t ∧ Closes s t)
    ∧ (s.alloc.sharing ≠ .isolated →
      ∃ t, exec c s = .next t ∧ t.alloc.sharing = .isolated ∧ t.alloc.gap = .stopped ∧ t.alloc.usable = .const 0
        ∧ t.ownEntry.claims = .const 0 ∧ (∀ st ∈ t.stages, st.heating = false)
        ∧ flagSet t.cond.current .duplicateStation = true
        ∧ { t with
            stages := s.stages, queue := s.queue, alloc := s.alloc, view := s.view, link := s.link, fans := s.fans,
            cond := s.cond, outputs := s.outputs } = s)

/-! ### The peer view -/

/-- A DEMAND, PRESENCE, STATUS or ANSWER frame of a peer: the station is ALIVE and heard now, with what the frame carries, and
no other peer's entry changes (R97 to R99). From the power station such a frame is set aside (R117). Where the frame changes
neither the station's state nor its cab flag, nothing but the allocation follows (R100). Where it changes one of them the
accepted cab station is chosen again, and a change of it moves the state in use, the OVERRIDE entry and ROLE_CONFLICT (R106,
R107, R122, R149, R150). A POWER frame of a station that is not the power station latches FOREIGN_POWER, and budget, surplus
and silence timer stand (R119). The model's own choices: the moment of the closing rewriting (log 6). -/
def Obligations.PeerFramesAreHeard : Prop :=
  ∀ (s : State) (source : Station) (c : Instr) (f : Frame), s.Ready → frameOf c = some (source, f) →
    source ≠ s.straps.station →
    let start := if (s.entry source).state = .absent then Entry.absent else s.entry source
    let heard : Entry := { start with lastHeard := some s.clock, state := .alive }
    let taken (e : Entry) : Prop := ∃ t, exec c s = .next t ∧ t.entry source = e ∧ s.Hears source t
      ∧ ((s.entry source).state = .alive → e.cab = (s.entry source).cab → { t with
          stages := s.stages, queue := s.queue, alloc := s.alloc, view := s.view, link := s.link, cond := s.cond,
          outputs := s.outputs } = s)
    (source = s.config.powerStation → (∀ b, f ≠ .power b) → ∃ t, exec c s = .next t ∧ Closes s t)
    ∧ (source ≠ s.config.powerStation →
      (∀ b, f = .demand b → taken { heard with
          claims := ⟨b.claims.safety.toNat, b.claims.curtain.toNat, b.claims.zone.toNat, b.claims.absorb.toNat⟩
          intents := ⟨b.intents.safety.toNat, b.intents.curtain.toNat, b.intents.zone.toNat, b.intents.absorb.toNat⟩
          draw := b.draw.toNat })
      ∧ (∀ b, f = .presence b →
          let inRange := -400 ≤ b.outside.toInt ∧ b.outside.toInt ≤ 850
          let outside : Entry := { heard with
            outside := if inRange then some b.outside.toInt else none
            outsideAt := if inRange then some s.clock else none }
          (b.car = 3 → taken outside)
          ∧ ∀ car : Fin 3, b.car = BitVec.ofNat 2 car.val → taken { outside with car := some car, cab := b.cab && car == 0 })
      ∧ (∀ b, f = .power b → ∃ t, exec c s = .next t ∧ t.entry source = heard
          ∧ flagSet t.cond.latched .foreignPower = true ∧ t.alloc.budget = s.alloc.budget
          ∧ t.alloc.surplus = s.alloc.surplus ∧ t.alloc.line = s.alloc.line ∧ t.alloc.silence = s.alloc.silence
          ∧ s.Hears source t
          ∧ ((s.entry source).state = .alive → t.cond.current = s.cond.current
            ∧ { t with view := s.view, link := s.link, cond := s.cond, outputs := s.outputs } = s))
      ∧ (∀ b, f = .status b → taken heard)
      ∧ (∀ b, f = .answer b → taken heard))

/-- The ageing timer's expiry: every peer's entry ages by the table of R101, a lost one loses its claims, intents and draw
(R102), and the OPEN PEER draft records of lost stations fall to DECAY (R39); the agreement takes the median of the reports
counted, and with none a MEDIAN becomes HELD (R104, R105); a DEMAND frame falls due (R124). At the expiry of the agreement's
hold timer the agreed temperature is the design value (R105). Where a loss changes the accepted cab station, the state in use,
the OVERRIDE entry and ROLE_CONFLICT follow, and a change to the own number takes the word (R102, R106, R107, R149, R150). The
model's own choices: a command before or after its time, and the clock it moves (log 4); the moment of the closing rewriting (log 6); the order of the stations (log 16); the next expiry
counted from the expiry taken (log 26). -/
def Obligations.ViewTimersExpire : Prop :=
  ∀ (s : State) (e : Time), s.Ready →
    (s.view.hold = .running e →
      ∃ t, exec .agreementHoldExpiry s = .next t ∧ Closes { advanceTo e s with
        view := { s.view with agreed := s.config.design, source := .design, hold := .stopped } } t)
    ∧ (s.view.ageing = .running e →
    let now := (advanceTo e s).clock
    let lost (i : Station) : Prop := i ≠ s.straps.station ∧ ∃ a, (s.entry i).lastHeard = some a ∧ 2000 ≤ elapsed now a
      ∧ ((s.entry i).state = .alive ∨ (s.entry i).state = .stale)
    let stale (i : Station) : Prop := i ≠ s.straps.station ∧ ∃ a, (s.entry i).lastHeard = some a
      ∧ 600 ≤ elapsed now a ∧ elapsed now a < 2000 ∧ (s.entry i).state = .alive
    ∃ t, exec .ageingExpiry s = .next t ∧ t.view.ageing = .running (timeAfter e 200) ∧ t.clock = now
      ∧ (∀ i, lost i → t.entry i = { s.entry i with
          state := .lost, claims := .const 0, intents := .const 0, draw := 0 })
      ∧ (∀ i, stale i → t.entry i = { s.entry i with state := .stale })
      ∧ (∀ i, i ≠ s.straps.station → ¬ lost i → ¬ stale i → t.entry i = s.entry i)
      ∧ (∀ z r, s.zone? z = some r → ∃ r', t.zone? z = some r' ∧ r'.drafts.length = r.drafts.length
          ∧ ∀ (k : Nat) d, r.drafts[k]? = some d →
              (lost d.station → d.origin = .peer → d.state = .opened →
                r'.drafts[k]? = some { d with state := .decay, close := some now })
              ∧ (¬ lost d.station ∨ d.origin = .loc ∨ d.state = .decay → r'.drafts[k]? = some d))
      ∧ (t.reports = [] → t.view.agreed = s.view.agreed ∧ t.view.hold = s.view.hold
          ∧ t.view.source = if s.view.source = .median then .held else s.view.source)
      ∧ (t.reports ≠ [] → t.view.agreed ∈ t.reports ∧ t.view.source = .median
          ∧ t.view.hold = .running (timeAfter now 600000)
          ∧ (t.reports.filter (· < t.view.agreed)).length ≤ (t.reports.length - 1) / 2
          ∧ (t.reports.length - 1) / 2 < (t.reports.filter (· ≤ t.view.agreed)).length)
      ∧ (s.CabFollows → t.view.accepted = t.cabChoice ∧ s.TakesChoice t)
      ∧ (s.listening = false →
          (∃ w ∈ t.link.list, w.frame.isDemand = true) ∨ (t.link.due = true ∧ t.link.spacing.isRunning = true))
      ∧ { t with
          clock := s.clock, zones := s.zones, doors := s.doors, stages := s.stages, queue := s.queue, pacing := s.pacing,
          seq := s.seq, alloc := s.alloc, view := s.view, link := s.link, inUse := s.inUse, fans := s.fans,
          damper := s.damper, cond := s.cond, outputs := s.outputs } = s)
/-! ### The link -/

/-- The link controller's schedules (R120, R123 to R125): the PRESENCE and STATUS timers each queue their frame, the OVERRIDE
timer on the accepted cab station alone, and the spacing timer a DEMAND frame where one is due. A frame of a kind that waits
replaces that entry in place, and one that does not joins at the back. The model's own choices: a command before or after its
time, and the clock it moves (log 4); the moment of the closing rewriting (log 6); a replacement by equal figures (log 24);
the next expiry counted from the expiry taken (log 26). -/
def Obligations.ScheduledFramesAreQueued : Prop :=
  ∀ (s : State) (e : Time), s.Ready →
    let s1 := advanceTo e s
    let next (ms : Nat) : Timer := .running (timeAfter e ms)
    (s.link.presence = .running e → ∃ t, exec .presenceTimerExpiry s = .next t ∧
      Closes { s1 with link := queuedIn s1 { s.link with presence := next 1000 } s.presenceFrame } t)
    ∧ (s.link.status = .running e → ∃ t, exec .statusTimerExpiry s = .next t ∧
      Closes { s1 with link := queuedIn s1 { s.link with status := next 5000 } s.statusFrame } t)
    ∧ (s.link.override = .running e → ∃ t, exec .overrideTimerExpiry s = .next t ∧
      Closes { s1 with link :=
        if s.view.accepted = some s.straps.station then queuedIn s1 { s.link with override := next 1000 } s.overrideFrame
        else { s.link with override := next 1000 } } t)
    ∧ (s.link.spacing = .running e → ∃ t, exec .spacingExpiry s = .next t ∧
      Closes { s1 with link :=
        if s.link.due then queuedIn s1 { s.link with spacing := .stopped, due := false } s.demandFrame
        else { s.link with spacing := .stopped, due := false } } t)

/-- The beginning of an attempt (R109, R111): the head's backoff slots are counted down, and with none left, the line
recessive and no spacing in the way of a DEMAND entry, its attempt begins with its contents, sent as bytes under the node's
own station number (R113, R161). None begins in the join listen, during an attempt or with an empty list. The model's own
choices: the moment of the closing rewriting (log 6); how an attempt begins and ends as operands and commands (log 21). -/
def Obligations.AttemptsBeginAtTheHead : Prop :=
  ∀ (s : State) (slots : Nat) (dominant : Bool), s.Ready →
    (∀ w rest, s.link.list = w :: rest → s.listening = false → s.link.attempt = none →
      let begins := w.backoff ≤ slots ∧ dominant = false ∧ (w.frame.isDemand = true → s.link.spacing.isRunning = false)
      ∃ t, exec (.txAttemptStart slots dominant) s = .next t ∧
        Closes { s with link := { s.link with
          list := { w with backoff := w.backoff - slots } :: rest
          attempt := if begins then some ⟨w.frame, encodeFrame s.straps.station w.frame, false⟩ else none } } t)
    ∧ (s.link.list = [] ∨ s.listening = true ∨ s.link.attempt ≠ none →
      ∃ t, exec (.txAttemptStart slots dominant) s = .next t ∧ Closes s t)

/-- A collision (R110, R111): the attempt is over; the head's failed count rises and it waits the slots of the next draw ANDed
with 2^min(k, 5) − 1, or it is dropped at the eighth failure, and a dropped DEMAND entry starts the spacing timer. An attempt
whose entry was withdrawn leads to neither (R122). The model's own choices: the moment of the closing rewriting (log 6); how
an attempt begins and ends as operands and commands (log 21). -/
def Obligations.CollisionBacksOff : Prop :=
  ∀ (s : State) (a : Attempt), s.Ready → s.link.attempt = some a →
    let v := seqStep s.seq
    (a.withdrawn = true → ∃ t, exec .collision s = .next t ∧
      Closes { s with link := { s.link with attempt := none } } t)
    ∧ ∀ w rest, a.withdrawn = false → s.link.list = w :: rest →
      (w.failed < 7 → ∃ t, exec .collision s = .next t ∧
        Closes { s with
          seq := v
          link := { s.link with
            attempt := none
            list := { w with
              failed := w.failed + 1, backoff := (v.toNat % 32) % 2 ^ min (w.failed + 1) 5, replaced := false } :: rest } } t)
      ∧ (7 ≤ w.failed → ∃ t, exec .collision s = .next t ∧
        Closes { s with link := { s.link with
          attempt := none, list := rest
          spacing := if w.frame.isDemand then .running (timeAfter s.clock 50) else s.link.spacing } } t)

/-- A confirmed attempt (R112): the head leaves the list, or stays with newer contents; a DEMAND entry starts the spacing
timer; a confirmation of an attempt whose entry was withdrawn removes nothing (R122); the transmit-failure timer restarts, or
stops on an empty list; a confirmed DEMAND frame that covers a pending raise starts the hold-off (R76). It is said in full
where the confirmation moves no sharing state, and of the sharing state where it does: MUTED ends, and JOINING ends once power
is heard and demand confirmed (R80, R87). The model's own choices: the moment of the closing rewriting (log 6); how an attempt
begins and ends as operands and commands (log 21). -/
def Obligations.ConfirmationIsTaken : Prop :=
  ∀ (s : State) (a : Attempt) (list : List TxEntry) (demandLeaves : Bool), s.Ready → s.link.attempt = some a →
    (a.withdrawn = true → list = s.link.list ∧ demandLeaves = false) →
    (a.withdrawn = false → ∃ w rest, s.link.list = w :: rest ∧ demandLeaves = w.frame.isDemand
      ∧ list = if w.replaced then { w with failed := 0, replaced := false } :: rest else rest) →
    let isDemand : Bool := a.carried.isDemand
    let covers : Bool := match a.carried with
      | .demand b => Cls.all.all (fun c => decide (s.alloc.announced.get c ≤ (b.intents.get c).toNat))
      | _ => false
    let confirmed := s.alloc.demandConfirmed || isDemand
    let starts := s.alloc.raisePending && covers
    (s.alloc.sharing ≠ .muted → s.alloc.sharing ≠ .joining →
      ∃ t, exec .frameConfirmed s = .next t ∧
        Closes { s with
          alloc := { s.alloc with
            demandConfirmed := confirmed
            raisePending := if starts then false else s.alloc.raisePending
            holdOff := if starts then .running (timeAfter s.clock 400) else s.alloc.holdOff }
          link := { s.link with
            attempt := none, list := list
            spacing := if demandLeaves then .running (timeAfter s.clock 50) else s.link.spacing
            failure := if list = [] then .stopped else .running (timeAfter s.clock 1000) } } t)
    ∧ (s.alloc.sharing = .muted ∨ s.alloc.sharing = .joining →
      ∃ t, exec .frameConfirmed s = .next t ∧ t.alloc.demandConfirmed = confirmed ∧ t.link.attempt = none
        ∧ t.alloc.sharing = (if s.alloc.powerHeard && confirmed then
            (if s.alloc.silence = .expired then .silent else .active) else .joining)
        ∧ { t with
            stages := s.stages, queue := s.queue, pacing := s.pacing, seq := s.seq, alloc := s.alloc, view := s.view,
            link := s.link, fans := s.fans, cond := s.cond, outputs := s.outputs } = s)

/-- A discard joins the error window, and leaves it 1 s later; LINK_NOISE is current while the window holds more than 8 (R115,
R116). The model's own choices: a command before or after its time, and the clock it moves (log 4). -/
def Obligations.ErrorWindowHoldsTheDiscards : Prop :=
  ∀ s : State, s.Ready →
    let others (t : State) : Prop := { t with
      clock := s.clock, view := s.view, cond := s.cond, outputs := s.outputs
      link := { t.link with window := s.link.window, list := s.link.list, failure := s.link.failure } } = s
    (∀ r : Reception, r.isDiscard = true → ∃ t, exec (.frameDiscard r) s = .next t
      ∧ t.link.window = s.link.window ++ [s.clock]
      ∧ flagSet t.cond.current .linkNoise = decide (8 < s.link.window.length + 1) ∧ others t)
    ∧ ∀ a rest, s.link.window = a :: rest → ∃ t, exec .errorWindowDeparture s = .next t
      ∧ t.link.window = rest ∧ t.clock = (advanceTo (timeAfter a 1000) s).clock
      ∧ flagSet t.cond.current .linkNoise = decide (8 < rest.length) ∧ others t

/-! ### Defrost -/

/-- The defrost check (R130, R131): the dew estimate and the fog risk are formed from the valid readings, and the state moves
by the table. An entry into DEMIST, or into OFF after three clear checks, hands on the stage count, restarts or stops the
louvre and commands the defrost fan (R49, R135, R138, R139). The model's own choices: a command before or after its time, and the clock it moves (log 4);
the moment of the closing rewriting (log 6); the next expiry counted from the expiry taken (log 26). -/
def Obligations.DefrostCheckTestsFogRisk : Prop :=
  ∀ (s : State) (e : Time) (d : Defrost), s.Ready → s.defrost = some d → d.check = .running e →
    let s1 := advanceTo e s
    let margin : Int := s.config.cab.margin
    let dew : Option Int := match d.cabTemp, d.humidity with
      | some x, some h => if d.cabRun = 3 then none else some (x - ((1000 - h) / 5 : Nat))
      | _, _ => none
    let screen := if d.screenRun = 3 then none else d.screen
    let fog : Bool := match dew, screen with
      | some a, some b => decide (b ≤ a + margin)
      | _, _ => true
    let clear : Bool := match dew, screen with
      | some a, some b => decide (a + margin + 10 ≤ b)
      | _, _ => false
    let tested : Defrost := { d with check := .running (timeAfter e 5000), dew := dew, fogRisk := fog }
    let only (d' : Defrost) : Prop := ∃ t, exec .defrostCheck s = .next t ∧ Closes { s1 with defrost := some d' } t
    let moves (d' : Defrost) (count level : Nat) : Prop := ∃ t, exec .defrostCheck s = .next t ∧ t.defrost = some d'
      ∧ (s.QueueSound → t.Handed .defrost .safety count)
      ∧ (∀ b, s.fan? .defrost = some b → ∃ b', t.fan? .defrost = some b' ∧ b'.level = level)
      ∧ { t with
          clock := s.clock, defrost := s.defrost, stages := s.stages, queue := s.queue, pacing := s.pacing, seq := s.seq,
          alloc := s.alloc, view := s.view, link := s.link, fans := s.fans, cond := s.cond, outputs := s.outputs } = s
    (d.state = .boost ∨ (d.state = .off ∧ fog = false) → only tested)
    ∧ (d.state = .off → fog = true → moves { tested with
        state := .demist, louvreTimer := .running (timeAfter s1.clock 200), louvre := 0, direction := .up }
        s.config.cab.nd 1)
    ∧ (d.state = .demist → clear = false → only { tested with clearCount := 0 })
    ∧ (d.state = .demist → clear = true → d.clearCount < 2 → only { tested with clearCount := d.clearCount + 1 })
    ∧ (d.state = .demist → clear = true → 2 ≤ d.clearCount → moves { tested with
        state := .off, clearCount := 0, louvreTimer := .stopped, louvre := 0, direction := .up } 0 0)

/-- One louvre step (R139, R140): up to the amplitude and back to 0, every 200 ms; the pin carries the rest position plus the
counter. The model's own choices: a command before or after its time, and the clock it moves (log 4); the moment of the
closing rewriting (log 6); the next expiry counted from the expiry taken (log 26). -/
def Obligations.LouvreSweeps : Prop :=
  ∀ (s : State) (e : Time) (d : Defrost), s.Ready → s.defrost = some d → d.louvreTimer = .running e →
    let next : Timer := .running (timeAfter e 200)
    let d' : Defrost := match d.direction with
      | .up => { d with
          louvreTimer := next, louvre := d.louvre + 1
          direction := if d.louvre + 1 = s.config.cab.amplitude then .down else .up }
      | .down => { d with
          louvreTimer := next, louvre := d.louvre - 1, direction := if d.louvre - 1 = 0 then .up else .down }
    ∃ t, exec .louvreStep s = .next t ∧ Closes { advanceTo e s with defrost := some d' } t
      ∧ t.outputs.louvre = min 255 (s.config.cab.rest + d'.louvre)

/-! ### Overrides -/

/-- The boost timer and the layover timer clear their flags in the word (R133, R144): BOOST ends by the fog-risk test of R130 on
the readings as they stand, and on the accepted cab station the state in use takes the word and an OVERRIDE frame waits
(R146). The model's own choices: a command before or after its time, and the clock it moves (log 4); the moment of the closing
rewriting (log 6); the fall timers and their fields (log 27). -/
def Obligations.FlagTimersClearTheirFlags : Prop :=
  ∀ (s : State) (e : Time) (w : OvrWord) (d : Defrost), s.Ready → s.word = some w → s.defrost = some d →
    let handedOn (t : State) (flags : Flags) : Prop := s.view.accepted = some s.straps.station →
      t.inUse.mode = .own ∧ t.inUse.flags = flags ∧ t.inUse.offsets = w.offsets ∧ t.inUse.source = some s.straps.station
      ∧ ∃ x ∈ t.link.list, x.frame = t.overrideFrame
    (d.boost = .running e → w.flags.boost = true → d.state = .boost →
      ∃ t d', exec .boostTimerExpiry s = .next t ∧ t.word = some { w with flags := { w.flags with boost := false } }
        ∧ t.defrost = some d' ∧ d.LeavesBoost s.config.cab.margin d'
        ∧ handedOn t { w.flags with boost := false })
    ∧ (w.layover = .running e → w.flags.layover = true →
      let w' : OvrWord := { w with
        flags := { w.flags with layover := false }, layover := .stopped, layoverLeft := 0, layoverFall := .stopped }
      ∃ t, exec .layoverTimerExpiry s = .next t ∧ t.word = some w' ∧ t.defrost = some d ∧ handedOn t w'.flags
        ∧ (s.view.accepted ≠ some s.straps.station → Closes { advanceTo e s with word := some w' } t))

/-- The figures of the OVERRIDE frame fall by one: the layover minutes each minute and the boost remaining each 10 s (R134,
R144; the timers of the falls are the model's own, log 27). The model's own choices: a command before or after its time, and
the clock it moves (log 4); the moment of the closing rewriting (log 6); the fall timers and their fields (log 27). -/
def Obligations.FiguresFall : Prop :=
  ∀ (s : State) (e : Time), s.Ready →
    let own := s.view.accepted = some s.straps.station
    let left (x : Timer) (ms figure : Nat) : Timer := match x with
      | .running y => if 1 < figure then .running (y - BitVec.ofNat 32 (ms * (figure - 1))) else .stopped
      | _ => .stopped
    (∀ w, s.word = some w → w.layoverFall = .running e → 0 < w.layoverLeft → w.layoverLeft ≤ 60 →
      let n := w.layoverLeft - 1
      let w' : OvrWord := { w with layoverLeft := n, layoverFall := left w.layover 60000 n }
      ∃ t, exec .layoverMinutesFall s = .next t ∧ t.word = some w'
        ∧ (own → t.inUse.layover = n ∧ ∃ x ∈ t.link.list, x.frame = t.overrideFrame)
        ∧ (¬ own → Closes { advanceTo e s with word := some w' } t))
    ∧ ∀ d, s.defrost = some d → s.word ≠ none → d.boostFall = .running e → 0 < d.boostLeft → d.boostLeft ≤ 120 →
      let n := d.boostLeft - 1
      let d' : Defrost := { d with boostLeft := n, boostFall := left d.boost 10000 n }
      ∃ t, exec .boostRemainingFall s = .next t ∧ t.defrost = some d'
        ∧ (own → t.inUse.boost = n ∧ ∃ x ∈ t.link.list, x.frame = t.overrideFrame)
        ∧ (¬ own → Closes { advanceTo e s with defrost := some d' } t)

/-- The override silence timer moves FOLLOWING to HOLDING for 60 s; at the override hold timer's expiry the state in use
reverts: flags clear, offsets and figures 0, no source, mode DEFAULT (R149), and the zones' pending offset with it (R151). The
model's own choices: a command before or after its time, and the clock it moves (log 4); the moment of the closing rewriting
(log 6). -/
def Obligations.OverrideTimersExpire : Prop :=
  ∀ (s : State) (e : Time), s.Ready →
    let s1 := advanceTo e s
    (s.inUse.silence = .running e → ∃ t, exec .overrideSilenceExpiry s = .next t ∧
      Closes { s1 with inUse :=
        if s.inUse.mode = .following then { s.inUse with
          mode := .holding, silence := .stopped, hold := .running (timeAfter s1.clock 60000) }
        else { s.inUse with silence := .stopped } } t)
    ∧ (s.inUse.hold = .running e →
      ∃ t, exec .overrideHoldExpiry s = .next t
        ∧ t.inUse = { mode := .default, flags := ⟨false, false, false, false, false⟩, offsets := ⟨0, 0, 0⟩,
                      layover := 0, boost := 0, source := none, silence := .stopped, hold := .stopped }
        ∧ (∀ z r, s.zone? z = some r → t.zone? z = some { r with
            pendingOffset := if s.inUse.offsets.ofCar s.straps.car = 0 then r.pendingOffset else 0 })
        ∧ { t with
            clock := s.clock, zones := s.zones, inUse := s.inUse, alloc := s.alloc, view := s.view, link := s.link,
            stages := s.stages, queue := s.queue, fans := s.fans, damper := s.damper, cond := s.cond,
            outputs := s.outputs } = s)

/-- An OVERRIDE frame of the accepted cab station replaces the state in use (R148), and the zones take its changes: the own
car's offset as the pending offset, OFF where VENT_ONLY is gained, the cap where ECO is gained (R9, R20, R151). A gain of
VENT_ONLY withdraws every curtain (R44) and sets the zone fans (R157), a gain of LAYOVER bars the curtains of doors open past
60 s (R43), and a change of VENT_ONLY or RECIRC sets the damper's target (R159); a stall expiry that falls together with it
stands where the motor drives on (R160). From any other station it is set aside: its station is only heard. It is said of a
source in every state, a STALE one among them, with the accepted cab station as it stands once the source is heard (R106, R148);
a STALE accepted cab station stays accepted. The model's own choices: the moment of the
closing rewriting (log 6); a door open for exactly 60 s (log 32); an overdue stall expiry (log 40). -/
def Obligations.OverrideFrameIsAdopted : Prop :=
  ∀ (s : State) (source : Station) (b : OverrideBody), s.Ready → source ≠ s.straps.station →
    source ≠ s.config.powerStation → ((s.entry source).state = .alive ∨ s.CabFollows) →
    let offset (x : Byte) : Int := (clampInt (-30) 30 x.toInt).tdiv 5 * 5
    let flags : Flags :=
      ⟨b.flags.getLsbD 0, b.flags.getLsbD 1, b.flags.getLsbD 2, b.flags.getLsbD 3, b.flags.getLsbD 4⟩
    let offsets : Offsets := ⟨offset b.offset0, offset b.offset1, offset b.offset2⟩
    let car := s.straps.car
    let gainsVent := flags.ventOnly && !s.inUse.flags.ventOnly
    let gainsLayover := flags.layover && !s.inUse.flags.layover
    let d := s.damper
    let fraction := if flags.recirc || d.doorOpen then s.config.fMin
      else if flags.ventOnly then 1000 else s.config.fNorm
    let target := fraction * s.config.fullCount / 1000
    let motor : Motor :=
      if d.position + s.config.deadband < target then .opening
      else if target + s.config.deadband < d.position then .closing
      else .stopped
    ∃ t, exec (.overrideFrame source b) s = .next t
    ∧ ((s.entry source).state = .alive ∨ (s.entry source).state = .stale → t.view.accepted = s.view.accepted)
    ∧ (t.view.accepted ≠ some source → s.OnlyHears source t)
    ∧ (t.view.accepted = some source →
        (t.entry source).state = .alive ∧ (t.entry source).lastHeard = some s.clock
        ∧ t.inUse = { mode := .following, flags := flags, offsets := offsets, layover := min 60 b.layover.toNat,
                      boost := min 120 b.boost.toNat, source := some source,
                      silence := .running (timeAfter s.clock 5000), hold := .stopped }
        ∧ (∀ z r, s.zone? z = some r →
            let r1 := if s.inUse.offsets.ofCar car = offsets.ofCar car then r
              else { r with pendingOffset := offsets.ofCar car }
            let r2 := if flags.ventOnly ∧ ¬ s.inUse.flags.ventOnly ∧ r.state ≠ .off then
                { r1 with state := .off, wanted := 0, offer := 0, demand := 0, limited := false }
              else r1
            let r3 := if flags.eco ∧ ¬ s.inUse.flags.eco then { r2 with wanted := min r2.wanted ((r.avail + 1) / 2) }
              else r2
            t.zone? z = some r3)
        ∧ (∀ y ry g, s.door? y = some ry → s.doorCfg? y = some g →
            let past := match ry.openedAt with
              | some a => ry.state == .opened && (decide (60000 < elapsed s.clock a)
                  || (elapsed s.clock a == 60000 && !ry.layoverMark.isRunning))
              | none => false
            let bars := ry.curtain = .wanted ∧ (gainsVent = true ∨ (gainsLayover = true ∧ past = true))
            t.door? y = some (if g.curtainStages = 0 then ry
              else if bars then { ry with curtain := .barred, runOn := .stopped }
              else if gainsVent ∧ ry.curtain = .runOn then { ry with curtain := .off, runOn := .stopped }
              else ry))
        ∧ (gainsVent = true → ∀ z b, s.fan? (.zone z) = some b → ∃ b', t.fan? (.zone z) = some b'
            ∧ b'.level = if s.alloc.sharing = .joining then 0 else 2)
        ∧ t.damper = (if target = d.target ∨ (flags.ventOnly = s.inUse.flags.ventOnly ∧ flags.recirc = s.inUse.flags.recirc)
            then d
          else if d.state = .tracking then { d with
            target := target, motor := motor
            stall := if motor = d.motor then d.stall
              else if motor = .stopped then .stopped
              else if d.stall.isDue s.clock then d.stall
              else .running (timeAfter s.clock 500) }
          else { d with target := target })
        ∧ { t with
            zones := s.zones, doors := s.doors, stages := s.stages, queue := s.queue, pacing := s.pacing, seq := s.seq,
            alloc := s.alloc, view := s.view, link := s.link, inUse := s.inUse, fans := s.fans, damper := s.damper,
            cond := s.cond, outputs := s.outputs } = s)

/-- One accepted key press on the cab node, the only one of its sample: the key's flag toggles, the car select steps, or the
offsets of the selected cars move by 5 within -30..30 (R142, R143); LAYOVER moves the layover timer (R144), and DEFROST_BOOST
the defrost state (R132, R133). On the accepted cab station the state in use takes the word (R146). The model's own choices: a command before or after its time, and the clock
it moves (log 4); the order of the inputs and the numbering of the keys (log 7); the fall timers and their fields (log 27). -/
def Obligations.KeyPressChangesTheWord : Prop :=
  ∀ (s : State) (e : Time) (p : Pins) (k : Fin 8) (w : OvrWord) (f : Filter), s.Ready → s.sampleTimer = .running e →
    s.word = some w → s.keys[k.val]? = some f → f.level = some false → 3 ≤ f.run → p.keys.getLsbD k.val = true →
    (∀ (j : Nat) g, j ≠ k.val → s.keys[j]? = some g → g.level = some (p.keys.getLsbD j)) →
    let now := (advanceTo e s).clock
    let limit := s.config.cab.layover
    let moved (by5 x : Int) : Int := clampInt (-30) 30 (x + by5)
    let warmed (by5 : Int) : Offsets := match w.select with
      | .all => ⟨moved by5 w.offsets.car0, moved by5 w.offsets.car1, moved by5 w.offsets.car2⟩
      | .car0 => { w.offsets with car0 := moved by5 w.offsets.car0 }
      | .car1 => { w.offsets with car1 := moved by5 w.offsets.car1 }
      | .car2 => { w.offsets with car2 := moved by5 w.offsets.car2 }
    let w' : OvrWord := match k with
      | 0 => { w with flags := { w.flags with eco := !w.flags.eco } }
      | 1 => { w with flags := { w.flags with recirc := !w.flags.recirc } }
      | 2 => if w.flags.layover then { w with
            flags := { w.flags with layover := false }, layover := .stopped, layoverLeft := 0, layoverFall := .stopped }
          else { w with
            flags := { w.flags with layover := true }, layover := .running (timeAfter now (limit * 60000))
            layoverLeft := limit, layoverFall := fallTimer (timeAfter now (limit * 60000)) 60000 limit }
      | 3 => { w with flags := { w.flags with ventOnly := !w.flags.ventOnly } }
      | 4 => { w with flags := { w.flags with boost := !w.flags.boost } }
      | 5 => { w with select := match w.select with
          | .all => .car0
          | .car0 => .car1
          | .car1 => .car2
          | .car2 => .all }
      | 6 => { w with offsets := warmed 5 }
      | 7 => { w with offsets := warmed (-5) }
    ∃ t, exec (.inputSample p) s = .next t ∧ t.word = some w' ∧ t.keys[k.val]? = some ⟨some true, 0⟩
      ∧ (∀ d, s.defrost = some d → k = 4 → d.state = .boost → w.flags.boost = true →
          ∃ d', t.defrost = some d' ∧ d.LeavesBoost s.config.cab.margin d')
      ∧ (∀ d, s.defrost = some d → k = 4 → w.flags.boost = false → ∃ d', t.defrost = some d' ∧ d'.state = .boost
          ∧ d'.boost = .running (timeAfter now (s.config.cab.boost * 1000)) ∧ d'.clearCount = 0)
      ∧ (∀ d, s.defrost = some d → k = 4 → d.state ≠ .boost → w.flags.boost = true → t.defrost = some d)
      ∧ (k ≠ 4 → t.defrost = s.defrost)
      ∧ (s.view.accepted = some s.straps.station →
          t.inUse.mode = .own ∧ t.inUse.flags = w'.flags ∧ t.inUse.offsets = w'.offsets ∧ t.inUse.layover = w'.layoverLeft)
      ∧ (s.view.accepted ≠ some s.straps.station → t.inUse = s.inUse)

/-- Set and clear masks (R145): on the cab node each flag named in the set mask is set and each named in the clear mask then
cleared, as one change, which moves the layover timer (R144) and the boost (R132, R133); on any other node the frame is refused.
A frame for another target is set aside (R174). It is said of a source in every state, with the accepted cab station as it
stands once the source is heard, and in full of a source that is ALIVE. The
model's own choices: the moment of the closing rewriting (log 6); the fall timers and their fields (log 27). -/
def Obligations.MasksChangeTheWord : Prop :=
  ∀ (s : State) (source : Station) (target set clear : Byte), s.Ready → source ≠ s.straps.station →
    source ≠ s.config.powerStation →
    let cmd : Instr := .controlOvrMasks source target set clear
    let heard := s.hearing source
    let alive := (s.entry source).state = .alive
    let refusal : Frame := .answer ⟨BitVec.ofNat 8 source.val, 2, 255, 255, []⟩
    (target.toNat ≠ s.straps.station.val → ∃ t, exec cmd s = .next t ∧ s.OnlyHears source t)
    ∧ (target.toNat = s.straps.station.val → s.word = none → ∃ t, exec cmd s = .next t ∧ s.Hears source t
      ∧ (t.entry source).state = .alive ∧ (t.entry source).lastHeard = some s.clock
      ∧ (∃ x ∈ t.link.list, x.frame = refusal) ∧ (alive → Closes { heard with link := queuedIn s s.link refusal } t))
    ∧ ∀ w, target.toNat = s.straps.station.val → s.word = some w →
      let f (k : Nat) (x : Bool) : Bool := (x || set.getLsbD k) && !clear.getLsbD k
      let flags : Flags :=
        ⟨f 0 w.flags.eco, f 1 w.flags.ventOnly, f 2 w.flags.recirc, f 3 w.flags.layover, f 4 w.flags.boost⟩
      let limit := s.config.cab.layover
      let w1 : OvrWord := { w with flags := flags }
      let w' : OvrWord :=
        if flags.layover = w.flags.layover then w1
        else if flags.layover then { w1 with
          layover := .running (timeAfter s.clock (limit * 60000)), layoverLeft := limit
          layoverFall := fallTimer (timeAfter s.clock (limit * 60000)) 60000 limit }
        else { w1 with layover := .stopped, layoverLeft := 0, layoverFall := .stopped }
      ∃ t, exec cmd s = .next t ∧ t.word = some w'
        ∧ (t.entry source).state = .alive ∧ (t.entry source).lastHeard = some s.clock
        ∧ (alive → t.view.accepted = s.view.accepted)
        ∧ (alive → s.view.accepted ≠ some s.straps.station → flags.boost = w.flags.boost →
            Closes { heard with word := some w' } t)
        ∧ (t.view.accepted ≠ some s.straps.station → s.TakesChoice t)
        ∧ (t.view.accepted = some s.straps.station → t.inUse.mode = .own ∧ t.inUse.flags = flags
            ∧ t.inUse.offsets = w.offsets ∧ t.inUse.layover = w'.layoverLeft)
        ∧ (∀ d, s.defrost = some d → flags.boost = true → w.flags.boost = false → ∃ d', t.defrost = some d'
            ∧ d'.state = .boost ∧ d'.boost = .running (timeAfter s.clock (s.config.cab.boost * 1000))
            ∧ d'.boostLeft = (s.config.cab.boost + 9) / 10 ∧ d'.clearCount = 0)
        ∧ (∀ d, s.defrost = some d → d.state = .boost → flags.boost = false → w.flags.boost = true →
            ∃ d', t.defrost = some d' ∧ d.LeavesBoost s.config.cab.margin d')

/-! ### Service -/

/-- SELECT, NEXT and PEEK (R170, R171): SELECT sets the cursor to a collection the node holds and refuses any other; NEXT and
PEEK answer the entry at the cursor, END past it and REFUSED with no cursor, and a NEXT that gave an entry moves on. A frame
for another target is only heard. It is said in full of a source that is ALIVE, and of its cursor and ANSWER of any other, the
first frame of a service tool among them. The model's own choices: the moment of the closing rewriting (log 6); the rounding of times
(log 11); the codes of named values (log 12). -/
def Obligations.ProbesReadAtTheCursor : Prop :=
  ∀ (s : State) (source : Station) (target collection index : Byte), s.Ready → source ≠ s.straps.station →
    source ≠ s.config.powerStation →
    let heard := s.hearing source
    let answered (outcome code i : Byte) (fields : List Byte) : Link :=
      queuedIn s s.link (.answer ⟨BitVec.ofNat 8 source.val, outcome, code, i, fields⟩)
    let named : Option Collection :=
      if collection = 0 then some .view else if collection = 1 then some .zones
      else if collection = 6 then some .stages else if collection = 7 then some .queue
      else if collection = 8 then some .doors else if collection = 9 then some .conditions
      else if h : 2 ≤ collection.toNat ∧ collection.toNat ≤ 5 then
        (if collection.toNat - 2 < s.zones.length then some (.drafts ⟨collection.toNat - 2, by omega⟩) else none)
      else none
    let select : Instr := .probeSelect source target collection index
    let next : Instr := .probeNext source target collection index
    let peek : Instr := .probePeek source target collection index
    let sent (t : State) (outcome code i : Byte) (fields : List Byte) : Prop := ∃ x ∈ t.link.list,
      x.frame = .answer ⟨BitVec.ofNat 8 source.val, outcome, code, i, fields⟩
    (target.toNat = s.straps.station.val →
      (∀ c, named = some c → ∃ t, exec select s = .next t ∧ t.cursor = ⟨some c, index.toNat⟩)
      ∧ (named = none → ∃ t, exec select s = .next t ∧ t.cursor = s.cursor ∧ sent t 2 collection index [])
      ∧ ∀ cmd, cmd = next ∨ cmd = peek → ∃ t, exec cmd s = .next t
        ∧ (s.cursor.collection = none → t.cursor = s.cursor ∧ sent t 2 255 255 [])
        ∧ ∀ c, s.cursor.collection = some c → let i := BitVec.ofNat 8 (min 255 s.cursor.index)
          ((∃ fields, sent t 0 c.code i fields)
            ∧ t.cursor = if cmd = next then { s.cursor with index := s.cursor.index + 1 } else s.cursor)
          ∨ (sent t 1 c.code i [] ∧ t.cursor = s.cursor))
    ∧ (target.toNat ≠ s.straps.station.val →
      (∃ t, exec select s = .next t ∧ s.OnlyHears source t) ∧ (∃ t, exec next s = .next t ∧ s.OnlyHears source t)
      ∧ ∃ t, exec peek s = .next t ∧ s.OnlyHears source t)
    ∧ ((s.entry source).state = .alive → target.toNat = s.straps.station.val →
      (∀ c, named = some c → ∃ t, exec select s = .next t ∧
        Closes { heard with cursor := ⟨some c, index.toNat⟩ } t)
      ∧ (named = none → ∃ t, exec select s = .next t ∧
        Closes { heard with link := answered 2 collection index [] } t)
      ∧ (s.cursor.collection = none →
        (∃ t, exec next s = .next t ∧
          Closes { heard with link := answered 2 255 255 [] } t)
        ∧ ∃ t, exec peek s = .next t ∧
          Closes { heard with link := answered 2 255 255 [] } t)
      ∧ ∀ c, s.cursor.collection = some c →
        let i := s.cursor.index
        let after : State := heard.modEntry s.straps.station (fun x => { x with draw := min 255 s.drawNow })
        (∀ fields, after.entryFields c i = some fields →
          (∃ t, exec next s = .next t ∧
            Closes { heard with
              cursor := ⟨some c, i + 1⟩, link := answered 0 c.code (BitVec.ofNat 8 (min 255 i)) fields } t)
          ∧ ∃ t, exec peek s = .next t ∧
            Closes { heard with link := answered 0 c.code (BitVec.ofNat 8 (min 255 i)) fields } t)
        ∧ (after.entryFields c i = none →
          (∃ t, exec next s = .next t ∧
            Closes { heard with link := answered 1 c.code (BitVec.ofNat 8 (min 255 i)) [] } t)
          ∧ ∃ t, exec peek s = .next t ∧
            Closes { heard with link := answered 1 c.code (BitVec.ofNat 8 (min 255 i)) [] } t))

/-- CLEAR drops the latch of every condition that is not current and answers the flags (R168); an operation that is none is
refused with collection and index 255 and changes no state (R170, R174). A frame for another target is set aside. It is said in full of a source that is ALIVE, and of
the flags and the ANSWER of any other. The model's own choices: the moment of the closing
rewriting (log 6); the codes of named values (log 12). -/
def Obligations.ClearAndBadOperationsAreAnswered : Prop :=
  ∀ (s : State) (source : Station) (target operation a b : Byte), s.Ready → source ≠ s.straps.station →
    source ≠ s.config.powerStation →
    let mine := target.toNat = s.straps.station.val
    let heard := s.hearing source
    let alive := (s.entry source).state = .alive
    let answer (outcome code : Byte) (fields : List Byte) : Frame :=
      .answer ⟨BitVec.ofNat 8 source.val, outcome, code, 255, fields⟩
    let sent (t : State) (f : Frame) : Prop := (∃ x ∈ t.link.list, x.frame = f)
      ∧ (t.entry source).state = .alive ∧ (t.entry source).lastHeard = some s.clock
    let kept := s.cond.latched &&& s.cond.current
    let refused (c : Instr) : Prop := ∃ t, exec c s = .next t ∧ sent t (answer 2 255 []) ∧ t.cursor = s.cursor
      ∧ (alive → Closes { heard with link := queuedIn s s.link (answer 2 255 []) } t)
    let aside (c : Instr) : Prop := ∃ t, exec c s = .next t ∧ s.OnlyHears source t
    (mine → ∃ t, exec (.probeClear source target a b) s = .next t ∧ t.cond.latched = t.cond.current &&& t.cond.latched
      ∧ sent t (answer 0 9 (halfBytes t.cond.current ++ halfBytes t.cond.latched))
      ∧ (alive → Closes { heard with
          cond := ⟨s.cond.current, kept⟩
          link := queuedIn s s.link (answer 0 9 (halfBytes s.cond.current ++ halfBytes kept)) } t))
    ∧ (mine → 3 < operation.toNat → refused (.probeBadOperation source target operation a b))
    ∧ (mine → 1 < operation.toNat → refused (.controlBadOperation source target operation a b))
    ∧ (¬ mine → aside (.probeClear source target a b)
      ∧ (3 < operation.toNat → aside (.probeBadOperation source target operation a b))
      ∧ (1 < operation.toNat → aside (.controlBadOperation source target operation a b)))

/-! ### Invariants that every step keeps -/

/-- The node after a power-on reset meets every invariant stated below. The model's own choices: what a power-on reset begins
with (log 1); the clock through a reset (log 2); a door before its first sample (log 8); the values while the node is held
(log 23). -/
def Obligations.ResetMeetsTheInvariants : Prop :=
  let s := State.reset
  s.IntentsBounded ∧ s.WithinRoom ∧ s.ActiveOnly ∧ s.BlowersProven ∧ s.QueueSound ∧ s.OwnEntryKept
    ∧ s.AllocationFollows ∧ s.ClaimsFollow ∧ s.CabFollows ∧ s.TargetFollows ∧ s.ConditionsFollow ∧ s.LatchesHold
    ∧ s.UnsampledClosed ∧ s.DraftsBounded ∧ s.ZonesInRange ∧ s.ListBounded ∧ s.SeqAlive ∧ s.attemptDue = false

/-- The usable intent of every class exceeds neither the announced intent nor the allocation, and the occupancy of the class
never exceeds the usable intent (R57, R73). -/
def Obligations.UsableIntentsBoundTheOccupancy : Prop :=
  ∀ s t : State, s.IntentsBounded → s.WithinRoom → step s = .next t → t.IntentsBounded ∧ t.WithinRoom

/-- A stage is ENERGIZED only while the sharing state is ACTIVE, and ENERGIZED or SUSPENDED only while its blower is RUNNING
(R54, R65). -/
def Obligations.StagesHeatOnlyWhereTheyMay : Prop :=
  ∀ s t : State, step s = .next t → (s.ActiveOnly → t.ActiveOnly) ∧ (s.BlowersProven → t.BlowersProven)
/-- The queue holds exactly the QUEUED stages of each class, each once (R47, R48). -/
def Obligations.QueueHoldsTheQueuedStages : Prop :=
  ∀ s t : State, s.QueueSound → step s = .next t → t.QueueSound

/-- The own entry stays ALIVE with the announced intents, and the own allocation is always the one that the budget, the surplus
and the counted claims give (R70 to R73, R95). -/
def Obligations.AllocationFollowsItsInputs : Prop :=
  ∀ s t : State, s.OwnEntryKept → s.AllocationFollows → step s = .next t → t.OwnEntryKept ∧ t.AllocationFollows

/-- The own claims are always those that the zones, the curtains, the defrost need, VENT_ONLY and ISOLATED give (R24). -/
def Obligations.ClaimsFollowTheirInputs : Prop :=
  ∀ s t : State, s.ClaimsFollow → step s = .next t → t.ClaimsFollow

/-- The accepted cab station is always the choice of R106, and the damper's target count the one of R159. -/
def Obligations.ChoicesFollowTheirInputs : Prop :=
  ∀ s t : State, step s = .next t → (s.CabFollows → t.CabFollows) ∧ (s.TargetFollows → t.TargetFollows)

/-- A condition is current exactly while its cause holds, and a current condition is latched (R8, R32, R64, R90, R96, R107,
R116, R118, R129, R137, R156, R158, R167). A door that no sample has set stays CLOSED. The model's own choices: a door before
its first sample (log 8). -/
def Obligations.ConditionsFollowTheirCauses : Prop :=
  ∀ s t : State, step s = .next t → (s.LatchesHold → t.LatchesHold) ∧ (s.UnsampledClosed → t.UnsampledClosed)
    ∧ (s.ConditionsFollow → s.UnsampledClosed → s.QueueSound → t.ConditionsFollow)

/-- A draft list holds at most 8 records, one for each door (R33), and the zones' figures stay in the ranges of R1: bad-scan run,
setpoint, integral, demand, and count and offer within N_avail (R13 to R22). -/
def Obligations.ZonesStayWithinTheirBounds : Prop :=
  ∀ s t : State, step s = .next t → (s.DraftsBounded → t.DraftsBounded) ∧ (s.ZonesInRange → t.ZonesInRange)
/-- The transmit list holds frames the node sends, one entry of each kind and at most 3 of kind DOOR (R120, R121); the sequence
generator never holds 0 (R126, R127); no admission attempt is owed between steps (R55; the model's own mark, log 5). -/
def Obligations.ListAndGeneratorStayBounded : Prop :=
  ∀ s t : State, step s = .next t → (s.ListBounded → t.ListBounded) ∧ (s.SeqAlive → t.SeqAlive)
    ∧ (s.attemptDue = false → t.attemptDue = false)
/-! ### Frames as bytes -/

/-- Every well-formed frame command has bytes, at most 28, and they decode to that command: header, payload, check and operation
(R113, R114, R170, R174), with every operand at every value its field holds. A command that is no frame has none. -/
def Obligations.FramesRoundTrip : Prop :=
  ∀ i : Instr, i.wellFormed = true →
    (∀ source f, frameOf i = some (source, f) →
      ∃ bytes, encodeCommand i = some bytes ∧ decodeCommand bytes = some i ∧ bytes.length ≤ 28)
    ∧ (frameOf i = none → encodeCommand i = none)
end

