-- ==== Sys2Proof/Laws/State.lean ====
section
/-! SUPPORT. What each basic update leaves and what it writes: one lemma per field per update, so that no later proof unfolds
a record update. -/

namespace Sys2Proof.Machine

variable (s : State)

/-! ### State.modZone -/

@[simp] theorem State.modZone_pending (z : Fin 4) (g : Zone → Zone) : (s.modZone z g).pending = s.pending := rfl
@[simp] theorem State.modZone_clock (z : Fin 4) (g : Zone → Zone) : (s.modZone z g).clock = s.clock := rfl
@[simp] theorem State.modZone_phase (z : Fin 4) (g : Zone → Zone) : (s.modZone z g).phase = s.phase := rfl
@[simp] theorem State.modZone_loadLimit (z : Fin 4) (g : Zone → Zone) : (s.modZone z g).loadLimit = s.loadLimit := rfl
@[simp] theorem State.modZone_straps (z : Fin 4) (g : Zone → Zone) : (s.modZone z g).straps = s.straps := rfl
@[simp] theorem State.modZone_config (z : Fin 4) (g : Zone → Zone) : (s.modZone z g).config = s.config := rfl
@[simp] theorem State.modZone_checksum (z : Fin 4) (g : Zone → Zone) : (s.modZone z g).checksum = s.checksum := rfl
@[simp] theorem State.modZone_seq (z : Fin 4) (g : Zone → Zone) : (s.modZone z g).seq = s.seq := rfl
@[simp] theorem State.modZone_scanTimer (z : Fin 4) (g : Zone → Zone) : (s.modZone z g).scanTimer = s.scanTimer := rfl
@[simp] theorem State.modZone_sampleTimer (z : Fin 4) (g : Zone → Zone) : (s.modZone z g).sampleTimer = s.sampleTimer := rfl
@[simp] theorem State.modZone_windowTimer (z : Fin 4) (g : Zone → Zone) : (s.modZone z g).windowTimer = s.windowTimer := rfl
@[simp] theorem State.modZone_zones (z : Fin 4) (g : Zone → Zone) : (s.modZone z g).zones = s.zones.modify z.val g := rfl
@[simp] theorem State.modZone_doors (z : Fin 4) (g : Zone → Zone) : (s.modZone z g).doors = s.doors := rfl
@[simp] theorem State.modZone_keys (z : Fin 4) (g : Zone → Zone) : (s.modZone z g).keys = s.keys := rfl
@[simp] theorem State.modZone_stages (z : Fin 4) (g : Zone → Zone) : (s.modZone z g).stages = s.stages := rfl
@[simp] theorem State.modZone_queue (z : Fin 4) (g : Zone → Zone) : (s.modZone z g).queue = s.queue := rfl
@[simp] theorem State.modZone_pacing (z : Fin 4) (g : Zone → Zone) : (s.modZone z g).pacing = s.pacing := rfl
@[simp] theorem State.modZone_attemptDue (z : Fin 4) (g : Zone → Zone) : (s.modZone z g).attemptDue = s.attemptDue := rfl
@[simp] theorem State.modZone_alloc (z : Fin 4) (g : Zone → Zone) : (s.modZone z g).alloc = s.alloc := rfl
@[simp] theorem State.modZone_view (z : Fin 4) (g : Zone → Zone) : (s.modZone z g).view = s.view := rfl
@[simp] theorem State.modZone_link (z : Fin 4) (g : Zone → Zone) : (s.modZone z g).link = s.link := rfl
@[simp] theorem State.modZone_defrost (z : Fin 4) (g : Zone → Zone) : (s.modZone z g).defrost = s.defrost := rfl
@[simp] theorem State.modZone_word (z : Fin 4) (g : Zone → Zone) : (s.modZone z g).word = s.word := rfl
@[simp] theorem State.modZone_inUse (z : Fin 4) (g : Zone → Zone) : (s.modZone z g).inUse = s.inUse := rfl
@[simp] theorem State.modZone_fans (z : Fin 4) (g : Zone → Zone) : (s.modZone z g).fans = s.fans := rfl
@[simp] theorem State.modZone_damper (z : Fin 4) (g : Zone → Zone) : (s.modZone z g).damper = s.damper := rfl
@[simp] theorem State.modZone_cond (z : Fin 4) (g : Zone → Zone) : (s.modZone z g).cond = s.cond := rfl
@[simp] theorem State.modZone_cursor (z : Fin 4) (g : Zone → Zone) : (s.modZone z g).cursor = s.cursor := rfl
@[simp] theorem State.modZone_outputs (z : Fin 4) (g : Zone → Zone) : (s.modZone z g).outputs = s.outputs := rfl

/-! ### State.modDoor -/

@[simp] theorem State.modDoor_pending (d : Fin 3) (g : Door → Door) : (s.modDoor d g).pending = s.pending := rfl
@[simp] theorem State.modDoor_clock (d : Fin 3) (g : Door → Door) : (s.modDoor d g).clock = s.clock := rfl
@[simp] theorem State.modDoor_phase (d : Fin 3) (g : Door → Door) : (s.modDoor d g).phase = s.phase := rfl
@[simp] theorem State.modDoor_loadLimit (d : Fin 3) (g : Door → Door) : (s.modDoor d g).loadLimit = s.loadLimit := rfl
@[simp] theorem State.modDoor_straps (d : Fin 3) (g : Door → Door) : (s.modDoor d g).straps = s.straps := rfl
@[simp] theorem State.modDoor_config (d : Fin 3) (g : Door → Door) : (s.modDoor d g).config = s.config := rfl
@[simp] theorem State.modDoor_checksum (d : Fin 3) (g : Door → Door) : (s.modDoor d g).checksum = s.checksum := rfl
@[simp] theorem State.modDoor_seq (d : Fin 3) (g : Door → Door) : (s.modDoor d g).seq = s.seq := rfl
@[simp] theorem State.modDoor_scanTimer (d : Fin 3) (g : Door → Door) : (s.modDoor d g).scanTimer = s.scanTimer := rfl
@[simp] theorem State.modDoor_sampleTimer (d : Fin 3) (g : Door → Door) : (s.modDoor d g).sampleTimer = s.sampleTimer := rfl
@[simp] theorem State.modDoor_windowTimer (d : Fin 3) (g : Door → Door) : (s.modDoor d g).windowTimer = s.windowTimer := rfl
@[simp] theorem State.modDoor_zones (d : Fin 3) (g : Door → Door) : (s.modDoor d g).zones = s.zones := rfl
@[simp] theorem State.modDoor_doors (d : Fin 3) (g : Door → Door) : (s.modDoor d g).doors = s.doors.modify d.val g := rfl
@[simp] theorem State.modDoor_keys (d : Fin 3) (g : Door → Door) : (s.modDoor d g).keys = s.keys := rfl
@[simp] theorem State.modDoor_stages (d : Fin 3) (g : Door → Door) : (s.modDoor d g).stages = s.stages := rfl
@[simp] theorem State.modDoor_queue (d : Fin 3) (g : Door → Door) : (s.modDoor d g).queue = s.queue := rfl
@[simp] theorem State.modDoor_pacing (d : Fin 3) (g : Door → Door) : (s.modDoor d g).pacing = s.pacing := rfl
@[simp] theorem State.modDoor_attemptDue (d : Fin 3) (g : Door → Door) : (s.modDoor d g).attemptDue = s.attemptDue := rfl
@[simp] theorem State.modDoor_alloc (d : Fin 3) (g : Door → Door) : (s.modDoor d g).alloc = s.alloc := rfl
@[simp] theorem State.modDoor_view (d : Fin 3) (g : Door → Door) : (s.modDoor d g).view = s.view := rfl
@[simp] theorem State.modDoor_link (d : Fin 3) (g : Door → Door) : (s.modDoor d g).link = s.link := rfl
@[simp] theorem State.modDoor_defrost (d : Fin 3) (g : Door → Door) : (s.modDoor d g).defrost = s.defrost := rfl
@[simp] theorem State.modDoor_word (d : Fin 3) (g : Door → Door) : (s.modDoor d g).word = s.word := rfl
@[simp] theorem State.modDoor_inUse (d : Fin 3) (g : Door → Door) : (s.modDoor d g).inUse = s.inUse := rfl
@[simp] theorem State.modDoor_fans (d : Fin 3) (g : Door → Door) : (s.modDoor d g).fans = s.fans := rfl
@[simp] theorem State.modDoor_damper (d : Fin 3) (g : Door → Door) : (s.modDoor d g).damper = s.damper := rfl
@[simp] theorem State.modDoor_cond (d : Fin 3) (g : Door → Door) : (s.modDoor d g).cond = s.cond := rfl
@[simp] theorem State.modDoor_cursor (d : Fin 3) (g : Door → Door) : (s.modDoor d g).cursor = s.cursor := rfl
@[simp] theorem State.modDoor_outputs (d : Fin 3) (g : Door → Door) : (s.modDoor d g).outputs = s.outputs := rfl

/-! ### State.modFan -/

@[simp] theorem State.modFan_pending (f : FanId) (g : Blower → Blower) : (s.modFan f g).pending = s.pending := rfl
@[simp] theorem State.modFan_clock (f : FanId) (g : Blower → Blower) : (s.modFan f g).clock = s.clock := rfl
@[simp] theorem State.modFan_phase (f : FanId) (g : Blower → Blower) : (s.modFan f g).phase = s.phase := rfl
@[simp] theorem State.modFan_loadLimit (f : FanId) (g : Blower → Blower) : (s.modFan f g).loadLimit = s.loadLimit := rfl
@[simp] theorem State.modFan_straps (f : FanId) (g : Blower → Blower) : (s.modFan f g).straps = s.straps := rfl
@[simp] theorem State.modFan_config (f : FanId) (g : Blower → Blower) : (s.modFan f g).config = s.config := rfl
@[simp] theorem State.modFan_checksum (f : FanId) (g : Blower → Blower) : (s.modFan f g).checksum = s.checksum := rfl
@[simp] theorem State.modFan_seq (f : FanId) (g : Blower → Blower) : (s.modFan f g).seq = s.seq := rfl
@[simp] theorem State.modFan_scanTimer (f : FanId) (g : Blower → Blower) : (s.modFan f g).scanTimer = s.scanTimer := rfl
@[simp] theorem State.modFan_sampleTimer (f : FanId) (g : Blower → Blower) : (s.modFan f g).sampleTimer = s.sampleTimer := rfl
@[simp] theorem State.modFan_windowTimer (f : FanId) (g : Blower → Blower) : (s.modFan f g).windowTimer = s.windowTimer := rfl
@[simp] theorem State.modFan_zones (f : FanId) (g : Blower → Blower) : (s.modFan f g).zones = s.zones := rfl
@[simp] theorem State.modFan_doors (f : FanId) (g : Blower → Blower) : (s.modFan f g).doors = s.doors := rfl
@[simp] theorem State.modFan_keys (f : FanId) (g : Blower → Blower) : (s.modFan f g).keys = s.keys := rfl
@[simp] theorem State.modFan_stages (f : FanId) (g : Blower → Blower) : (s.modFan f g).stages = s.stages := rfl
@[simp] theorem State.modFan_queue (f : FanId) (g : Blower → Blower) : (s.modFan f g).queue = s.queue := rfl
@[simp] theorem State.modFan_pacing (f : FanId) (g : Blower → Blower) : (s.modFan f g).pacing = s.pacing := rfl
@[simp] theorem State.modFan_attemptDue (f : FanId) (g : Blower → Blower) : (s.modFan f g).attemptDue = s.attemptDue := rfl
@[simp] theorem State.modFan_alloc (f : FanId) (g : Blower → Blower) : (s.modFan f g).alloc = s.alloc := rfl
@[simp] theorem State.modFan_view (f : FanId) (g : Blower → Blower) : (s.modFan f g).view = s.view := rfl
@[simp] theorem State.modFan_link (f : FanId) (g : Blower → Blower) : (s.modFan f g).link = s.link := rfl
@[simp] theorem State.modFan_defrost (f : FanId) (g : Blower → Blower) : (s.modFan f g).defrost = s.defrost := rfl
@[simp] theorem State.modFan_word (f : FanId) (g : Blower → Blower) : (s.modFan f g).word = s.word := rfl
@[simp] theorem State.modFan_inUse (f : FanId) (g : Blower → Blower) : (s.modFan f g).inUse = s.inUse := rfl
@[simp] theorem State.modFan_fans (f : FanId) (g : Blower → Blower) : (s.modFan f g).fans = s.fans.map (fun b => if b.fan = f then g b else b) := rfl
@[simp] theorem State.modFan_damper (f : FanId) (g : Blower → Blower) : (s.modFan f g).damper = s.damper := rfl
@[simp] theorem State.modFan_cond (f : FanId) (g : Blower → Blower) : (s.modFan f g).cond = s.cond := rfl
@[simp] theorem State.modFan_cursor (f : FanId) (g : Blower → Blower) : (s.modFan f g).cursor = s.cursor := rfl
@[simp] theorem State.modFan_outputs (f : FanId) (g : Blower → Blower) : (s.modFan f g).outputs = s.outputs := rfl

/-! ### State.modDefrost -/

@[simp] theorem State.modDefrost_pending (g : Defrost → Defrost) : (s.modDefrost g).pending = s.pending := rfl
@[simp] theorem State.modDefrost_clock (g : Defrost → Defrost) : (s.modDefrost g).clock = s.clock := rfl
@[simp] theorem State.modDefrost_phase (g : Defrost → Defrost) : (s.modDefrost g).phase = s.phase := rfl
@[simp] theorem State.modDefrost_loadLimit (g : Defrost → Defrost) : (s.modDefrost g).loadLimit = s.loadLimit := rfl
@[simp] theorem State.modDefrost_straps (g : Defrost → Defrost) : (s.modDefrost g).straps = s.straps := rfl
@[simp] theorem State.modDefrost_config (g : Defrost → Defrost) : (s.modDefrost g).config = s.config := rfl
@[simp] theorem State.modDefrost_checksum (g : Defrost → Defrost) : (s.modDefrost g).checksum = s.checksum := rfl
@[simp] theorem State.modDefrost_seq (g : Defrost → Defrost) : (s.modDefrost g).seq = s.seq := rfl
@[simp] theorem State.modDefrost_scanTimer (g : Defrost → Defrost) : (s.modDefrost g).scanTimer = s.scanTimer := rfl
@[simp] theorem State.modDefrost_sampleTimer (g : Defrost → Defrost) : (s.modDefrost g).sampleTimer = s.sampleTimer := rfl
@[simp] theorem State.modDefrost_windowTimer (g : Defrost → Defrost) : (s.modDefrost g).windowTimer = s.windowTimer := rfl
@[simp] theorem State.modDefrost_zones (g : Defrost → Defrost) : (s.modDefrost g).zones = s.zones := rfl
@[simp] theorem State.modDefrost_doors (g : Defrost → Defrost) : (s.modDefrost g).doors = s.doors := rfl
@[simp] theorem State.modDefrost_keys (g : Defrost → Defrost) : (s.modDefrost g).keys = s.keys := rfl
@[simp] theorem State.modDefrost_stages (g : Defrost → Defrost) : (s.modDefrost g).stages = s.stages := rfl
@[simp] theorem State.modDefrost_queue (g : Defrost → Defrost) : (s.modDefrost g).queue = s.queue := rfl
@[simp] theorem State.modDefrost_pacing (g : Defrost → Defrost) : (s.modDefrost g).pacing = s.pacing := rfl
@[simp] theorem State.modDefrost_attemptDue (g : Defrost → Defrost) : (s.modDefrost g).attemptDue = s.attemptDue := rfl
@[simp] theorem State.modDefrost_alloc (g : Defrost → Defrost) : (s.modDefrost g).alloc = s.alloc := rfl
@[simp] theorem State.modDefrost_view (g : Defrost → Defrost) : (s.modDefrost g).view = s.view := rfl
@[simp] theorem State.modDefrost_link (g : Defrost → Defrost) : (s.modDefrost g).link = s.link := rfl
@[simp] theorem State.modDefrost_defrost (g : Defrost → Defrost) : (s.modDefrost g).defrost = s.defrost.map g := rfl
@[simp] theorem State.modDefrost_word (g : Defrost → Defrost) : (s.modDefrost g).word = s.word := rfl
@[simp] theorem State.modDefrost_inUse (g : Defrost → Defrost) : (s.modDefrost g).inUse = s.inUse := rfl
@[simp] theorem State.modDefrost_fans (g : Defrost → Defrost) : (s.modDefrost g).fans = s.fans := rfl
@[simp] theorem State.modDefrost_damper (g : Defrost → Defrost) : (s.modDefrost g).damper = s.damper := rfl
@[simp] theorem State.modDefrost_cond (g : Defrost → Defrost) : (s.modDefrost g).cond = s.cond := rfl
@[simp] theorem State.modDefrost_cursor (g : Defrost → Defrost) : (s.modDefrost g).cursor = s.cursor := rfl
@[simp] theorem State.modDefrost_outputs (g : Defrost → Defrost) : (s.modDefrost g).outputs = s.outputs := rfl

/-! ### State.modWord -/

@[simp] theorem State.modWord_pending (g : OvrWord → OvrWord) : (s.modWord g).pending = s.pending := rfl
@[simp] theorem State.modWord_clock (g : OvrWord → OvrWord) : (s.modWord g).clock = s.clock := rfl
@[simp] theorem State.modWord_phase (g : OvrWord → OvrWord) : (s.modWord g).phase = s.phase := rfl
@[simp] theorem State.modWord_loadLimit (g : OvrWord → OvrWord) : (s.modWord g).loadLimit = s.loadLimit := rfl
@[simp] theorem State.modWord_straps (g : OvrWord → OvrWord) : (s.modWord g).straps = s.straps := rfl
@[simp] theorem State.modWord_config (g : OvrWord → OvrWord) : (s.modWord g).config = s.config := rfl
@[simp] theorem State.modWord_checksum (g : OvrWord → OvrWord) : (s.modWord g).checksum = s.checksum := rfl
@[simp] theorem State.modWord_seq (g : OvrWord → OvrWord) : (s.modWord g).seq = s.seq := rfl
@[simp] theorem State.modWord_scanTimer (g : OvrWord → OvrWord) : (s.modWord g).scanTimer = s.scanTimer := rfl
@[simp] theorem State.modWord_sampleTimer (g : OvrWord → OvrWord) : (s.modWord g).sampleTimer = s.sampleTimer := rfl
@[simp] theorem State.modWord_windowTimer (g : OvrWord → OvrWord) : (s.modWord g).windowTimer = s.windowTimer := rfl
@[simp] theorem State.modWord_zones (g : OvrWord → OvrWord) : (s.modWord g).zones = s.zones := rfl
@[simp] theorem State.modWord_doors (g : OvrWord → OvrWord) : (s.modWord g).doors = s.doors := rfl
@[simp] theorem State.modWord_keys (g : OvrWord → OvrWord) : (s.modWord g).keys = s.keys := rfl
@[simp] theorem State.modWord_stages (g : OvrWord → OvrWord) : (s.modWord g).stages = s.stages := rfl
@[simp] theorem State.modWord_queue (g : OvrWord → OvrWord) : (s.modWord g).queue = s.queue := rfl
@[simp] theorem State.modWord_pacing (g : OvrWord → OvrWord) : (s.modWord g).pacing = s.pacing := rfl
@[simp] theorem State.modWord_attemptDue (g : OvrWord → OvrWord) : (s.modWord g).attemptDue = s.attemptDue := rfl
@[simp] theorem State.modWord_alloc (g : OvrWord → OvrWord) : (s.modWord g).alloc = s.alloc := rfl
@[simp] theorem State.modWord_view (g : OvrWord → OvrWord) : (s.modWord g).view = s.view := rfl
@[simp] theorem State.modWord_link (g : OvrWord → OvrWord) : (s.modWord g).link = s.link := rfl
@[simp] theorem State.modWord_defrost (g : OvrWord → OvrWord) : (s.modWord g).defrost = s.defrost := rfl
@[simp] theorem State.modWord_word (g : OvrWord → OvrWord) : (s.modWord g).word = s.word.map g := rfl
@[simp] theorem State.modWord_inUse (g : OvrWord → OvrWord) : (s.modWord g).inUse = s.inUse := rfl
@[simp] theorem State.modWord_fans (g : OvrWord → OvrWord) : (s.modWord g).fans = s.fans := rfl
@[simp] theorem State.modWord_damper (g : OvrWord → OvrWord) : (s.modWord g).damper = s.damper := rfl
@[simp] theorem State.modWord_cond (g : OvrWord → OvrWord) : (s.modWord g).cond = s.cond := rfl
@[simp] theorem State.modWord_cursor (g : OvrWord → OvrWord) : (s.modWord g).cursor = s.cursor := rfl
@[simp] theorem State.modWord_outputs (g : OvrWord → OvrWord) : (s.modWord g).outputs = s.outputs := rfl

/-! ### State.modEntry -/

@[simp] theorem State.modEntry_pending (i : Station) (g : Entry → Entry) : (s.modEntry i g).pending = s.pending := rfl
@[simp] theorem State.modEntry_clock (i : Station) (g : Entry → Entry) : (s.modEntry i g).clock = s.clock := rfl
@[simp] theorem State.modEntry_phase (i : Station) (g : Entry → Entry) : (s.modEntry i g).phase = s.phase := rfl
@[simp] theorem State.modEntry_loadLimit (i : Station) (g : Entry → Entry) : (s.modEntry i g).loadLimit = s.loadLimit := rfl
@[simp] theorem State.modEntry_straps (i : Station) (g : Entry → Entry) : (s.modEntry i g).straps = s.straps := rfl
@[simp] theorem State.modEntry_config (i : Station) (g : Entry → Entry) : (s.modEntry i g).config = s.config := rfl
@[simp] theorem State.modEntry_checksum (i : Station) (g : Entry → Entry) : (s.modEntry i g).checksum = s.checksum := rfl
@[simp] theorem State.modEntry_seq (i : Station) (g : Entry → Entry) : (s.modEntry i g).seq = s.seq := rfl
@[simp] theorem State.modEntry_scanTimer (i : Station) (g : Entry → Entry) : (s.modEntry i g).scanTimer = s.scanTimer := rfl
@[simp] theorem State.modEntry_sampleTimer (i : Station) (g : Entry → Entry) : (s.modEntry i g).sampleTimer = s.sampleTimer := rfl
@[simp] theorem State.modEntry_windowTimer (i : Station) (g : Entry → Entry) : (s.modEntry i g).windowTimer = s.windowTimer := rfl
@[simp] theorem State.modEntry_zones (i : Station) (g : Entry → Entry) : (s.modEntry i g).zones = s.zones := rfl
@[simp] theorem State.modEntry_doors (i : Station) (g : Entry → Entry) : (s.modEntry i g).doors = s.doors := rfl
@[simp] theorem State.modEntry_keys (i : Station) (g : Entry → Entry) : (s.modEntry i g).keys = s.keys := rfl
@[simp] theorem State.modEntry_stages (i : Station) (g : Entry → Entry) : (s.modEntry i g).stages = s.stages := rfl
@[simp] theorem State.modEntry_queue (i : Station) (g : Entry → Entry) : (s.modEntry i g).queue = s.queue := rfl
@[simp] theorem State.modEntry_pacing (i : Station) (g : Entry → Entry) : (s.modEntry i g).pacing = s.pacing := rfl
@[simp] theorem State.modEntry_attemptDue (i : Station) (g : Entry → Entry) : (s.modEntry i g).attemptDue = s.attemptDue := rfl
@[simp] theorem State.modEntry_alloc (i : Station) (g : Entry → Entry) : (s.modEntry i g).alloc = s.alloc := rfl
@[simp] theorem State.modEntry_link (i : Station) (g : Entry → Entry) : (s.modEntry i g).link = s.link := rfl
@[simp] theorem State.modEntry_defrost (i : Station) (g : Entry → Entry) : (s.modEntry i g).defrost = s.defrost := rfl
@[simp] theorem State.modEntry_word (i : Station) (g : Entry → Entry) : (s.modEntry i g).word = s.word := rfl
@[simp] theorem State.modEntry_inUse (i : Station) (g : Entry → Entry) : (s.modEntry i g).inUse = s.inUse := rfl
@[simp] theorem State.modEntry_fans (i : Station) (g : Entry → Entry) : (s.modEntry i g).fans = s.fans := rfl
@[simp] theorem State.modEntry_damper (i : Station) (g : Entry → Entry) : (s.modEntry i g).damper = s.damper := rfl
@[simp] theorem State.modEntry_cond (i : Station) (g : Entry → Entry) : (s.modEntry i g).cond = s.cond := rfl
@[simp] theorem State.modEntry_cursor (i : Station) (g : Entry → Entry) : (s.modEntry i g).cursor = s.cursor := rfl
@[simp] theorem State.modEntry_outputs (i : Station) (g : Entry → Entry) : (s.modEntry i g).outputs = s.outputs := rfl

/-! ### State.modAlloc -/

@[simp] theorem State.modAlloc_pending (g : Alloc → Alloc) : (s.modAlloc g).pending = s.pending := rfl
@[simp] theorem State.modAlloc_clock (g : Alloc → Alloc) : (s.modAlloc g).clock = s.clock := rfl
@[simp] theorem State.modAlloc_phase (g : Alloc → Alloc) : (s.modAlloc g).phase = s.phase := rfl
@[simp] theorem State.modAlloc_loadLimit (g : Alloc → Alloc) : (s.modAlloc g).loadLimit = s.loadLimit := rfl
@[simp] theorem State.modAlloc_straps (g : Alloc → Alloc) : (s.modAlloc g).straps = s.straps := rfl
@[simp] theorem State.modAlloc_config (g : Alloc → Alloc) : (s.modAlloc g).config = s.config := rfl
@[simp] theorem State.modAlloc_checksum (g : Alloc → Alloc) : (s.modAlloc g).checksum = s.checksum := rfl
@[simp] theorem State.modAlloc_seq (g : Alloc → Alloc) : (s.modAlloc g).seq = s.seq := rfl
@[simp] theorem State.modAlloc_scanTimer (g : Alloc → Alloc) : (s.modAlloc g).scanTimer = s.scanTimer := rfl
@[simp] theorem State.modAlloc_sampleTimer (g : Alloc → Alloc) : (s.modAlloc g).sampleTimer = s.sampleTimer := rfl
@[simp] theorem State.modAlloc_windowTimer (g : Alloc → Alloc) : (s.modAlloc g).windowTimer = s.windowTimer := rfl
@[simp] theorem State.modAlloc_zones (g : Alloc → Alloc) : (s.modAlloc g).zones = s.zones := rfl
@[simp] theorem State.modAlloc_doors (g : Alloc → Alloc) : (s.modAlloc g).doors = s.doors := rfl
@[simp] theorem State.modAlloc_keys (g : Alloc → Alloc) : (s.modAlloc g).keys = s.keys := rfl
@[simp] theorem State.modAlloc_stages (g : Alloc → Alloc) : (s.modAlloc g).stages = s.stages := rfl
@[simp] theorem State.modAlloc_queue (g : Alloc → Alloc) : (s.modAlloc g).queue = s.queue := rfl
@[simp] theorem State.modAlloc_pacing (g : Alloc → Alloc) : (s.modAlloc g).pacing = s.pacing := rfl
@[simp] theorem State.modAlloc_attemptDue (g : Alloc → Alloc) : (s.modAlloc g).attemptDue = s.attemptDue := rfl
@[simp] theorem State.modAlloc_alloc (g : Alloc → Alloc) : (s.modAlloc g).alloc = g s.alloc := rfl
@[simp] theorem State.modAlloc_view (g : Alloc → Alloc) : (s.modAlloc g).view = s.view := rfl
@[simp] theorem State.modAlloc_link (g : Alloc → Alloc) : (s.modAlloc g).link = s.link := rfl
@[simp] theorem State.modAlloc_defrost (g : Alloc → Alloc) : (s.modAlloc g).defrost = s.defrost := rfl
@[simp] theorem State.modAlloc_word (g : Alloc → Alloc) : (s.modAlloc g).word = s.word := rfl
@[simp] theorem State.modAlloc_inUse (g : Alloc → Alloc) : (s.modAlloc g).inUse = s.inUse := rfl
@[simp] theorem State.modAlloc_fans (g : Alloc → Alloc) : (s.modAlloc g).fans = s.fans := rfl
@[simp] theorem State.modAlloc_damper (g : Alloc → Alloc) : (s.modAlloc g).damper = s.damper := rfl
@[simp] theorem State.modAlloc_cond (g : Alloc → Alloc) : (s.modAlloc g).cond = s.cond := rfl
@[simp] theorem State.modAlloc_cursor (g : Alloc → Alloc) : (s.modAlloc g).cursor = s.cursor := rfl
@[simp] theorem State.modAlloc_outputs (g : Alloc → Alloc) : (s.modAlloc g).outputs = s.outputs := rfl

/-! ### State.modDamper -/

@[simp] theorem State.modDamper_pending (g : Damper → Damper) : (s.modDamper g).pending = s.pending := rfl
@[simp] theorem State.modDamper_clock (g : Damper → Damper) : (s.modDamper g).clock = s.clock := rfl
@[simp] theorem State.modDamper_phase (g : Damper → Damper) : (s.modDamper g).phase = s.phase := rfl
@[simp] theorem State.modDamper_loadLimit (g : Damper → Damper) : (s.modDamper g).loadLimit = s.loadLimit := rfl
@[simp] theorem State.modDamper_straps (g : Damper → Damper) : (s.modDamper g).straps = s.straps := rfl
@[simp] theorem State.modDamper_config (g : Damper → Damper) : (s.modDamper g).config = s.config := rfl
@[simp] theorem State.modDamper_checksum (g : Damper → Damper) : (s.modDamper g).checksum = s.checksum := rfl
@[simp] theorem State.modDamper_seq (g : Damper → Damper) : (s.modDamper g).seq = s.seq := rfl
@[simp] theorem State.modDamper_scanTimer (g : Damper → Damper) : (s.modDamper g).scanTimer = s.scanTimer := rfl
@[simp] theorem State.modDamper_sampleTimer (g : Damper → Damper) : (s.modDamper g).sampleTimer = s.sampleTimer := rfl
@[simp] theorem State.modDamper_windowTimer (g : Damper → Damper) : (s.modDamper g).windowTimer = s.windowTimer := rfl
@[simp] theorem State.modDamper_zones (g : Damper → Damper) : (s.modDamper g).zones = s.zones := rfl
@[simp] theorem State.modDamper_doors (g : Damper → Damper) : (s.modDamper g).doors = s.doors := rfl
@[simp] theorem State.modDamper_keys (g : Damper → Damper) : (s.modDamper g).keys = s.keys := rfl
@[simp] theorem State.modDamper_stages (g : Damper → Damper) : (s.modDamper g).stages = s.stages := rfl
@[simp] theorem State.modDamper_queue (g : Damper → Damper) : (s.modDamper g).queue = s.queue := rfl
@[simp] theorem State.modDamper_pacing (g : Damper → Damper) : (s.modDamper g).pacing = s.pacing := rfl
@[simp] theorem State.modDamper_attemptDue (g : Damper → Damper) : (s.modDamper g).attemptDue = s.attemptDue := rfl
@[simp] theorem State.modDamper_alloc (g : Damper → Damper) : (s.modDamper g).alloc = s.alloc := rfl
@[simp] theorem State.modDamper_view (g : Damper → Damper) : (s.modDamper g).view = s.view := rfl
@[simp] theorem State.modDamper_link (g : Damper → Damper) : (s.modDamper g).link = s.link := rfl
@[simp] theorem State.modDamper_defrost (g : Damper → Damper) : (s.modDamper g).defrost = s.defrost := rfl
@[simp] theorem State.modDamper_word (g : Damper → Damper) : (s.modDamper g).word = s.word := rfl
@[simp] theorem State.modDamper_inUse (g : Damper → Damper) : (s.modDamper g).inUse = s.inUse := rfl
@[simp] theorem State.modDamper_fans (g : Damper → Damper) : (s.modDamper g).fans = s.fans := rfl
@[simp] theorem State.modDamper_damper (g : Damper → Damper) : (s.modDamper g).damper = g s.damper := rfl
@[simp] theorem State.modDamper_cond (g : Damper → Damper) : (s.modDamper g).cond = s.cond := rfl
@[simp] theorem State.modDamper_cursor (g : Damper → Damper) : (s.modDamper g).cursor = s.cursor := rfl
@[simp] theorem State.modDamper_outputs (g : Damper → Damper) : (s.modDamper g).outputs = s.outputs := rfl

/-! ### State.modLink -/

@[simp] theorem State.modLink_pending (g : Link → Link) : (s.modLink g).pending = s.pending := rfl
@[simp] theorem State.modLink_clock (g : Link → Link) : (s.modLink g).clock = s.clock := rfl
@[simp] theorem State.modLink_phase (g : Link → Link) : (s.modLink g).phase = s.phase := rfl
@[simp] theorem State.modLink_loadLimit (g : Link → Link) : (s.modLink g).loadLimit = s.loadLimit := rfl
@[simp] theorem State.modLink_straps (g : Link → Link) : (s.modLink g).straps = s.straps := rfl
@[simp] theorem State.modLink_config (g : Link → Link) : (s.modLink g).config = s.config := rfl
@[simp] theorem State.modLink_checksum (g : Link → Link) : (s.modLink g).checksum = s.checksum := rfl
@[simp] theorem State.modLink_seq (g : Link → Link) : (s.modLink g).seq = s.seq := rfl
@[simp] theorem State.modLink_scanTimer (g : Link → Link) : (s.modLink g).scanTimer = s.scanTimer := rfl
@[simp] theorem State.modLink_sampleTimer (g : Link → Link) : (s.modLink g).sampleTimer = s.sampleTimer := rfl
@[simp] theorem State.modLink_windowTimer (g : Link → Link) : (s.modLink g).windowTimer = s.windowTimer := rfl
@[simp] theorem State.modLink_zones (g : Link → Link) : (s.modLink g).zones = s.zones := rfl
@[simp] theorem State.modLink_doors (g : Link → Link) : (s.modLink g).doors = s.doors := rfl
@[simp] theorem State.modLink_keys (g : Link → Link) : (s.modLink g).keys = s.keys := rfl
@[simp] theorem State.modLink_stages (g : Link → Link) : (s.modLink g).stages = s.stages := rfl
@[simp] theorem State.modLink_queue (g : Link → Link) : (s.modLink g).queue = s.queue := rfl
@[simp] theorem State.modLink_pacing (g : Link → Link) : (s.modLink g).pacing = s.pacing := rfl
@[simp] theorem State.modLink_attemptDue (g : Link → Link) : (s.modLink g).attemptDue = s.attemptDue := rfl
@[simp] theorem State.modLink_alloc (g : Link → Link) : (s.modLink g).alloc = s.alloc := rfl
@[simp] theorem State.modLink_view (g : Link → Link) : (s.modLink g).view = s.view := rfl
@[simp] theorem State.modLink_link (g : Link → Link) : (s.modLink g).link = g s.link := rfl
@[simp] theorem State.modLink_defrost (g : Link → Link) : (s.modLink g).defrost = s.defrost := rfl
@[simp] theorem State.modLink_word (g : Link → Link) : (s.modLink g).word = s.word := rfl
@[simp] theorem State.modLink_inUse (g : Link → Link) : (s.modLink g).inUse = s.inUse := rfl
@[simp] theorem State.modLink_fans (g : Link → Link) : (s.modLink g).fans = s.fans := rfl
@[simp] theorem State.modLink_damper (g : Link → Link) : (s.modLink g).damper = s.damper := rfl
@[simp] theorem State.modLink_cond (g : Link → Link) : (s.modLink g).cond = s.cond := rfl
@[simp] theorem State.modLink_cursor (g : Link → Link) : (s.modLink g).cursor = s.cursor := rfl
@[simp] theorem State.modLink_outputs (g : Link → Link) : (s.modLink g).outputs = s.outputs := rfl

/-! ### State.modView -/

@[simp] theorem State.modView_pending (g : View → View) : (s.modView g).pending = s.pending := rfl
@[simp] theorem State.modView_clock (g : View → View) : (s.modView g).clock = s.clock := rfl
@[simp] theorem State.modView_phase (g : View → View) : (s.modView g).phase = s.phase := rfl
@[simp] theorem State.modView_loadLimit (g : View → View) : (s.modView g).loadLimit = s.loadLimit := rfl
@[simp] theorem State.modView_straps (g : View → View) : (s.modView g).straps = s.straps := rfl
@[simp] theorem State.modView_config (g : View → View) : (s.modView g).config = s.config := rfl
@[simp] theorem State.modView_checksum (g : View → View) : (s.modView g).checksum = s.checksum := rfl
@[simp] theorem State.modView_seq (g : View → View) : (s.modView g).seq = s.seq := rfl
@[simp] theorem State.modView_scanTimer (g : View → View) : (s.modView g).scanTimer = s.scanTimer := rfl
@[simp] theorem State.modView_sampleTimer (g : View → View) : (s.modView g).sampleTimer = s.sampleTimer := rfl
@[simp] theorem State.modView_windowTimer (g : View → View) : (s.modView g).windowTimer = s.windowTimer := rfl
@[simp] theorem State.modView_zones (g : View → View) : (s.modView g).zones = s.zones := rfl
@[simp] theorem State.modView_doors (g : View → View) : (s.modView g).doors = s.doors := rfl
@[simp] theorem State.modView_keys (g : View → View) : (s.modView g).keys = s.keys := rfl
@[simp] theorem State.modView_stages (g : View → View) : (s.modView g).stages = s.stages := rfl
@[simp] theorem State.modView_queue (g : View → View) : (s.modView g).queue = s.queue := rfl
@[simp] theorem State.modView_pacing (g : View → View) : (s.modView g).pacing = s.pacing := rfl
@[simp] theorem State.modView_attemptDue (g : View → View) : (s.modView g).attemptDue = s.attemptDue := rfl
@[simp] theorem State.modView_alloc (g : View → View) : (s.modView g).alloc = s.alloc := rfl
@[simp] theorem State.modView_view (g : View → View) : (s.modView g).view = g s.view := rfl
@[simp] theorem State.modView_link (g : View → View) : (s.modView g).link = s.link := rfl
@[simp] theorem State.modView_defrost (g : View → View) : (s.modView g).defrost = s.defrost := rfl
@[simp] theorem State.modView_word (g : View → View) : (s.modView g).word = s.word := rfl
@[simp] theorem State.modView_inUse (g : View → View) : (s.modView g).inUse = s.inUse := rfl
@[simp] theorem State.modView_fans (g : View → View) : (s.modView g).fans = s.fans := rfl
@[simp] theorem State.modView_damper (g : View → View) : (s.modView g).damper = s.damper := rfl
@[simp] theorem State.modView_cond (g : View → View) : (s.modView g).cond = s.cond := rfl
@[simp] theorem State.modView_cursor (g : View → View) : (s.modView g).cursor = s.cursor := rfl
@[simp] theorem State.modView_outputs (g : View → View) : (s.modView g).outputs = s.outputs := rfl

/-! ### State.withList -/

@[simp] theorem State.withList_pending (l : List TxEntry) : (s.withList l).pending = s.pending := rfl
@[simp] theorem State.withList_clock (l : List TxEntry) : (s.withList l).clock = s.clock := rfl
@[simp] theorem State.withList_phase (l : List TxEntry) : (s.withList l).phase = s.phase := rfl
@[simp] theorem State.withList_loadLimit (l : List TxEntry) : (s.withList l).loadLimit = s.loadLimit := rfl
@[simp] theorem State.withList_straps (l : List TxEntry) : (s.withList l).straps = s.straps := rfl
@[simp] theorem State.withList_config (l : List TxEntry) : (s.withList l).config = s.config := rfl
@[simp] theorem State.withList_checksum (l : List TxEntry) : (s.withList l).checksum = s.checksum := rfl
@[simp] theorem State.withList_seq (l : List TxEntry) : (s.withList l).seq = s.seq := rfl
@[simp] theorem State.withList_scanTimer (l : List TxEntry) : (s.withList l).scanTimer = s.scanTimer := rfl
@[simp] theorem State.withList_sampleTimer (l : List TxEntry) : (s.withList l).sampleTimer = s.sampleTimer := rfl
@[simp] theorem State.withList_windowTimer (l : List TxEntry) : (s.withList l).windowTimer = s.windowTimer := rfl
@[simp] theorem State.withList_zones (l : List TxEntry) : (s.withList l).zones = s.zones := rfl
@[simp] theorem State.withList_doors (l : List TxEntry) : (s.withList l).doors = s.doors := rfl
@[simp] theorem State.withList_keys (l : List TxEntry) : (s.withList l).keys = s.keys := rfl
@[simp] theorem State.withList_stages (l : List TxEntry) : (s.withList l).stages = s.stages := rfl
@[simp] theorem State.withList_queue (l : List TxEntry) : (s.withList l).queue = s.queue := rfl
@[simp] theorem State.withList_pacing (l : List TxEntry) : (s.withList l).pacing = s.pacing := rfl
@[simp] theorem State.withList_attemptDue (l : List TxEntry) : (s.withList l).attemptDue = s.attemptDue := rfl
@[simp] theorem State.withList_alloc (l : List TxEntry) : (s.withList l).alloc = s.alloc := rfl
@[simp] theorem State.withList_view (l : List TxEntry) : (s.withList l).view = s.view := rfl
@[simp] theorem State.withList_link (l : List TxEntry) : (s.withList l).link = { s.link with list := l } := rfl
@[simp] theorem State.withList_defrost (l : List TxEntry) : (s.withList l).defrost = s.defrost := rfl
@[simp] theorem State.withList_word (l : List TxEntry) : (s.withList l).word = s.word := rfl
@[simp] theorem State.withList_inUse (l : List TxEntry) : (s.withList l).inUse = s.inUse := rfl
@[simp] theorem State.withList_fans (l : List TxEntry) : (s.withList l).fans = s.fans := rfl
@[simp] theorem State.withList_damper (l : List TxEntry) : (s.withList l).damper = s.damper := rfl
@[simp] theorem State.withList_cond (l : List TxEntry) : (s.withList l).cond = s.cond := rfl
@[simp] theorem State.withList_cursor (l : List TxEntry) : (s.withList l).cursor = s.cursor := rfl
@[simp] theorem State.withList_outputs (l : List TxEntry) : (s.withList l).outputs = s.outputs := rfl

/-! ### State.mapDrafts -/

@[simp] theorem State.mapDrafts_pending (g : Nat → List Draft → List Draft) : (s.mapDrafts g).pending = s.pending := rfl
@[simp] theorem State.mapDrafts_clock (g : Nat → List Draft → List Draft) : (s.mapDrafts g).clock = s.clock := rfl
@[simp] theorem State.mapDrafts_phase (g : Nat → List Draft → List Draft) : (s.mapDrafts g).phase = s.phase := rfl
@[simp] theorem State.mapDrafts_loadLimit (g : Nat → List Draft → List Draft) : (s.mapDrafts g).loadLimit = s.loadLimit := rfl
@[simp] theorem State.mapDrafts_straps (g : Nat → List Draft → List Draft) : (s.mapDrafts g).straps = s.straps := rfl
@[simp] theorem State.mapDrafts_config (g : Nat → List Draft → List Draft) : (s.mapDrafts g).config = s.config := rfl
@[simp] theorem State.mapDrafts_checksum (g : Nat → List Draft → List Draft) : (s.mapDrafts g).checksum = s.checksum := rfl
@[simp] theorem State.mapDrafts_seq (g : Nat → List Draft → List Draft) : (s.mapDrafts g).seq = s.seq := rfl
@[simp] theorem State.mapDrafts_scanTimer (g : Nat → List Draft → List Draft) : (s.mapDrafts g).scanTimer = s.scanTimer := rfl
@[simp] theorem State.mapDrafts_sampleTimer (g : Nat → List Draft → List Draft) : (s.mapDrafts g).sampleTimer = s.sampleTimer := rfl
@[simp] theorem State.mapDrafts_windowTimer (g : Nat → List Draft → List Draft) : (s.mapDrafts g).windowTimer = s.windowTimer := rfl
@[simp] theorem State.mapDrafts_zones (g : Nat → List Draft → List Draft) : (s.mapDrafts g).zones = draftsFrom g 0 s.zones := rfl
@[simp] theorem State.mapDrafts_doors (g : Nat → List Draft → List Draft) : (s.mapDrafts g).doors = s.doors := rfl
@[simp] theorem State.mapDrafts_keys (g : Nat → List Draft → List Draft) : (s.mapDrafts g).keys = s.keys := rfl
@[simp] theorem State.mapDrafts_stages (g : Nat → List Draft → List Draft) : (s.mapDrafts g).stages = s.stages := rfl
@[simp] theorem State.mapDrafts_queue (g : Nat → List Draft → List Draft) : (s.mapDrafts g).queue = s.queue := rfl
@[simp] theorem State.mapDrafts_pacing (g : Nat → List Draft → List Draft) : (s.mapDrafts g).pacing = s.pacing := rfl
@[simp] theorem State.mapDrafts_attemptDue (g : Nat → List Draft → List Draft) : (s.mapDrafts g).attemptDue = s.attemptDue := rfl
@[simp] theorem State.mapDrafts_alloc (g : Nat → List Draft → List Draft) : (s.mapDrafts g).alloc = s.alloc := rfl
@[simp] theorem State.mapDrafts_view (g : Nat → List Draft → List Draft) : (s.mapDrafts g).view = s.view := rfl
@[simp] theorem State.mapDrafts_link (g : Nat → List Draft → List Draft) : (s.mapDrafts g).link = s.link := rfl
@[simp] theorem State.mapDrafts_defrost (g : Nat → List Draft → List Draft) : (s.mapDrafts g).defrost = s.defrost := rfl
@[simp] theorem State.mapDrafts_word (g : Nat → List Draft → List Draft) : (s.mapDrafts g).word = s.word := rfl
@[simp] theorem State.mapDrafts_inUse (g : Nat → List Draft → List Draft) : (s.mapDrafts g).inUse = s.inUse := rfl
@[simp] theorem State.mapDrafts_fans (g : Nat → List Draft → List Draft) : (s.mapDrafts g).fans = s.fans := rfl
@[simp] theorem State.mapDrafts_damper (g : Nat → List Draft → List Draft) : (s.mapDrafts g).damper = s.damper := rfl
@[simp] theorem State.mapDrafts_cond (g : Nat → List Draft → List Draft) : (s.mapDrafts g).cond = s.cond := rfl
@[simp] theorem State.mapDrafts_cursor (g : Nat → List Draft → List Draft) : (s.mapDrafts g).cursor = s.cursor := rfl
@[simp] theorem State.mapDrafts_outputs (g : Nat → List Draft → List Draft) : (s.mapDrafts g).outputs = s.outputs := rfl

/-! ### State.draw -/

@[simp] theorem State.draw_pending : (s.draw).pending = s.pending := rfl
@[simp] theorem State.draw_clock : (s.draw).clock = s.clock := rfl
@[simp] theorem State.draw_phase : (s.draw).phase = s.phase := rfl
@[simp] theorem State.draw_loadLimit : (s.draw).loadLimit = s.loadLimit := rfl
@[simp] theorem State.draw_straps : (s.draw).straps = s.straps := rfl
@[simp] theorem State.draw_config : (s.draw).config = s.config := rfl
@[simp] theorem State.draw_checksum : (s.draw).checksum = s.checksum := rfl
@[simp] theorem State.draw_seq : (s.draw).seq = seqStep s.seq := rfl
@[simp] theorem State.draw_scanTimer : (s.draw).scanTimer = s.scanTimer := rfl
@[simp] theorem State.draw_sampleTimer : (s.draw).sampleTimer = s.sampleTimer := rfl
@[simp] theorem State.draw_windowTimer : (s.draw).windowTimer = s.windowTimer := rfl
@[simp] theorem State.draw_zones : (s.draw).zones = s.zones := rfl
@[simp] theorem State.draw_doors : (s.draw).doors = s.doors := rfl
@[simp] theorem State.draw_keys : (s.draw).keys = s.keys := rfl
@[simp] theorem State.draw_stages : (s.draw).stages = s.stages := rfl
@[simp] theorem State.draw_queue : (s.draw).queue = s.queue := rfl
@[simp] theorem State.draw_pacing : (s.draw).pacing = s.pacing := rfl
@[simp] theorem State.draw_attemptDue : (s.draw).attemptDue = s.attemptDue := rfl
@[simp] theorem State.draw_alloc : (s.draw).alloc = s.alloc := rfl
@[simp] theorem State.draw_view : (s.draw).view = s.view := rfl
@[simp] theorem State.draw_link : (s.draw).link = s.link := rfl
@[simp] theorem State.draw_defrost : (s.draw).defrost = s.defrost := rfl
@[simp] theorem State.draw_word : (s.draw).word = s.word := rfl
@[simp] theorem State.draw_inUse : (s.draw).inUse = s.inUse := rfl
@[simp] theorem State.draw_fans : (s.draw).fans = s.fans := rfl
@[simp] theorem State.draw_damper : (s.draw).damper = s.damper := rfl
@[simp] theorem State.draw_cond : (s.draw).cond = s.cond := rfl
@[simp] theorem State.draw_cursor : (s.draw).cursor = s.cursor := rfl
@[simp] theorem State.draw_outputs : (s.draw).outputs = s.outputs := rfl

/-! ### modStage -/

@[simp] theorem modStage_pending (i : Nat) (g : Stage → Stage) : (modStage i g s).pending = s.pending := rfl
@[simp] theorem modStage_clock (i : Nat) (g : Stage → Stage) : (modStage i g s).clock = s.clock := rfl
@[simp] theorem modStage_phase (i : Nat) (g : Stage → Stage) : (modStage i g s).phase = s.phase := rfl
@[simp] theorem modStage_loadLimit (i : Nat) (g : Stage → Stage) : (modStage i g s).loadLimit = s.loadLimit := rfl
@[simp] theorem modStage_straps (i : Nat) (g : Stage → Stage) : (modStage i g s).straps = s.straps := rfl
@[simp] theorem modStage_config (i : Nat) (g : Stage → Stage) : (modStage i g s).config = s.config := rfl
@[simp] theorem modStage_checksum (i : Nat) (g : Stage → Stage) : (modStage i g s).checksum = s.checksum := rfl
@[simp] theorem modStage_seq (i : Nat) (g : Stage → Stage) : (modStage i g s).seq = s.seq := rfl
@[simp] theorem modStage_scanTimer (i : Nat) (g : Stage → Stage) : (modStage i g s).scanTimer = s.scanTimer := rfl
@[simp] theorem modStage_sampleTimer (i : Nat) (g : Stage → Stage) : (modStage i g s).sampleTimer = s.sampleTimer := rfl
@[simp] theorem modStage_windowTimer (i : Nat) (g : Stage → Stage) : (modStage i g s).windowTimer = s.windowTimer := rfl
@[simp] theorem modStage_zones (i : Nat) (g : Stage → Stage) : (modStage i g s).zones = s.zones := rfl
@[simp] theorem modStage_doors (i : Nat) (g : Stage → Stage) : (modStage i g s).doors = s.doors := rfl
@[simp] theorem modStage_keys (i : Nat) (g : Stage → Stage) : (modStage i g s).keys = s.keys := rfl
@[simp] theorem modStage_stages (i : Nat) (g : Stage → Stage) : (modStage i g s).stages = s.stages.modify i (fun st => refeedback s.clock st (g st)) := rfl
@[simp] theorem modStage_queue (i : Nat) (g : Stage → Stage) : (modStage i g s).queue = s.queue := rfl
@[simp] theorem modStage_pacing (i : Nat) (g : Stage → Stage) : (modStage i g s).pacing = s.pacing := rfl
@[simp] theorem modStage_attemptDue (i : Nat) (g : Stage → Stage) : (modStage i g s).attemptDue = s.attemptDue := rfl
@[simp] theorem modStage_alloc (i : Nat) (g : Stage → Stage) : (modStage i g s).alloc = s.alloc := rfl
@[simp] theorem modStage_view (i : Nat) (g : Stage → Stage) : (modStage i g s).view = s.view := rfl
@[simp] theorem modStage_link (i : Nat) (g : Stage → Stage) : (modStage i g s).link = s.link := rfl
@[simp] theorem modStage_defrost (i : Nat) (g : Stage → Stage) : (modStage i g s).defrost = s.defrost := rfl
@[simp] theorem modStage_word (i : Nat) (g : Stage → Stage) : (modStage i g s).word = s.word := rfl
@[simp] theorem modStage_inUse (i : Nat) (g : Stage → Stage) : (modStage i g s).inUse = s.inUse := rfl
@[simp] theorem modStage_fans (i : Nat) (g : Stage → Stage) : (modStage i g s).fans = s.fans := rfl
@[simp] theorem modStage_damper (i : Nat) (g : Stage → Stage) : (modStage i g s).damper = s.damper := rfl
@[simp] theorem modStage_cond (i : Nat) (g : Stage → Stage) : (modStage i g s).cond = s.cond := rfl
@[simp] theorem modStage_cursor (i : Nat) (g : Stage → Stage) : (modStage i g s).cursor = s.cursor := rfl
@[simp] theorem modStage_outputs (i : Nat) (g : Stage → Stage) : (modStage i g s).outputs = s.outputs := rfl

/-! ### unqueue -/

@[simp] theorem unqueue_pending (i : Nat) : (unqueue i s).pending = s.pending := rfl
@[simp] theorem unqueue_clock (i : Nat) : (unqueue i s).clock = s.clock := rfl
@[simp] theorem unqueue_phase (i : Nat) : (unqueue i s).phase = s.phase := rfl
@[simp] theorem unqueue_loadLimit (i : Nat) : (unqueue i s).loadLimit = s.loadLimit := rfl
@[simp] theorem unqueue_straps (i : Nat) : (unqueue i s).straps = s.straps := rfl
@[simp] theorem unqueue_config (i : Nat) : (unqueue i s).config = s.config := rfl
@[simp] theorem unqueue_checksum (i : Nat) : (unqueue i s).checksum = s.checksum := rfl
@[simp] theorem unqueue_seq (i : Nat) : (unqueue i s).seq = s.seq := rfl
@[simp] theorem unqueue_scanTimer (i : Nat) : (unqueue i s).scanTimer = s.scanTimer := rfl
@[simp] theorem unqueue_sampleTimer (i : Nat) : (unqueue i s).sampleTimer = s.sampleTimer := rfl
@[simp] theorem unqueue_windowTimer (i : Nat) : (unqueue i s).windowTimer = s.windowTimer := rfl
@[simp] theorem unqueue_zones (i : Nat) : (unqueue i s).zones = s.zones := rfl
@[simp] theorem unqueue_doors (i : Nat) : (unqueue i s).doors = s.doors := rfl
@[simp] theorem unqueue_keys (i : Nat) : (unqueue i s).keys = s.keys := rfl
@[simp] theorem unqueue_stages (i : Nat) : (unqueue i s).stages = s.stages := rfl
@[simp] theorem unqueue_queue (i : Nat) : (unqueue i s).queue = s.queue.map (fun l => l.filter (fun j => j != i)) := rfl
@[simp] theorem unqueue_pacing (i : Nat) : (unqueue i s).pacing = s.pacing := rfl
@[simp] theorem unqueue_attemptDue (i : Nat) : (unqueue i s).attemptDue = s.attemptDue := rfl
@[simp] theorem unqueue_alloc (i : Nat) : (unqueue i s).alloc = s.alloc := rfl
@[simp] theorem unqueue_view (i : Nat) : (unqueue i s).view = s.view := rfl
@[simp] theorem unqueue_link (i : Nat) : (unqueue i s).link = s.link := rfl
@[simp] theorem unqueue_defrost (i : Nat) : (unqueue i s).defrost = s.defrost := rfl
@[simp] theorem unqueue_word (i : Nat) : (unqueue i s).word = s.word := rfl
@[simp] theorem unqueue_inUse (i : Nat) : (unqueue i s).inUse = s.inUse := rfl
@[simp] theorem unqueue_fans (i : Nat) : (unqueue i s).fans = s.fans := rfl
@[simp] theorem unqueue_damper (i : Nat) : (unqueue i s).damper = s.damper := rfl
@[simp] theorem unqueue_cond (i : Nat) : (unqueue i s).cond = s.cond := rfl
@[simp] theorem unqueue_cursor (i : Nat) : (unqueue i s).cursor = s.cursor := rfl
@[simp] theorem unqueue_outputs (i : Nat) : (unqueue i s).outputs = s.outputs := rfl

/-! ### queueBack -/

@[simp] theorem queueBack_pending (c : Cls) (i : Nat) : (queueBack c i s).pending = s.pending := rfl
@[simp] theorem queueBack_clock (c : Cls) (i : Nat) : (queueBack c i s).clock = s.clock := rfl
@[simp] theorem queueBack_phase (c : Cls) (i : Nat) : (queueBack c i s).phase = s.phase := rfl
@[simp] theorem queueBack_loadLimit (c : Cls) (i : Nat) : (queueBack c i s).loadLimit = s.loadLimit := rfl
@[simp] theorem queueBack_straps (c : Cls) (i : Nat) : (queueBack c i s).straps = s.straps := rfl
@[simp] theorem queueBack_config (c : Cls) (i : Nat) : (queueBack c i s).config = s.config := rfl
@[simp] theorem queueBack_checksum (c : Cls) (i : Nat) : (queueBack c i s).checksum = s.checksum := rfl
@[simp] theorem queueBack_seq (c : Cls) (i : Nat) : (queueBack c i s).seq = s.seq := rfl
@[simp] theorem queueBack_scanTimer (c : Cls) (i : Nat) : (queueBack c i s).scanTimer = s.scanTimer := rfl
@[simp] theorem queueBack_sampleTimer (c : Cls) (i : Nat) : (queueBack c i s).sampleTimer = s.sampleTimer := rfl
@[simp] theorem queueBack_windowTimer (c : Cls) (i : Nat) : (queueBack c i s).windowTimer = s.windowTimer := rfl
@[simp] theorem queueBack_zones (c : Cls) (i : Nat) : (queueBack c i s).zones = s.zones := rfl
@[simp] theorem queueBack_doors (c : Cls) (i : Nat) : (queueBack c i s).doors = s.doors := rfl
@[simp] theorem queueBack_keys (c : Cls) (i : Nat) : (queueBack c i s).keys = s.keys := rfl
@[simp] theorem queueBack_stages (c : Cls) (i : Nat) : (queueBack c i s).stages = s.stages := rfl
@[simp] theorem queueBack_queue (c : Cls) (i : Nat) : (queueBack c i s).queue = s.queue.set c (s.queue.get c ++ [i]) := rfl
@[simp] theorem queueBack_pacing (c : Cls) (i : Nat) : (queueBack c i s).pacing = s.pacing := rfl
@[simp] theorem queueBack_attemptDue (c : Cls) (i : Nat) : (queueBack c i s).attemptDue = s.attemptDue := rfl
@[simp] theorem queueBack_alloc (c : Cls) (i : Nat) : (queueBack c i s).alloc = s.alloc := rfl
@[simp] theorem queueBack_view (c : Cls) (i : Nat) : (queueBack c i s).view = s.view := rfl
@[simp] theorem queueBack_link (c : Cls) (i : Nat) : (queueBack c i s).link = s.link := rfl
@[simp] theorem queueBack_defrost (c : Cls) (i : Nat) : (queueBack c i s).defrost = s.defrost := rfl
@[simp] theorem queueBack_word (c : Cls) (i : Nat) : (queueBack c i s).word = s.word := rfl
@[simp] theorem queueBack_inUse (c : Cls) (i : Nat) : (queueBack c i s).inUse = s.inUse := rfl
@[simp] theorem queueBack_fans (c : Cls) (i : Nat) : (queueBack c i s).fans = s.fans := rfl
@[simp] theorem queueBack_damper (c : Cls) (i : Nat) : (queueBack c i s).damper = s.damper := rfl
@[simp] theorem queueBack_cond (c : Cls) (i : Nat) : (queueBack c i s).cond = s.cond := rfl
@[simp] theorem queueBack_cursor (c : Cls) (i : Nat) : (queueBack c i s).cursor = s.cursor := rfl
@[simp] theorem queueBack_outputs (c : Cls) (i : Nat) : (queueBack c i s).outputs = s.outputs := rfl

/-! ### oweAttempt -/

@[simp] theorem oweAttempt_pending : (oweAttempt s).pending = s.pending := rfl
@[simp] theorem oweAttempt_clock : (oweAttempt s).clock = s.clock := rfl
@[simp] theorem oweAttempt_phase : (oweAttempt s).phase = s.phase := rfl
@[simp] theorem oweAttempt_loadLimit : (oweAttempt s).loadLimit = s.loadLimit := rfl
@[simp] theorem oweAttempt_straps : (oweAttempt s).straps = s.straps := rfl
@[simp] theorem oweAttempt_config : (oweAttempt s).config = s.config := rfl
@[simp] theorem oweAttempt_checksum : (oweAttempt s).checksum = s.checksum := rfl
@[simp] theorem oweAttempt_seq : (oweAttempt s).seq = s.seq := rfl
@[simp] theorem oweAttempt_scanTimer : (oweAttempt s).scanTimer = s.scanTimer := rfl
@[simp] theorem oweAttempt_sampleTimer : (oweAttempt s).sampleTimer = s.sampleTimer := rfl
@[simp] theorem oweAttempt_windowTimer : (oweAttempt s).windowTimer = s.windowTimer := rfl
@[simp] theorem oweAttempt_zones : (oweAttempt s).zones = s.zones := rfl
@[simp] theorem oweAttempt_doors : (oweAttempt s).doors = s.doors := rfl
@[simp] theorem oweAttempt_keys : (oweAttempt s).keys = s.keys := rfl
@[simp] theorem oweAttempt_stages : (oweAttempt s).stages = s.stages := rfl
@[simp] theorem oweAttempt_queue : (oweAttempt s).queue = s.queue := rfl
@[simp] theorem oweAttempt_pacing : (oweAttempt s).pacing = s.pacing := rfl
@[simp] theorem oweAttempt_attemptDue : (oweAttempt s).attemptDue = true := rfl
@[simp] theorem oweAttempt_alloc : (oweAttempt s).alloc = s.alloc := rfl
@[simp] theorem oweAttempt_view : (oweAttempt s).view = s.view := rfl
@[simp] theorem oweAttempt_link : (oweAttempt s).link = s.link := rfl
@[simp] theorem oweAttempt_defrost : (oweAttempt s).defrost = s.defrost := rfl
@[simp] theorem oweAttempt_word : (oweAttempt s).word = s.word := rfl
@[simp] theorem oweAttempt_inUse : (oweAttempt s).inUse = s.inUse := rfl
@[simp] theorem oweAttempt_fans : (oweAttempt s).fans = s.fans := rfl
@[simp] theorem oweAttempt_damper : (oweAttempt s).damper = s.damper := rfl
@[simp] theorem oweAttempt_cond : (oweAttempt s).cond = s.cond := rfl
@[simp] theorem oweAttempt_cursor : (oweAttempt s).cursor = s.cursor := rfl
@[simp] theorem oweAttempt_outputs : (oweAttempt s).outputs = s.outputs := rfl

/-! ### setUsable -/

@[simp] theorem setUsable_pending (p : PerClass Nat) : (setUsable p s).pending = s.pending := rfl
@[simp] theorem setUsable_clock (p : PerClass Nat) : (setUsable p s).clock = s.clock := rfl
@[simp] theorem setUsable_phase (p : PerClass Nat) : (setUsable p s).phase = s.phase := rfl
@[simp] theorem setUsable_loadLimit (p : PerClass Nat) : (setUsable p s).loadLimit = s.loadLimit := rfl
@[simp] theorem setUsable_straps (p : PerClass Nat) : (setUsable p s).straps = s.straps := rfl
@[simp] theorem setUsable_config (p : PerClass Nat) : (setUsable p s).config = s.config := rfl
@[simp] theorem setUsable_checksum (p : PerClass Nat) : (setUsable p s).checksum = s.checksum := rfl
@[simp] theorem setUsable_seq (p : PerClass Nat) : (setUsable p s).seq = s.seq := rfl
@[simp] theorem setUsable_scanTimer (p : PerClass Nat) : (setUsable p s).scanTimer = s.scanTimer := rfl
@[simp] theorem setUsable_sampleTimer (p : PerClass Nat) : (setUsable p s).sampleTimer = s.sampleTimer := rfl
@[simp] theorem setUsable_windowTimer (p : PerClass Nat) : (setUsable p s).windowTimer = s.windowTimer := rfl
@[simp] theorem setUsable_zones (p : PerClass Nat) : (setUsable p s).zones = s.zones := rfl
@[simp] theorem setUsable_doors (p : PerClass Nat) : (setUsable p s).doors = s.doors := rfl
@[simp] theorem setUsable_keys (p : PerClass Nat) : (setUsable p s).keys = s.keys := rfl
@[simp] theorem setUsable_stages (p : PerClass Nat) : (setUsable p s).stages = s.stages := rfl
@[simp] theorem setUsable_queue (p : PerClass Nat) : (setUsable p s).queue = s.queue := rfl
@[simp] theorem setUsable_pacing (p : PerClass Nat) : (setUsable p s).pacing = s.pacing := rfl
@[simp] theorem setUsable_attemptDue (p : PerClass Nat) : (setUsable p s).attemptDue = s.attemptDue := rfl
@[simp] theorem setUsable_alloc (p : PerClass Nat) : (setUsable p s).alloc = { s.alloc with usable := p } := rfl
@[simp] theorem setUsable_view (p : PerClass Nat) : (setUsable p s).view = s.view := rfl
@[simp] theorem setUsable_link (p : PerClass Nat) : (setUsable p s).link = s.link := rfl
@[simp] theorem setUsable_defrost (p : PerClass Nat) : (setUsable p s).defrost = s.defrost := rfl
@[simp] theorem setUsable_word (p : PerClass Nat) : (setUsable p s).word = s.word := rfl
@[simp] theorem setUsable_inUse (p : PerClass Nat) : (setUsable p s).inUse = s.inUse := rfl
@[simp] theorem setUsable_fans (p : PerClass Nat) : (setUsable p s).fans = s.fans := rfl
@[simp] theorem setUsable_damper (p : PerClass Nat) : (setUsable p s).damper = s.damper := rfl
@[simp] theorem setUsable_cond (p : PerClass Nat) : (setUsable p s).cond = s.cond := rfl
@[simp] theorem setUsable_cursor (p : PerClass Nat) : (setUsable p s).cursor = s.cursor := rfl
@[simp] theorem setUsable_outputs (p : PerClass Nat) : (setUsable p s).outputs = s.outputs := rfl

/-! ### refreshList -/

@[simp] theorem refreshList_pending : (refreshList s).pending = s.pending := rfl
@[simp] theorem refreshList_clock : (refreshList s).clock = s.clock := rfl
@[simp] theorem refreshList_phase : (refreshList s).phase = s.phase := rfl
@[simp] theorem refreshList_loadLimit : (refreshList s).loadLimit = s.loadLimit := rfl
@[simp] theorem refreshList_straps : (refreshList s).straps = s.straps := rfl
@[simp] theorem refreshList_config : (refreshList s).config = s.config := rfl
@[simp] theorem refreshList_checksum : (refreshList s).checksum = s.checksum := rfl
@[simp] theorem refreshList_seq : (refreshList s).seq = s.seq := rfl
@[simp] theorem refreshList_scanTimer : (refreshList s).scanTimer = s.scanTimer := rfl
@[simp] theorem refreshList_sampleTimer : (refreshList s).sampleTimer = s.sampleTimer := rfl
@[simp] theorem refreshList_windowTimer : (refreshList s).windowTimer = s.windowTimer := rfl
@[simp] theorem refreshList_zones : (refreshList s).zones = s.zones := rfl
@[simp] theorem refreshList_doors : (refreshList s).doors = s.doors := rfl
@[simp] theorem refreshList_keys : (refreshList s).keys = s.keys := rfl
@[simp] theorem refreshList_stages : (refreshList s).stages = s.stages := rfl
@[simp] theorem refreshList_queue : (refreshList s).queue = s.queue := rfl
@[simp] theorem refreshList_pacing : (refreshList s).pacing = s.pacing := rfl
@[simp] theorem refreshList_attemptDue : (refreshList s).attemptDue = s.attemptDue := rfl
@[simp] theorem refreshList_alloc : (refreshList s).alloc = s.alloc := rfl
@[simp] theorem refreshList_view : (refreshList s).view = s.view := rfl
/-- Of the link controller's record only the list changes. -/
theorem refreshList_link : (refreshList s).link = { s.link with list := (refreshList s).link.list } := rfl
@[simp] theorem refreshList_defrost : (refreshList s).defrost = s.defrost := rfl
@[simp] theorem refreshList_word : (refreshList s).word = s.word := rfl
@[simp] theorem refreshList_inUse : (refreshList s).inUse = s.inUse := rfl
@[simp] theorem refreshList_fans : (refreshList s).fans = s.fans := rfl
@[simp] theorem refreshList_damper : (refreshList s).damper = s.damper := rfl
@[simp] theorem refreshList_cond : (refreshList s).cond = s.cond := rfl
@[simp] theorem refreshList_cursor : (refreshList s).cursor = s.cursor := rfl
@[simp] theorem refreshList_outputs : (refreshList s).outputs = s.outputs := rfl

/-! ### modOwn -/

@[simp] theorem modOwn_pending (g : Entry → Entry) : (modOwn g s).pending = s.pending := rfl
@[simp] theorem modOwn_clock (g : Entry → Entry) : (modOwn g s).clock = s.clock := rfl
@[simp] theorem modOwn_phase (g : Entry → Entry) : (modOwn g s).phase = s.phase := rfl
@[simp] theorem modOwn_loadLimit (g : Entry → Entry) : (modOwn g s).loadLimit = s.loadLimit := rfl
@[simp] theorem modOwn_straps (g : Entry → Entry) : (modOwn g s).straps = s.straps := rfl
@[simp] theorem modOwn_config (g : Entry → Entry) : (modOwn g s).config = s.config := rfl
@[simp] theorem modOwn_checksum (g : Entry → Entry) : (modOwn g s).checksum = s.checksum := rfl
@[simp] theorem modOwn_seq (g : Entry → Entry) : (modOwn g s).seq = s.seq := rfl
@[simp] theorem modOwn_scanTimer (g : Entry → Entry) : (modOwn g s).scanTimer = s.scanTimer := rfl
@[simp] theorem modOwn_sampleTimer (g : Entry → Entry) : (modOwn g s).sampleTimer = s.sampleTimer := rfl
@[simp] theorem modOwn_windowTimer (g : Entry → Entry) : (modOwn g s).windowTimer = s.windowTimer := rfl
@[simp] theorem modOwn_zones (g : Entry → Entry) : (modOwn g s).zones = s.zones := rfl
@[simp] theorem modOwn_doors (g : Entry → Entry) : (modOwn g s).doors = s.doors := rfl
@[simp] theorem modOwn_keys (g : Entry → Entry) : (modOwn g s).keys = s.keys := rfl
@[simp] theorem modOwn_stages (g : Entry → Entry) : (modOwn g s).stages = s.stages := rfl
@[simp] theorem modOwn_queue (g : Entry → Entry) : (modOwn g s).queue = s.queue := rfl
@[simp] theorem modOwn_pacing (g : Entry → Entry) : (modOwn g s).pacing = s.pacing := rfl
@[simp] theorem modOwn_attemptDue (g : Entry → Entry) : (modOwn g s).attemptDue = s.attemptDue := rfl
@[simp] theorem modOwn_alloc (g : Entry → Entry) : (modOwn g s).alloc = s.alloc := rfl
@[simp] theorem modOwn_view (g : Entry → Entry) : (modOwn g s).view = (s.modEntry s.straps.station g).view := rfl
/-- Of the link controller's record only the list changes. -/
theorem modOwn_link (g : Entry → Entry) : (modOwn g s).link = { s.link with list := (modOwn g s).link.list } := rfl
@[simp] theorem modOwn_defrost (g : Entry → Entry) : (modOwn g s).defrost = s.defrost := rfl
@[simp] theorem modOwn_word (g : Entry → Entry) : (modOwn g s).word = s.word := rfl
@[simp] theorem modOwn_inUse (g : Entry → Entry) : (modOwn g s).inUse = s.inUse := rfl
@[simp] theorem modOwn_fans (g : Entry → Entry) : (modOwn g s).fans = s.fans := rfl
@[simp] theorem modOwn_damper (g : Entry → Entry) : (modOwn g s).damper = s.damper := rfl
@[simp] theorem modOwn_cond (g : Entry → Entry) : (modOwn g s).cond = s.cond := rfl
@[simp] theorem modOwn_cursor (g : Entry → Entry) : (modOwn g s).cursor = s.cursor := rfl
@[simp] theorem modOwn_outputs (g : Entry → Entry) : (modOwn g s).outputs = s.outputs := rfl

/-! ### noteDraw -/

@[simp] theorem noteDraw_pending : (noteDraw s).pending = s.pending := rfl
@[simp] theorem noteDraw_clock : (noteDraw s).clock = s.clock := rfl
@[simp] theorem noteDraw_phase : (noteDraw s).phase = s.phase := rfl
@[simp] theorem noteDraw_loadLimit : (noteDraw s).loadLimit = s.loadLimit := rfl
@[simp] theorem noteDraw_straps : (noteDraw s).straps = s.straps := rfl
@[simp] theorem noteDraw_config : (noteDraw s).config = s.config := rfl
@[simp] theorem noteDraw_checksum : (noteDraw s).checksum = s.checksum := rfl
@[simp] theorem noteDraw_seq : (noteDraw s).seq = s.seq := rfl
@[simp] theorem noteDraw_scanTimer : (noteDraw s).scanTimer = s.scanTimer := rfl
@[simp] theorem noteDraw_sampleTimer : (noteDraw s).sampleTimer = s.sampleTimer := rfl
@[simp] theorem noteDraw_windowTimer : (noteDraw s).windowTimer = s.windowTimer := rfl
@[simp] theorem noteDraw_zones : (noteDraw s).zones = s.zones := rfl
@[simp] theorem noteDraw_doors : (noteDraw s).doors = s.doors := rfl
@[simp] theorem noteDraw_keys : (noteDraw s).keys = s.keys := rfl
@[simp] theorem noteDraw_stages : (noteDraw s).stages = s.stages := rfl
@[simp] theorem noteDraw_queue : (noteDraw s).queue = s.queue := rfl
@[simp] theorem noteDraw_pacing : (noteDraw s).pacing = s.pacing := rfl
@[simp] theorem noteDraw_attemptDue : (noteDraw s).attemptDue = s.attemptDue := rfl
@[simp] theorem noteDraw_alloc : (noteDraw s).alloc = s.alloc := rfl
@[simp] theorem noteDraw_view : (noteDraw s).view = (writeDraw s).view := rfl
/-- Of the link controller's record only the list changes. -/
theorem noteDraw_link : (noteDraw s).link = { s.link with list := (noteDraw s).link.list } := rfl
@[simp] theorem noteDraw_defrost : (noteDraw s).defrost = s.defrost := rfl
@[simp] theorem noteDraw_word : (noteDraw s).word = s.word := rfl
@[simp] theorem noteDraw_inUse : (noteDraw s).inUse = s.inUse := rfl
@[simp] theorem noteDraw_fans : (noteDraw s).fans = s.fans := rfl
@[simp] theorem noteDraw_damper : (noteDraw s).damper = s.damper := rfl
@[simp] theorem noteDraw_cond : (noteDraw s).cond = s.cond := rfl
@[simp] theorem noteDraw_cursor : (noteDraw s).cursor = s.cursor := rfl
@[simp] theorem noteDraw_outputs : (noteDraw s).outputs = s.outputs := rfl

/-! ### lowerCondition -/

@[simp] theorem lowerCondition_pending (c : Condition) : (lowerCondition c s).pending = s.pending := rfl
@[simp] theorem lowerCondition_clock (c : Condition) : (lowerCondition c s).clock = s.clock := rfl
@[simp] theorem lowerCondition_phase (c : Condition) : (lowerCondition c s).phase = s.phase := rfl
@[simp] theorem lowerCondition_loadLimit (c : Condition) : (lowerCondition c s).loadLimit = s.loadLimit := rfl
@[simp] theorem lowerCondition_straps (c : Condition) : (lowerCondition c s).straps = s.straps := rfl
@[simp] theorem lowerCondition_config (c : Condition) : (lowerCondition c s).config = s.config := rfl
@[simp] theorem lowerCondition_checksum (c : Condition) : (lowerCondition c s).checksum = s.checksum := rfl
@[simp] theorem lowerCondition_seq (c : Condition) : (lowerCondition c s).seq = s.seq := rfl
@[simp] theorem lowerCondition_scanTimer (c : Condition) : (lowerCondition c s).scanTimer = s.scanTimer := rfl
@[simp] theorem lowerCondition_sampleTimer (c : Condition) : (lowerCondition c s).sampleTimer = s.sampleTimer := rfl
@[simp] theorem lowerCondition_windowTimer (c : Condition) : (lowerCondition c s).windowTimer = s.windowTimer := rfl
@[simp] theorem lowerCondition_zones (c : Condition) : (lowerCondition c s).zones = s.zones := rfl
@[simp] theorem lowerCondition_doors (c : Condition) : (lowerCondition c s).doors = s.doors := rfl
@[simp] theorem lowerCondition_keys (c : Condition) : (lowerCondition c s).keys = s.keys := rfl
@[simp] theorem lowerCondition_stages (c : Condition) : (lowerCondition c s).stages = s.stages := rfl
@[simp] theorem lowerCondition_queue (c : Condition) : (lowerCondition c s).queue = s.queue := rfl
@[simp] theorem lowerCondition_pacing (c : Condition) : (lowerCondition c s).pacing = s.pacing := rfl
@[simp] theorem lowerCondition_attemptDue (c : Condition) : (lowerCondition c s).attemptDue = s.attemptDue := rfl
@[simp] theorem lowerCondition_alloc (c : Condition) : (lowerCondition c s).alloc = s.alloc := rfl
@[simp] theorem lowerCondition_view (c : Condition) : (lowerCondition c s).view = s.view := rfl
@[simp] theorem lowerCondition_link (c : Condition) : (lowerCondition c s).link = { s.link with
    list := (refreshList { s with cond := { s.cond with current := withoutFlag s.cond.current c } }).link.list } := rfl
@[simp] theorem lowerCondition_defrost (c : Condition) : (lowerCondition c s).defrost = s.defrost := rfl
@[simp] theorem lowerCondition_word (c : Condition) : (lowerCondition c s).word = s.word := rfl
@[simp] theorem lowerCondition_inUse (c : Condition) : (lowerCondition c s).inUse = s.inUse := rfl
@[simp] theorem lowerCondition_fans (c : Condition) : (lowerCondition c s).fans = s.fans := rfl
@[simp] theorem lowerCondition_damper (c : Condition) : (lowerCondition c s).damper = s.damper := rfl
@[simp] theorem lowerCondition_cond (c : Condition) : (lowerCondition c s).cond = { s.cond with current := withoutFlag s.cond.current c } := rfl
@[simp] theorem lowerCondition_cursor (c : Condition) : (lowerCondition c s).cursor = s.cursor := rfl
@[simp] theorem lowerCondition_outputs (c : Condition) : (lowerCondition c s).outputs = s.outputs := rfl

/-! ### tick -/

@[simp] theorem tick_pending : (tick s).pending = s.pending := rfl
@[simp] theorem tick_clock : (tick s).clock = timeAfter s.clock 1 := rfl
@[simp] theorem tick_phase : (tick s).phase = s.phase := rfl
@[simp] theorem tick_loadLimit : (tick s).loadLimit = s.loadLimit := rfl
@[simp] theorem tick_straps : (tick s).straps = s.straps := rfl
@[simp] theorem tick_config : (tick s).config = s.config := rfl
@[simp] theorem tick_checksum : (tick s).checksum = s.checksum := rfl
@[simp] theorem tick_seq : (tick s).seq = s.seq := rfl
@[simp] theorem tick_scanTimer : (tick s).scanTimer = s.scanTimer := rfl
@[simp] theorem tick_sampleTimer : (tick s).sampleTimer = s.sampleTimer := rfl
@[simp] theorem tick_windowTimer : (tick s).windowTimer = s.windowTimer := rfl
@[simp] theorem tick_zones : (tick s).zones = s.zones := rfl
@[simp] theorem tick_doors : (tick s).doors = s.doors := rfl
@[simp] theorem tick_keys : (tick s).keys = s.keys := rfl
@[simp] theorem tick_stages : (tick s).stages = s.stages := rfl
@[simp] theorem tick_queue : (tick s).queue = s.queue := rfl
@[simp] theorem tick_pacing : (tick s).pacing = s.pacing := rfl
@[simp] theorem tick_attemptDue : (tick s).attemptDue = s.attemptDue := rfl
@[simp] theorem tick_alloc : (tick s).alloc = s.alloc := rfl
@[simp] theorem tick_view : (tick s).view = s.view := rfl
@[simp] theorem tick_link : (tick s).link = s.link := rfl
@[simp] theorem tick_defrost : (tick s).defrost = s.defrost := rfl
@[simp] theorem tick_word : (tick s).word = s.word := rfl
@[simp] theorem tick_inUse : (tick s).inUse = s.inUse := rfl
@[simp] theorem tick_fans : (tick s).fans = s.fans := rfl
@[simp] theorem tick_damper : (tick s).damper = s.damper := rfl
@[simp] theorem tick_cond : (tick s).cond = s.cond := rfl
@[simp] theorem tick_cursor : (tick s).cursor = s.cursor := rfl
@[simp] theorem tick_outputs : (tick s).outputs = s.outputs := rfl

end Sys2Proof.Machine
end

