-- ==== Sys2Proof/Laws/Only.lean ====
section
/-! SUPPORT. Relations "t differs from s in nothing but …": each is reflexive and transitive, and says of every other field
that it is unchanged. They are how the shared operations' lemmas say what an operation leaves. -/

namespace Sys2Proof.Machine

variable {s t u : State}

/-! ### LinkOnly -/

/-- `t` differs from `s` in nothing but the link controller's record. -/
def LinkOnly (s t : State) : Prop :=
  ∃ (link' : Link),
    t = { s with link := link' }

theorem LinkOnly.refl (s : State) : LinkOnly s s :=
  ⟨s.link, rfl⟩

theorem LinkOnly.trans (h₁ : LinkOnly s t) (h₂ : LinkOnly t u) : LinkOnly s u := by
  obtain ⟨_, rfl⟩ := h₁
  obtain ⟨_, rfl⟩ := h₂
  exact ⟨_, rfl⟩

theorem LinkOnly.pending_eq (h : LinkOnly s t) : t.pending = s.pending := by
  obtain ⟨_, rfl⟩ := h; rfl
theorem LinkOnly.clock_eq (h : LinkOnly s t) : t.clock = s.clock := by
  obtain ⟨_, rfl⟩ := h; rfl
theorem LinkOnly.phase_eq (h : LinkOnly s t) : t.phase = s.phase := by
  obtain ⟨_, rfl⟩ := h; rfl
theorem LinkOnly.loadLimit_eq (h : LinkOnly s t) : t.loadLimit = s.loadLimit := by
  obtain ⟨_, rfl⟩ := h; rfl
theorem LinkOnly.straps_eq (h : LinkOnly s t) : t.straps = s.straps := by
  obtain ⟨_, rfl⟩ := h; rfl
theorem LinkOnly.config_eq (h : LinkOnly s t) : t.config = s.config := by
  obtain ⟨_, rfl⟩ := h; rfl
theorem LinkOnly.checksum_eq (h : LinkOnly s t) : t.checksum = s.checksum := by
  obtain ⟨_, rfl⟩ := h; rfl
theorem LinkOnly.seq_eq (h : LinkOnly s t) : t.seq = s.seq := by
  obtain ⟨_, rfl⟩ := h; rfl
theorem LinkOnly.scanTimer_eq (h : LinkOnly s t) : t.scanTimer = s.scanTimer := by
  obtain ⟨_, rfl⟩ := h; rfl
theorem LinkOnly.sampleTimer_eq (h : LinkOnly s t) : t.sampleTimer = s.sampleTimer := by
  obtain ⟨_, rfl⟩ := h; rfl
theorem LinkOnly.windowTimer_eq (h : LinkOnly s t) : t.windowTimer = s.windowTimer := by
  obtain ⟨_, rfl⟩ := h; rfl
theorem LinkOnly.zones_eq (h : LinkOnly s t) : t.zones = s.zones := by
  obtain ⟨_, rfl⟩ := h; rfl
theorem LinkOnly.doors_eq (h : LinkOnly s t) : t.doors = s.doors := by
  obtain ⟨_, rfl⟩ := h; rfl
theorem LinkOnly.keys_eq (h : LinkOnly s t) : t.keys = s.keys := by
  obtain ⟨_, rfl⟩ := h; rfl
theorem LinkOnly.stages_eq (h : LinkOnly s t) : t.stages = s.stages := by
  obtain ⟨_, rfl⟩ := h; rfl
theorem LinkOnly.queue_eq (h : LinkOnly s t) : t.queue = s.queue := by
  obtain ⟨_, rfl⟩ := h; rfl
theorem LinkOnly.pacing_eq (h : LinkOnly s t) : t.pacing = s.pacing := by
  obtain ⟨_, rfl⟩ := h; rfl
theorem LinkOnly.attemptDue_eq (h : LinkOnly s t) : t.attemptDue = s.attemptDue := by
  obtain ⟨_, rfl⟩ := h; rfl
theorem LinkOnly.alloc_eq (h : LinkOnly s t) : t.alloc = s.alloc := by
  obtain ⟨_, rfl⟩ := h; rfl
theorem LinkOnly.view_eq (h : LinkOnly s t) : t.view = s.view := by
  obtain ⟨_, rfl⟩ := h; rfl
theorem LinkOnly.defrost_eq (h : LinkOnly s t) : t.defrost = s.defrost := by
  obtain ⟨_, rfl⟩ := h; rfl
theorem LinkOnly.word_eq (h : LinkOnly s t) : t.word = s.word := by
  obtain ⟨_, rfl⟩ := h; rfl
theorem LinkOnly.inUse_eq (h : LinkOnly s t) : t.inUse = s.inUse := by
  obtain ⟨_, rfl⟩ := h; rfl
theorem LinkOnly.fans_eq (h : LinkOnly s t) : t.fans = s.fans := by
  obtain ⟨_, rfl⟩ := h; rfl
theorem LinkOnly.damper_eq (h : LinkOnly s t) : t.damper = s.damper := by
  obtain ⟨_, rfl⟩ := h; rfl
theorem LinkOnly.cond_eq (h : LinkOnly s t) : t.cond = s.cond := by
  obtain ⟨_, rfl⟩ := h; rfl
theorem LinkOnly.cursor_eq (h : LinkOnly s t) : t.cursor = s.cursor := by
  obtain ⟨_, rfl⟩ := h; rfl
theorem LinkOnly.outputs_eq (h : LinkOnly s t) : t.outputs = s.outputs := by
  obtain ⟨_, rfl⟩ := h; rfl

/-! ### CondOnly -/

/-- `t` differs from `s` in nothing but the condition record and the frames it queues. -/
def CondOnly (s t : State) : Prop :=
  ∃ (link' : Link) (cond' : CondRecord),
    t = { s with link := link', cond := cond' }

theorem CondOnly.refl (s : State) : CondOnly s s :=
  ⟨s.link, s.cond, rfl⟩

theorem CondOnly.trans (h₁ : CondOnly s t) (h₂ : CondOnly t u) : CondOnly s u := by
  obtain ⟨_, _, rfl⟩ := h₁
  obtain ⟨_, _, rfl⟩ := h₂
  exact ⟨_, _, rfl⟩

theorem CondOnly.pending_eq (h : CondOnly s t) : t.pending = s.pending := by
  obtain ⟨_, _, rfl⟩ := h; rfl
theorem CondOnly.clock_eq (h : CondOnly s t) : t.clock = s.clock := by
  obtain ⟨_, _, rfl⟩ := h; rfl
theorem CondOnly.phase_eq (h : CondOnly s t) : t.phase = s.phase := by
  obtain ⟨_, _, rfl⟩ := h; rfl
theorem CondOnly.loadLimit_eq (h : CondOnly s t) : t.loadLimit = s.loadLimit := by
  obtain ⟨_, _, rfl⟩ := h; rfl
theorem CondOnly.straps_eq (h : CondOnly s t) : t.straps = s.straps := by
  obtain ⟨_, _, rfl⟩ := h; rfl
theorem CondOnly.config_eq (h : CondOnly s t) : t.config = s.config := by
  obtain ⟨_, _, rfl⟩ := h; rfl
theorem CondOnly.checksum_eq (h : CondOnly s t) : t.checksum = s.checksum := by
  obtain ⟨_, _, rfl⟩ := h; rfl
theorem CondOnly.seq_eq (h : CondOnly s t) : t.seq = s.seq := by
  obtain ⟨_, _, rfl⟩ := h; rfl
theorem CondOnly.scanTimer_eq (h : CondOnly s t) : t.scanTimer = s.scanTimer := by
  obtain ⟨_, _, rfl⟩ := h; rfl
theorem CondOnly.sampleTimer_eq (h : CondOnly s t) : t.sampleTimer = s.sampleTimer := by
  obtain ⟨_, _, rfl⟩ := h; rfl
theorem CondOnly.windowTimer_eq (h : CondOnly s t) : t.windowTimer = s.windowTimer := by
  obtain ⟨_, _, rfl⟩ := h; rfl
theorem CondOnly.zones_eq (h : CondOnly s t) : t.zones = s.zones := by
  obtain ⟨_, _, rfl⟩ := h; rfl
theorem CondOnly.doors_eq (h : CondOnly s t) : t.doors = s.doors := by
  obtain ⟨_, _, rfl⟩ := h; rfl
theorem CondOnly.keys_eq (h : CondOnly s t) : t.keys = s.keys := by
  obtain ⟨_, _, rfl⟩ := h; rfl
theorem CondOnly.stages_eq (h : CondOnly s t) : t.stages = s.stages := by
  obtain ⟨_, _, rfl⟩ := h; rfl
theorem CondOnly.queue_eq (h : CondOnly s t) : t.queue = s.queue := by
  obtain ⟨_, _, rfl⟩ := h; rfl
theorem CondOnly.pacing_eq (h : CondOnly s t) : t.pacing = s.pacing := by
  obtain ⟨_, _, rfl⟩ := h; rfl
theorem CondOnly.attemptDue_eq (h : CondOnly s t) : t.attemptDue = s.attemptDue := by
  obtain ⟨_, _, rfl⟩ := h; rfl
theorem CondOnly.alloc_eq (h : CondOnly s t) : t.alloc = s.alloc := by
  obtain ⟨_, _, rfl⟩ := h; rfl
theorem CondOnly.view_eq (h : CondOnly s t) : t.view = s.view := by
  obtain ⟨_, _, rfl⟩ := h; rfl
theorem CondOnly.defrost_eq (h : CondOnly s t) : t.defrost = s.defrost := by
  obtain ⟨_, _, rfl⟩ := h; rfl
theorem CondOnly.word_eq (h : CondOnly s t) : t.word = s.word := by
  obtain ⟨_, _, rfl⟩ := h; rfl
theorem CondOnly.inUse_eq (h : CondOnly s t) : t.inUse = s.inUse := by
  obtain ⟨_, _, rfl⟩ := h; rfl
theorem CondOnly.fans_eq (h : CondOnly s t) : t.fans = s.fans := by
  obtain ⟨_, _, rfl⟩ := h; rfl
theorem CondOnly.damper_eq (h : CondOnly s t) : t.damper = s.damper := by
  obtain ⟨_, _, rfl⟩ := h; rfl
theorem CondOnly.cursor_eq (h : CondOnly s t) : t.cursor = s.cursor := by
  obtain ⟨_, _, rfl⟩ := h; rfl
theorem CondOnly.outputs_eq (h : CondOnly s t) : t.outputs = s.outputs := by
  obtain ⟨_, _, rfl⟩ := h; rfl

/-! ### StageOnly -/

/-- `t` differs from `s` in nothing but the stage table, the queue and the attempt owed. -/
def StageOnly (s t : State) : Prop :=
  ∃ (stages' : List Stage) (queue' : PerClass (List Nat)) (attemptDue' : Bool),
    t = { s with stages := stages', queue := queue', attemptDue := attemptDue' }

theorem StageOnly.refl (s : State) : StageOnly s s :=
  ⟨s.stages, s.queue, s.attemptDue, rfl⟩

theorem StageOnly.trans (h₁ : StageOnly s t) (h₂ : StageOnly t u) : StageOnly s u := by
  obtain ⟨_, _, _, rfl⟩ := h₁
  obtain ⟨_, _, _, rfl⟩ := h₂
  exact ⟨_, _, _, rfl⟩

theorem StageOnly.pending_eq (h : StageOnly s t) : t.pending = s.pending := by
  obtain ⟨_, _, _, rfl⟩ := h; rfl
theorem StageOnly.clock_eq (h : StageOnly s t) : t.clock = s.clock := by
  obtain ⟨_, _, _, rfl⟩ := h; rfl
theorem StageOnly.phase_eq (h : StageOnly s t) : t.phase = s.phase := by
  obtain ⟨_, _, _, rfl⟩ := h; rfl
theorem StageOnly.loadLimit_eq (h : StageOnly s t) : t.loadLimit = s.loadLimit := by
  obtain ⟨_, _, _, rfl⟩ := h; rfl
theorem StageOnly.straps_eq (h : StageOnly s t) : t.straps = s.straps := by
  obtain ⟨_, _, _, rfl⟩ := h; rfl
theorem StageOnly.config_eq (h : StageOnly s t) : t.config = s.config := by
  obtain ⟨_, _, _, rfl⟩ := h; rfl
theorem StageOnly.checksum_eq (h : StageOnly s t) : t.checksum = s.checksum := by
  obtain ⟨_, _, _, rfl⟩ := h; rfl
theorem StageOnly.seq_eq (h : StageOnly s t) : t.seq = s.seq := by
  obtain ⟨_, _, _, rfl⟩ := h; rfl
theorem StageOnly.scanTimer_eq (h : StageOnly s t) : t.scanTimer = s.scanTimer := by
  obtain ⟨_, _, _, rfl⟩ := h; rfl
theorem StageOnly.sampleTimer_eq (h : StageOnly s t) : t.sampleTimer = s.sampleTimer := by
  obtain ⟨_, _, _, rfl⟩ := h; rfl
theorem StageOnly.windowTimer_eq (h : StageOnly s t) : t.windowTimer = s.windowTimer := by
  obtain ⟨_, _, _, rfl⟩ := h; rfl
theorem StageOnly.zones_eq (h : StageOnly s t) : t.zones = s.zones := by
  obtain ⟨_, _, _, rfl⟩ := h; rfl
theorem StageOnly.doors_eq (h : StageOnly s t) : t.doors = s.doors := by
  obtain ⟨_, _, _, rfl⟩ := h; rfl
theorem StageOnly.keys_eq (h : StageOnly s t) : t.keys = s.keys := by
  obtain ⟨_, _, _, rfl⟩ := h; rfl
theorem StageOnly.pacing_eq (h : StageOnly s t) : t.pacing = s.pacing := by
  obtain ⟨_, _, _, rfl⟩ := h; rfl
theorem StageOnly.alloc_eq (h : StageOnly s t) : t.alloc = s.alloc := by
  obtain ⟨_, _, _, rfl⟩ := h; rfl
theorem StageOnly.view_eq (h : StageOnly s t) : t.view = s.view := by
  obtain ⟨_, _, _, rfl⟩ := h; rfl
theorem StageOnly.link_eq (h : StageOnly s t) : t.link = s.link := by
  obtain ⟨_, _, _, rfl⟩ := h; rfl
theorem StageOnly.defrost_eq (h : StageOnly s t) : t.defrost = s.defrost := by
  obtain ⟨_, _, _, rfl⟩ := h; rfl
theorem StageOnly.word_eq (h : StageOnly s t) : t.word = s.word := by
  obtain ⟨_, _, _, rfl⟩ := h; rfl
theorem StageOnly.inUse_eq (h : StageOnly s t) : t.inUse = s.inUse := by
  obtain ⟨_, _, _, rfl⟩ := h; rfl
theorem StageOnly.fans_eq (h : StageOnly s t) : t.fans = s.fans := by
  obtain ⟨_, _, _, rfl⟩ := h; rfl
theorem StageOnly.damper_eq (h : StageOnly s t) : t.damper = s.damper := by
  obtain ⟨_, _, _, rfl⟩ := h; rfl
theorem StageOnly.cond_eq (h : StageOnly s t) : t.cond = s.cond := by
  obtain ⟨_, _, _, rfl⟩ := h; rfl
theorem StageOnly.cursor_eq (h : StageOnly s t) : t.cursor = s.cursor := by
  obtain ⟨_, _, _, rfl⟩ := h; rfl
theorem StageOnly.outputs_eq (h : StageOnly s t) : t.outputs = s.outputs := by
  obtain ⟨_, _, _, rfl⟩ := h; rfl

/-! ### AdmitOnly -/

/-- `t` differs from `s` in nothing but what an admission attempt writes and the draw noted before it. -/
def AdmitOnly (s t : State) : Prop :=
  ∃ (stages' : List Stage) (queue' : PerClass (List Nat)) (attemptDue' : Bool) (pacing' : Timer) (seq' : BitVec 16) (view' : View) (link' : Link),
    t = { s with stages := stages', queue := queue', attemptDue := attemptDue', pacing := pacing', seq := seq', view := view', link := link' }

theorem AdmitOnly.refl (s : State) : AdmitOnly s s :=
  ⟨s.stages, s.queue, s.attemptDue, s.pacing, s.seq, s.view, s.link, rfl⟩

theorem AdmitOnly.trans (h₁ : AdmitOnly s t) (h₂ : AdmitOnly t u) : AdmitOnly s u := by
  obtain ⟨_, _, _, _, _, _, _, rfl⟩ := h₁
  obtain ⟨_, _, _, _, _, _, _, rfl⟩ := h₂
  exact ⟨_, _, _, _, _, _, _, rfl⟩

theorem AdmitOnly.pending_eq (h : AdmitOnly s t) : t.pending = s.pending := by
  obtain ⟨_, _, _, _, _, _, _, rfl⟩ := h; rfl
theorem AdmitOnly.clock_eq (h : AdmitOnly s t) : t.clock = s.clock := by
  obtain ⟨_, _, _, _, _, _, _, rfl⟩ := h; rfl
theorem AdmitOnly.phase_eq (h : AdmitOnly s t) : t.phase = s.phase := by
  obtain ⟨_, _, _, _, _, _, _, rfl⟩ := h; rfl
theorem AdmitOnly.loadLimit_eq (h : AdmitOnly s t) : t.loadLimit = s.loadLimit := by
  obtain ⟨_, _, _, _, _, _, _, rfl⟩ := h; rfl
theorem AdmitOnly.straps_eq (h : AdmitOnly s t) : t.straps = s.straps := by
  obtain ⟨_, _, _, _, _, _, _, rfl⟩ := h; rfl
theorem AdmitOnly.config_eq (h : AdmitOnly s t) : t.config = s.config := by
  obtain ⟨_, _, _, _, _, _, _, rfl⟩ := h; rfl
theorem AdmitOnly.checksum_eq (h : AdmitOnly s t) : t.checksum = s.checksum := by
  obtain ⟨_, _, _, _, _, _, _, rfl⟩ := h; rfl
theorem AdmitOnly.scanTimer_eq (h : AdmitOnly s t) : t.scanTimer = s.scanTimer := by
  obtain ⟨_, _, _, _, _, _, _, rfl⟩ := h; rfl
theorem AdmitOnly.sampleTimer_eq (h : AdmitOnly s t) : t.sampleTimer = s.sampleTimer := by
  obtain ⟨_, _, _, _, _, _, _, rfl⟩ := h; rfl
theorem AdmitOnly.windowTimer_eq (h : AdmitOnly s t) : t.windowTimer = s.windowTimer := by
  obtain ⟨_, _, _, _, _, _, _, rfl⟩ := h; rfl
theorem AdmitOnly.zones_eq (h : AdmitOnly s t) : t.zones = s.zones := by
  obtain ⟨_, _, _, _, _, _, _, rfl⟩ := h; rfl
theorem AdmitOnly.doors_eq (h : AdmitOnly s t) : t.doors = s.doors := by
  obtain ⟨_, _, _, _, _, _, _, rfl⟩ := h; rfl
theorem AdmitOnly.keys_eq (h : AdmitOnly s t) : t.keys = s.keys := by
  obtain ⟨_, _, _, _, _, _, _, rfl⟩ := h; rfl
theorem AdmitOnly.alloc_eq (h : AdmitOnly s t) : t.alloc = s.alloc := by
  obtain ⟨_, _, _, _, _, _, _, rfl⟩ := h; rfl
theorem AdmitOnly.defrost_eq (h : AdmitOnly s t) : t.defrost = s.defrost := by
  obtain ⟨_, _, _, _, _, _, _, rfl⟩ := h; rfl
theorem AdmitOnly.word_eq (h : AdmitOnly s t) : t.word = s.word := by
  obtain ⟨_, _, _, _, _, _, _, rfl⟩ := h; rfl
theorem AdmitOnly.inUse_eq (h : AdmitOnly s t) : t.inUse = s.inUse := by
  obtain ⟨_, _, _, _, _, _, _, rfl⟩ := h; rfl
theorem AdmitOnly.fans_eq (h : AdmitOnly s t) : t.fans = s.fans := by
  obtain ⟨_, _, _, _, _, _, _, rfl⟩ := h; rfl
theorem AdmitOnly.damper_eq (h : AdmitOnly s t) : t.damper = s.damper := by
  obtain ⟨_, _, _, _, _, _, _, rfl⟩ := h; rfl
theorem AdmitOnly.cond_eq (h : AdmitOnly s t) : t.cond = s.cond := by
  obtain ⟨_, _, _, _, _, _, _, rfl⟩ := h; rfl
theorem AdmitOnly.cursor_eq (h : AdmitOnly s t) : t.cursor = s.cursor := by
  obtain ⟨_, _, _, _, _, _, _, rfl⟩ := h; rfl
theorem AdmitOnly.outputs_eq (h : AdmitOnly s t) : t.outputs = s.outputs := by
  obtain ⟨_, _, _, _, _, _, _, rfl⟩ := h; rfl

/-! ### FanOnly -/

/-- `t` differs from `s` in nothing but the fans and what follows a fan. -/
def FanOnly (s t : State) : Prop :=
  ∃ (stages' : List Stage) (queue' : PerClass (List Nat)) (attemptDue' : Bool) (fans' : List Blower) (link' : Link) (cond' : CondRecord),
    t = { s with stages := stages', queue := queue', attemptDue := attemptDue', fans := fans', link := link', cond := cond' }

theorem FanOnly.refl (s : State) : FanOnly s s :=
  ⟨s.stages, s.queue, s.attemptDue, s.fans, s.link, s.cond, rfl⟩

theorem FanOnly.trans (h₁ : FanOnly s t) (h₂ : FanOnly t u) : FanOnly s u := by
  obtain ⟨_, _, _, _, _, _, rfl⟩ := h₁
  obtain ⟨_, _, _, _, _, _, rfl⟩ := h₂
  exact ⟨_, _, _, _, _, _, rfl⟩

theorem FanOnly.pending_eq (h : FanOnly s t) : t.pending = s.pending := by
  obtain ⟨_, _, _, _, _, _, rfl⟩ := h; rfl
theorem FanOnly.clock_eq (h : FanOnly s t) : t.clock = s.clock := by
  obtain ⟨_, _, _, _, _, _, rfl⟩ := h; rfl
theorem FanOnly.phase_eq (h : FanOnly s t) : t.phase = s.phase := by
  obtain ⟨_, _, _, _, _, _, rfl⟩ := h; rfl
theorem FanOnly.loadLimit_eq (h : FanOnly s t) : t.loadLimit = s.loadLimit := by
  obtain ⟨_, _, _, _, _, _, rfl⟩ := h; rfl
theorem FanOnly.straps_eq (h : FanOnly s t) : t.straps = s.straps := by
  obtain ⟨_, _, _, _, _, _, rfl⟩ := h; rfl
theorem FanOnly.config_eq (h : FanOnly s t) : t.config = s.config := by
  obtain ⟨_, _, _, _, _, _, rfl⟩ := h; rfl
theorem FanOnly.checksum_eq (h : FanOnly s t) : t.checksum = s.checksum := by
  obtain ⟨_, _, _, _, _, _, rfl⟩ := h; rfl
theorem FanOnly.seq_eq (h : FanOnly s t) : t.seq = s.seq := by
  obtain ⟨_, _, _, _, _, _, rfl⟩ := h; rfl
theorem FanOnly.scanTimer_eq (h : FanOnly s t) : t.scanTimer = s.scanTimer := by
  obtain ⟨_, _, _, _, _, _, rfl⟩ := h; rfl
theorem FanOnly.sampleTimer_eq (h : FanOnly s t) : t.sampleTimer = s.sampleTimer := by
  obtain ⟨_, _, _, _, _, _, rfl⟩ := h; rfl
theorem FanOnly.windowTimer_eq (h : FanOnly s t) : t.windowTimer = s.windowTimer := by
  obtain ⟨_, _, _, _, _, _, rfl⟩ := h; rfl
theorem FanOnly.zones_eq (h : FanOnly s t) : t.zones = s.zones := by
  obtain ⟨_, _, _, _, _, _, rfl⟩ := h; rfl
theorem FanOnly.doors_eq (h : FanOnly s t) : t.doors = s.doors := by
  obtain ⟨_, _, _, _, _, _, rfl⟩ := h; rfl
theorem FanOnly.keys_eq (h : FanOnly s t) : t.keys = s.keys := by
  obtain ⟨_, _, _, _, _, _, rfl⟩ := h; rfl
theorem FanOnly.pacing_eq (h : FanOnly s t) : t.pacing = s.pacing := by
  obtain ⟨_, _, _, _, _, _, rfl⟩ := h; rfl
theorem FanOnly.alloc_eq (h : FanOnly s t) : t.alloc = s.alloc := by
  obtain ⟨_, _, _, _, _, _, rfl⟩ := h; rfl
theorem FanOnly.view_eq (h : FanOnly s t) : t.view = s.view := by
  obtain ⟨_, _, _, _, _, _, rfl⟩ := h; rfl
theorem FanOnly.defrost_eq (h : FanOnly s t) : t.defrost = s.defrost := by
  obtain ⟨_, _, _, _, _, _, rfl⟩ := h; rfl
theorem FanOnly.word_eq (h : FanOnly s t) : t.word = s.word := by
  obtain ⟨_, _, _, _, _, _, rfl⟩ := h; rfl
theorem FanOnly.inUse_eq (h : FanOnly s t) : t.inUse = s.inUse := by
  obtain ⟨_, _, _, _, _, _, rfl⟩ := h; rfl
theorem FanOnly.damper_eq (h : FanOnly s t) : t.damper = s.damper := by
  obtain ⟨_, _, _, _, _, _, rfl⟩ := h; rfl
theorem FanOnly.cursor_eq (h : FanOnly s t) : t.cursor = s.cursor := by
  obtain ⟨_, _, _, _, _, _, rfl⟩ := h; rfl
theorem FanOnly.outputs_eq (h : FanOnly s t) : t.outputs = s.outputs := by
  obtain ⟨_, _, _, _, _, _, rfl⟩ := h; rfl

/-! ### ShareOnly -/

/-- `t` differs from `s` in nothing but the allocator, the own entry and what a recomputation reaches. -/
def ShareOnly (s t : State) : Prop :=
  ∃ (stages' : List Stage) (queue' : PerClass (List Nat)) (attemptDue' : Bool) (alloc' : Alloc) (view' : View) (link' : Link) (cond' : CondRecord),
    t = { s with stages := stages', queue := queue', attemptDue := attemptDue', alloc := alloc', view := view', link := link', cond := cond' }

theorem ShareOnly.refl (s : State) : ShareOnly s s :=
  ⟨s.stages, s.queue, s.attemptDue, s.alloc, s.view, s.link, s.cond, rfl⟩

theorem ShareOnly.trans (h₁ : ShareOnly s t) (h₂ : ShareOnly t u) : ShareOnly s u := by
  obtain ⟨_, _, _, _, _, _, _, rfl⟩ := h₁
  obtain ⟨_, _, _, _, _, _, _, rfl⟩ := h₂
  exact ⟨_, _, _, _, _, _, _, rfl⟩

theorem ShareOnly.pending_eq (h : ShareOnly s t) : t.pending = s.pending := by
  obtain ⟨_, _, _, _, _, _, _, rfl⟩ := h; rfl
theorem ShareOnly.clock_eq (h : ShareOnly s t) : t.clock = s.clock := by
  obtain ⟨_, _, _, _, _, _, _, rfl⟩ := h; rfl
theorem ShareOnly.phase_eq (h : ShareOnly s t) : t.phase = s.phase := by
  obtain ⟨_, _, _, _, _, _, _, rfl⟩ := h; rfl
theorem ShareOnly.loadLimit_eq (h : ShareOnly s t) : t.loadLimit = s.loadLimit := by
  obtain ⟨_, _, _, _, _, _, _, rfl⟩ := h; rfl
theorem ShareOnly.straps_eq (h : ShareOnly s t) : t.straps = s.straps := by
  obtain ⟨_, _, _, _, _, _, _, rfl⟩ := h; rfl
theorem ShareOnly.config_eq (h : ShareOnly s t) : t.config = s.config := by
  obtain ⟨_, _, _, _, _, _, _, rfl⟩ := h; rfl
theorem ShareOnly.checksum_eq (h : ShareOnly s t) : t.checksum = s.checksum := by
  obtain ⟨_, _, _, _, _, _, _, rfl⟩ := h; rfl
theorem ShareOnly.seq_eq (h : ShareOnly s t) : t.seq = s.seq := by
  obtain ⟨_, _, _, _, _, _, _, rfl⟩ := h; rfl
theorem ShareOnly.scanTimer_eq (h : ShareOnly s t) : t.scanTimer = s.scanTimer := by
  obtain ⟨_, _, _, _, _, _, _, rfl⟩ := h; rfl
theorem ShareOnly.sampleTimer_eq (h : ShareOnly s t) : t.sampleTimer = s.sampleTimer := by
  obtain ⟨_, _, _, _, _, _, _, rfl⟩ := h; rfl
theorem ShareOnly.windowTimer_eq (h : ShareOnly s t) : t.windowTimer = s.windowTimer := by
  obtain ⟨_, _, _, _, _, _, _, rfl⟩ := h; rfl
theorem ShareOnly.zones_eq (h : ShareOnly s t) : t.zones = s.zones := by
  obtain ⟨_, _, _, _, _, _, _, rfl⟩ := h; rfl
theorem ShareOnly.doors_eq (h : ShareOnly s t) : t.doors = s.doors := by
  obtain ⟨_, _, _, _, _, _, _, rfl⟩ := h; rfl
theorem ShareOnly.keys_eq (h : ShareOnly s t) : t.keys = s.keys := by
  obtain ⟨_, _, _, _, _, _, _, rfl⟩ := h; rfl
theorem ShareOnly.pacing_eq (h : ShareOnly s t) : t.pacing = s.pacing := by
  obtain ⟨_, _, _, _, _, _, _, rfl⟩ := h; rfl
theorem ShareOnly.defrost_eq (h : ShareOnly s t) : t.defrost = s.defrost := by
  obtain ⟨_, _, _, _, _, _, _, rfl⟩ := h; rfl
theorem ShareOnly.word_eq (h : ShareOnly s t) : t.word = s.word := by
  obtain ⟨_, _, _, _, _, _, _, rfl⟩ := h; rfl
theorem ShareOnly.inUse_eq (h : ShareOnly s t) : t.inUse = s.inUse := by
  obtain ⟨_, _, _, _, _, _, _, rfl⟩ := h; rfl
theorem ShareOnly.fans_eq (h : ShareOnly s t) : t.fans = s.fans := by
  obtain ⟨_, _, _, _, _, _, _, rfl⟩ := h; rfl
theorem ShareOnly.damper_eq (h : ShareOnly s t) : t.damper = s.damper := by
  obtain ⟨_, _, _, _, _, _, _, rfl⟩ := h; rfl
theorem ShareOnly.cursor_eq (h : ShareOnly s t) : t.cursor = s.cursor := by
  obtain ⟨_, _, _, _, _, _, _, rfl⟩ := h; rfl
theorem ShareOnly.outputs_eq (h : ShareOnly s t) : t.outputs = s.outputs := by
  obtain ⟨_, _, _, _, _, _, _, rfl⟩ := h; rfl

/-! ### HandOnly -/

/-- `t` differs from `s` in nothing but what a hand-off to stages, fans and claims reaches. -/
def HandOnly (s t : State) : Prop :=
  ∃ (stages' : List Stage) (queue' : PerClass (List Nat)) (attemptDue' : Bool) (alloc' : Alloc) (view' : View) (link' : Link) (cond' : CondRecord) (fans' : List Blower),
    t = { s with stages := stages', queue := queue', attemptDue := attemptDue', alloc := alloc', view := view', link := link', cond := cond', fans := fans' }

theorem HandOnly.refl (s : State) : HandOnly s s :=
  ⟨s.stages, s.queue, s.attemptDue, s.alloc, s.view, s.link, s.cond, s.fans, rfl⟩

theorem HandOnly.trans (h₁ : HandOnly s t) (h₂ : HandOnly t u) : HandOnly s u := by
  obtain ⟨_, _, _, _, _, _, _, _, rfl⟩ := h₁
  obtain ⟨_, _, _, _, _, _, _, _, rfl⟩ := h₂
  exact ⟨_, _, _, _, _, _, _, _, rfl⟩

theorem HandOnly.pending_eq (h : HandOnly s t) : t.pending = s.pending := by
  obtain ⟨_, _, _, _, _, _, _, _, rfl⟩ := h; rfl
theorem HandOnly.clock_eq (h : HandOnly s t) : t.clock = s.clock := by
  obtain ⟨_, _, _, _, _, _, _, _, rfl⟩ := h; rfl
theorem HandOnly.phase_eq (h : HandOnly s t) : t.phase = s.phase := by
  obtain ⟨_, _, _, _, _, _, _, _, rfl⟩ := h; rfl
theorem HandOnly.loadLimit_eq (h : HandOnly s t) : t.loadLimit = s.loadLimit := by
  obtain ⟨_, _, _, _, _, _, _, _, rfl⟩ := h; rfl
theorem HandOnly.straps_eq (h : HandOnly s t) : t.straps = s.straps := by
  obtain ⟨_, _, _, _, _, _, _, _, rfl⟩ := h; rfl
theorem HandOnly.config_eq (h : HandOnly s t) : t.config = s.config := by
  obtain ⟨_, _, _, _, _, _, _, _, rfl⟩ := h; rfl
theorem HandOnly.checksum_eq (h : HandOnly s t) : t.checksum = s.checksum := by
  obtain ⟨_, _, _, _, _, _, _, _, rfl⟩ := h; rfl
theorem HandOnly.seq_eq (h : HandOnly s t) : t.seq = s.seq := by
  obtain ⟨_, _, _, _, _, _, _, _, rfl⟩ := h; rfl
theorem HandOnly.scanTimer_eq (h : HandOnly s t) : t.scanTimer = s.scanTimer := by
  obtain ⟨_, _, _, _, _, _, _, _, rfl⟩ := h; rfl
theorem HandOnly.sampleTimer_eq (h : HandOnly s t) : t.sampleTimer = s.sampleTimer := by
  obtain ⟨_, _, _, _, _, _, _, _, rfl⟩ := h; rfl
theorem HandOnly.windowTimer_eq (h : HandOnly s t) : t.windowTimer = s.windowTimer := by
  obtain ⟨_, _, _, _, _, _, _, _, rfl⟩ := h; rfl
theorem HandOnly.zones_eq (h : HandOnly s t) : t.zones = s.zones := by
  obtain ⟨_, _, _, _, _, _, _, _, rfl⟩ := h; rfl
theorem HandOnly.doors_eq (h : HandOnly s t) : t.doors = s.doors := by
  obtain ⟨_, _, _, _, _, _, _, _, rfl⟩ := h; rfl
theorem HandOnly.keys_eq (h : HandOnly s t) : t.keys = s.keys := by
  obtain ⟨_, _, _, _, _, _, _, _, rfl⟩ := h; rfl
theorem HandOnly.pacing_eq (h : HandOnly s t) : t.pacing = s.pacing := by
  obtain ⟨_, _, _, _, _, _, _, _, rfl⟩ := h; rfl
theorem HandOnly.defrost_eq (h : HandOnly s t) : t.defrost = s.defrost := by
  obtain ⟨_, _, _, _, _, _, _, _, rfl⟩ := h; rfl
theorem HandOnly.word_eq (h : HandOnly s t) : t.word = s.word := by
  obtain ⟨_, _, _, _, _, _, _, _, rfl⟩ := h; rfl
theorem HandOnly.inUse_eq (h : HandOnly s t) : t.inUse = s.inUse := by
  obtain ⟨_, _, _, _, _, _, _, _, rfl⟩ := h; rfl
theorem HandOnly.damper_eq (h : HandOnly s t) : t.damper = s.damper := by
  obtain ⟨_, _, _, _, _, _, _, _, rfl⟩ := h; rfl
theorem HandOnly.cursor_eq (h : HandOnly s t) : t.cursor = s.cursor := by
  obtain ⟨_, _, _, _, _, _, _, _, rfl⟩ := h; rfl
theorem HandOnly.outputs_eq (h : HandOnly s t) : t.outputs = s.outputs := by
  obtain ⟨_, _, _, _, _, _, _, _, rfl⟩ := h; rfl

/-! ### DamperOnly -/

/-- `t` differs from `s` in nothing but the damper. -/
def DamperOnly (s t : State) : Prop :=
  ∃ (damper' : Damper),
    t = { s with damper := damper' }

theorem DamperOnly.refl (s : State) : DamperOnly s s :=
  ⟨s.damper, rfl⟩

theorem DamperOnly.trans (h₁ : DamperOnly s t) (h₂ : DamperOnly t u) : DamperOnly s u := by
  obtain ⟨_, rfl⟩ := h₁
  obtain ⟨_, rfl⟩ := h₂
  exact ⟨_, rfl⟩

theorem DamperOnly.pending_eq (h : DamperOnly s t) : t.pending = s.pending := by
  obtain ⟨_, rfl⟩ := h; rfl
theorem DamperOnly.clock_eq (h : DamperOnly s t) : t.clock = s.clock := by
  obtain ⟨_, rfl⟩ := h; rfl
theorem DamperOnly.phase_eq (h : DamperOnly s t) : t.phase = s.phase := by
  obtain ⟨_, rfl⟩ := h; rfl
theorem DamperOnly.loadLimit_eq (h : DamperOnly s t) : t.loadLimit = s.loadLimit := by
  obtain ⟨_, rfl⟩ := h; rfl
theorem DamperOnly.straps_eq (h : DamperOnly s t) : t.straps = s.straps := by
  obtain ⟨_, rfl⟩ := h; rfl
theorem DamperOnly.config_eq (h : DamperOnly s t) : t.config = s.config := by
  obtain ⟨_, rfl⟩ := h; rfl
theorem DamperOnly.checksum_eq (h : DamperOnly s t) : t.checksum = s.checksum := by
  obtain ⟨_, rfl⟩ := h; rfl
theorem DamperOnly.seq_eq (h : DamperOnly s t) : t.seq = s.seq := by
  obtain ⟨_, rfl⟩ := h; rfl
theorem DamperOnly.scanTimer_eq (h : DamperOnly s t) : t.scanTimer = s.scanTimer := by
  obtain ⟨_, rfl⟩ := h; rfl
theorem DamperOnly.sampleTimer_eq (h : DamperOnly s t) : t.sampleTimer = s.sampleTimer := by
  obtain ⟨_, rfl⟩ := h; rfl
theorem DamperOnly.windowTimer_eq (h : DamperOnly s t) : t.windowTimer = s.windowTimer := by
  obtain ⟨_, rfl⟩ := h; rfl
theorem DamperOnly.zones_eq (h : DamperOnly s t) : t.zones = s.zones := by
  obtain ⟨_, rfl⟩ := h; rfl
theorem DamperOnly.doors_eq (h : DamperOnly s t) : t.doors = s.doors := by
  obtain ⟨_, rfl⟩ := h; rfl
theorem DamperOnly.keys_eq (h : DamperOnly s t) : t.keys = s.keys := by
  obtain ⟨_, rfl⟩ := h; rfl
theorem DamperOnly.stages_eq (h : DamperOnly s t) : t.stages = s.stages := by
  obtain ⟨_, rfl⟩ := h; rfl
theorem DamperOnly.queue_eq (h : DamperOnly s t) : t.queue = s.queue := by
  obtain ⟨_, rfl⟩ := h; rfl
theorem DamperOnly.pacing_eq (h : DamperOnly s t) : t.pacing = s.pacing := by
  obtain ⟨_, rfl⟩ := h; rfl
theorem DamperOnly.attemptDue_eq (h : DamperOnly s t) : t.attemptDue = s.attemptDue := by
  obtain ⟨_, rfl⟩ := h; rfl
theorem DamperOnly.alloc_eq (h : DamperOnly s t) : t.alloc = s.alloc := by
  obtain ⟨_, rfl⟩ := h; rfl
theorem DamperOnly.view_eq (h : DamperOnly s t) : t.view = s.view := by
  obtain ⟨_, rfl⟩ := h; rfl
theorem DamperOnly.link_eq (h : DamperOnly s t) : t.link = s.link := by
  obtain ⟨_, rfl⟩ := h; rfl
theorem DamperOnly.defrost_eq (h : DamperOnly s t) : t.defrost = s.defrost := by
  obtain ⟨_, rfl⟩ := h; rfl
theorem DamperOnly.word_eq (h : DamperOnly s t) : t.word = s.word := by
  obtain ⟨_, rfl⟩ := h; rfl
theorem DamperOnly.inUse_eq (h : DamperOnly s t) : t.inUse = s.inUse := by
  obtain ⟨_, rfl⟩ := h; rfl
theorem DamperOnly.fans_eq (h : DamperOnly s t) : t.fans = s.fans := by
  obtain ⟨_, rfl⟩ := h; rfl
theorem DamperOnly.cond_eq (h : DamperOnly s t) : t.cond = s.cond := by
  obtain ⟨_, rfl⟩ := h; rfl
theorem DamperOnly.cursor_eq (h : DamperOnly s t) : t.cursor = s.cursor := by
  obtain ⟨_, rfl⟩ := h; rfl
theorem DamperOnly.outputs_eq (h : DamperOnly s t) : t.outputs = s.outputs := by
  obtain ⟨_, rfl⟩ := h; rfl

/-! ### AdoptOnly -/

/-- `t` differs from `s` in nothing but what the adoption of an override state reaches. -/
def AdoptOnly (s t : State) : Prop :=
  ∃ (stages' : List Stage) (queue' : PerClass (List Nat)) (attemptDue' : Bool) (alloc' : Alloc) (view' : View) (link' : Link) (cond' : CondRecord) (fans' : List Blower) (zones' : List Zone) (doors' : List Door) (damper' : Damper),
    t = { s with stages := stages', queue := queue', attemptDue := attemptDue', alloc := alloc', view := view', link := link', cond := cond', fans := fans', zones := zones', doors := doors', damper := damper' }

theorem AdoptOnly.refl (s : State) : AdoptOnly s s :=
  ⟨s.stages, s.queue, s.attemptDue, s.alloc, s.view, s.link, s.cond, s.fans, s.zones, s.doors, s.damper, rfl⟩

theorem AdoptOnly.trans (h₁ : AdoptOnly s t) (h₂ : AdoptOnly t u) : AdoptOnly s u := by
  obtain ⟨_, _, _, _, _, _, _, _, _, _, _, rfl⟩ := h₁
  obtain ⟨_, _, _, _, _, _, _, _, _, _, _, rfl⟩ := h₂
  exact ⟨_, _, _, _, _, _, _, _, _, _, _, rfl⟩

theorem AdoptOnly.pending_eq (h : AdoptOnly s t) : t.pending = s.pending := by
  obtain ⟨_, _, _, _, _, _, _, _, _, _, _, rfl⟩ := h; rfl
theorem AdoptOnly.clock_eq (h : AdoptOnly s t) : t.clock = s.clock := by
  obtain ⟨_, _, _, _, _, _, _, _, _, _, _, rfl⟩ := h; rfl
theorem AdoptOnly.phase_eq (h : AdoptOnly s t) : t.phase = s.phase := by
  obtain ⟨_, _, _, _, _, _, _, _, _, _, _, rfl⟩ := h; rfl
theorem AdoptOnly.loadLimit_eq (h : AdoptOnly s t) : t.loadLimit = s.loadLimit := by
  obtain ⟨_, _, _, _, _, _, _, _, _, _, _, rfl⟩ := h; rfl
theorem AdoptOnly.straps_eq (h : AdoptOnly s t) : t.straps = s.straps := by
  obtain ⟨_, _, _, _, _, _, _, _, _, _, _, rfl⟩ := h; rfl
theorem AdoptOnly.config_eq (h : AdoptOnly s t) : t.config = s.config := by
  obtain ⟨_, _, _, _, _, _, _, _, _, _, _, rfl⟩ := h; rfl
theorem AdoptOnly.checksum_eq (h : AdoptOnly s t) : t.checksum = s.checksum := by
  obtain ⟨_, _, _, _, _, _, _, _, _, _, _, rfl⟩ := h; rfl
theorem AdoptOnly.seq_eq (h : AdoptOnly s t) : t.seq = s.seq := by
  obtain ⟨_, _, _, _, _, _, _, _, _, _, _, rfl⟩ := h; rfl
theorem AdoptOnly.scanTimer_eq (h : AdoptOnly s t) : t.scanTimer = s.scanTimer := by
  obtain ⟨_, _, _, _, _, _, _, _, _, _, _, rfl⟩ := h; rfl
theorem AdoptOnly.sampleTimer_eq (h : AdoptOnly s t) : t.sampleTimer = s.sampleTimer := by
  obtain ⟨_, _, _, _, _, _, _, _, _, _, _, rfl⟩ := h; rfl
theorem AdoptOnly.windowTimer_eq (h : AdoptOnly s t) : t.windowTimer = s.windowTimer := by
  obtain ⟨_, _, _, _, _, _, _, _, _, _, _, rfl⟩ := h; rfl
theorem AdoptOnly.keys_eq (h : AdoptOnly s t) : t.keys = s.keys := by
  obtain ⟨_, _, _, _, _, _, _, _, _, _, _, rfl⟩ := h; rfl
theorem AdoptOnly.pacing_eq (h : AdoptOnly s t) : t.pacing = s.pacing := by
  obtain ⟨_, _, _, _, _, _, _, _, _, _, _, rfl⟩ := h; rfl
theorem AdoptOnly.defrost_eq (h : AdoptOnly s t) : t.defrost = s.defrost := by
  obtain ⟨_, _, _, _, _, _, _, _, _, _, _, rfl⟩ := h; rfl
theorem AdoptOnly.word_eq (h : AdoptOnly s t) : t.word = s.word := by
  obtain ⟨_, _, _, _, _, _, _, _, _, _, _, rfl⟩ := h; rfl
theorem AdoptOnly.inUse_eq (h : AdoptOnly s t) : t.inUse = s.inUse := by
  obtain ⟨_, _, _, _, _, _, _, _, _, _, _, rfl⟩ := h; rfl
theorem AdoptOnly.cursor_eq (h : AdoptOnly s t) : t.cursor = s.cursor := by
  obtain ⟨_, _, _, _, _, _, _, _, _, _, _, rfl⟩ := h; rfl
theorem AdoptOnly.outputs_eq (h : AdoptOnly s t) : t.outputs = s.outputs := by
  obtain ⟨_, _, _, _, _, _, _, _, _, _, _, rfl⟩ := h; rfl

/-! ### UseOnly -/

/-- `t` differs from `s` in nothing but the state in use and what its adoption reaches. -/
def UseOnly (s t : State) : Prop :=
  ∃ (stages' : List Stage) (queue' : PerClass (List Nat)) (attemptDue' : Bool) (alloc' : Alloc) (view' : View) (link' : Link) (cond' : CondRecord) (fans' : List Blower) (zones' : List Zone) (doors' : List Door) (damper' : Damper) (inUse' : InUse),
    t = { s with stages := stages', queue := queue', attemptDue := attemptDue', alloc := alloc', view := view', link := link', cond := cond', fans := fans', zones := zones', doors := doors', damper := damper', inUse := inUse' }

theorem UseOnly.refl (s : State) : UseOnly s s :=
  ⟨s.stages, s.queue, s.attemptDue, s.alloc, s.view, s.link, s.cond, s.fans, s.zones, s.doors, s.damper, s.inUse, rfl⟩

theorem UseOnly.trans (h₁ : UseOnly s t) (h₂ : UseOnly t u) : UseOnly s u := by
  obtain ⟨_, _, _, _, _, _, _, _, _, _, _, _, rfl⟩ := h₁
  obtain ⟨_, _, _, _, _, _, _, _, _, _, _, _, rfl⟩ := h₂
  exact ⟨_, _, _, _, _, _, _, _, _, _, _, _, rfl⟩

theorem UseOnly.pending_eq (h : UseOnly s t) : t.pending = s.pending := by
  obtain ⟨_, _, _, _, _, _, _, _, _, _, _, _, rfl⟩ := h; rfl
theorem UseOnly.clock_eq (h : UseOnly s t) : t.clock = s.clock := by
  obtain ⟨_, _, _, _, _, _, _, _, _, _, _, _, rfl⟩ := h; rfl
theorem UseOnly.phase_eq (h : UseOnly s t) : t.phase = s.phase := by
  obtain ⟨_, _, _, _, _, _, _, _, _, _, _, _, rfl⟩ := h; rfl
theorem UseOnly.loadLimit_eq (h : UseOnly s t) : t.loadLimit = s.loadLimit := by
  obtain ⟨_, _, _, _, _, _, _, _, _, _, _, _, rfl⟩ := h; rfl
theorem UseOnly.straps_eq (h : UseOnly s t) : t.straps = s.straps := by
  obtain ⟨_, _, _, _, _, _, _, _, _, _, _, _, rfl⟩ := h; rfl
theorem UseOnly.config_eq (h : UseOnly s t) : t.config = s.config := by
  obtain ⟨_, _, _, _, _, _, _, _, _, _, _, _, rfl⟩ := h; rfl
theorem UseOnly.checksum_eq (h : UseOnly s t) : t.checksum = s.checksum := by
  obtain ⟨_, _, _, _, _, _, _, _, _, _, _, _, rfl⟩ := h; rfl
theorem UseOnly.seq_eq (h : UseOnly s t) : t.seq = s.seq := by
  obtain ⟨_, _, _, _, _, _, _, _, _, _, _, _, rfl⟩ := h; rfl
theorem UseOnly.scanTimer_eq (h : UseOnly s t) : t.scanTimer = s.scanTimer := by
  obtain ⟨_, _, _, _, _, _, _, _, _, _, _, _, rfl⟩ := h; rfl
theorem UseOnly.sampleTimer_eq (h : UseOnly s t) : t.sampleTimer = s.sampleTimer := by
  obtain ⟨_, _, _, _, _, _, _, _, _, _, _, _, rfl⟩ := h; rfl
theorem UseOnly.windowTimer_eq (h : UseOnly s t) : t.windowTimer = s.windowTimer := by
  obtain ⟨_, _, _, _, _, _, _, _, _, _, _, _, rfl⟩ := h; rfl
theorem UseOnly.keys_eq (h : UseOnly s t) : t.keys = s.keys := by
  obtain ⟨_, _, _, _, _, _, _, _, _, _, _, _, rfl⟩ := h; rfl
theorem UseOnly.pacing_eq (h : UseOnly s t) : t.pacing = s.pacing := by
  obtain ⟨_, _, _, _, _, _, _, _, _, _, _, _, rfl⟩ := h; rfl
theorem UseOnly.defrost_eq (h : UseOnly s t) : t.defrost = s.defrost := by
  obtain ⟨_, _, _, _, _, _, _, _, _, _, _, _, rfl⟩ := h; rfl
theorem UseOnly.word_eq (h : UseOnly s t) : t.word = s.word := by
  obtain ⟨_, _, _, _, _, _, _, _, _, _, _, _, rfl⟩ := h; rfl
theorem UseOnly.cursor_eq (h : UseOnly s t) : t.cursor = s.cursor := by
  obtain ⟨_, _, _, _, _, _, _, _, _, _, _, _, rfl⟩ := h; rfl
theorem UseOnly.outputs_eq (h : UseOnly s t) : t.outputs = s.outputs := by
  obtain ⟨_, _, _, _, _, _, _, _, _, _, _, _, rfl⟩ := h; rfl

/-! ### WordOnly -/

/-- `t` differs from `s` in nothing but the override word and what its changes reach. -/
def WordOnly (s t : State) : Prop :=
  ∃ (stages' : List Stage) (queue' : PerClass (List Nat)) (attemptDue' : Bool) (alloc' : Alloc) (view' : View) (link' : Link) (cond' : CondRecord) (fans' : List Blower) (zones' : List Zone) (doors' : List Door) (damper' : Damper) (inUse' : InUse) (word' : Option OvrWord) (defrost' : Option Defrost),
    t = { s with stages := stages', queue := queue', attemptDue := attemptDue', alloc := alloc', view := view', link := link', cond := cond', fans := fans', zones := zones', doors := doors', damper := damper', inUse := inUse', word := word', defrost := defrost' }

theorem WordOnly.refl (s : State) : WordOnly s s :=
  ⟨s.stages, s.queue, s.attemptDue, s.alloc, s.view, s.link, s.cond, s.fans, s.zones, s.doors, s.damper, s.inUse, s.word, s.defrost, rfl⟩

theorem WordOnly.trans (h₁ : WordOnly s t) (h₂ : WordOnly t u) : WordOnly s u := by
  obtain ⟨_, _, _, _, _, _, _, _, _, _, _, _, _, _, rfl⟩ := h₁
  obtain ⟨_, _, _, _, _, _, _, _, _, _, _, _, _, _, rfl⟩ := h₂
  exact ⟨_, _, _, _, _, _, _, _, _, _, _, _, _, _, rfl⟩

theorem WordOnly.pending_eq (h : WordOnly s t) : t.pending = s.pending := by
  obtain ⟨_, _, _, _, _, _, _, _, _, _, _, _, _, _, rfl⟩ := h; rfl
theorem WordOnly.clock_eq (h : WordOnly s t) : t.clock = s.clock := by
  obtain ⟨_, _, _, _, _, _, _, _, _, _, _, _, _, _, rfl⟩ := h; rfl
theorem WordOnly.phase_eq (h : WordOnly s t) : t.phase = s.phase := by
  obtain ⟨_, _, _, _, _, _, _, _, _, _, _, _, _, _, rfl⟩ := h; rfl
theorem WordOnly.loadLimit_eq (h : WordOnly s t) : t.loadLimit = s.loadLimit := by
  obtain ⟨_, _, _, _, _, _, _, _, _, _, _, _, _, _, rfl⟩ := h; rfl
theorem WordOnly.straps_eq (h : WordOnly s t) : t.straps = s.straps := by
  obtain ⟨_, _, _, _, _, _, _, _, _, _, _, _, _, _, rfl⟩ := h; rfl
theorem WordOnly.config_eq (h : WordOnly s t) : t.config = s.config := by
  obtain ⟨_, _, _, _, _, _, _, _, _, _, _, _, _, _, rfl⟩ := h; rfl
theorem WordOnly.checksum_eq (h : WordOnly s t) : t.checksum = s.checksum := by
  obtain ⟨_, _, _, _, _, _, _, _, _, _, _, _, _, _, rfl⟩ := h; rfl
theorem WordOnly.seq_eq (h : WordOnly s t) : t.seq = s.seq := by
  obtain ⟨_, _, _, _, _, _, _, _, _, _, _, _, _, _, rfl⟩ := h; rfl
theorem WordOnly.scanTimer_eq (h : WordOnly s t) : t.scanTimer = s.scanTimer := by
  obtain ⟨_, _, _, _, _, _, _, _, _, _, _, _, _, _, rfl⟩ := h; rfl
theorem WordOnly.sampleTimer_eq (h : WordOnly s t) : t.sampleTimer = s.sampleTimer := by
  obtain ⟨_, _, _, _, _, _, _, _, _, _, _, _, _, _, rfl⟩ := h; rfl
theorem WordOnly.windowTimer_eq (h : WordOnly s t) : t.windowTimer = s.windowTimer := by
  obtain ⟨_, _, _, _, _, _, _, _, _, _, _, _, _, _, rfl⟩ := h; rfl
theorem WordOnly.keys_eq (h : WordOnly s t) : t.keys = s.keys := by
  obtain ⟨_, _, _, _, _, _, _, _, _, _, _, _, _, _, rfl⟩ := h; rfl
theorem WordOnly.pacing_eq (h : WordOnly s t) : t.pacing = s.pacing := by
  obtain ⟨_, _, _, _, _, _, _, _, _, _, _, _, _, _, rfl⟩ := h; rfl
theorem WordOnly.cursor_eq (h : WordOnly s t) : t.cursor = s.cursor := by
  obtain ⟨_, _, _, _, _, _, _, _, _, _, _, _, _, _, rfl⟩ := h; rfl
theorem WordOnly.outputs_eq (h : WordOnly s t) : t.outputs = s.outputs := by
  obtain ⟨_, _, _, _, _, _, _, _, _, _, _, _, _, _, rfl⟩ := h; rfl

/-! ### Inclusions -/

theorem LinkOnly.toCondOnly (h : LinkOnly s t) : CondOnly s t := by
  obtain ⟨_, rfl⟩ := h
  exact ⟨_, _, rfl⟩

theorem LinkOnly.toFanOnly (h : LinkOnly s t) : FanOnly s t := by
  obtain ⟨_, rfl⟩ := h
  exact ⟨_, _, _, _, _, _, rfl⟩

theorem LinkOnly.toShareOnly (h : LinkOnly s t) : ShareOnly s t := by
  obtain ⟨_, rfl⟩ := h
  exact ⟨_, _, _, _, _, _, _, rfl⟩

theorem LinkOnly.toHandOnly (h : LinkOnly s t) : HandOnly s t := by
  obtain ⟨_, rfl⟩ := h
  exact ⟨_, _, _, _, _, _, _, _, rfl⟩

theorem LinkOnly.toAdoptOnly (h : LinkOnly s t) : AdoptOnly s t := by
  obtain ⟨_, rfl⟩ := h
  exact ⟨_, _, _, _, _, _, _, _, _, _, _, rfl⟩

theorem LinkOnly.toUseOnly (h : LinkOnly s t) : UseOnly s t := by
  obtain ⟨_, rfl⟩ := h
  exact ⟨_, _, _, _, _, _, _, _, _, _, _, _, rfl⟩

theorem LinkOnly.toWordOnly (h : LinkOnly s t) : WordOnly s t := by
  obtain ⟨_, rfl⟩ := h
  exact ⟨_, _, _, _, _, _, _, _, _, _, _, _, _, _, rfl⟩

theorem CondOnly.toFanOnly (h : CondOnly s t) : FanOnly s t := by
  obtain ⟨_, _, rfl⟩ := h
  exact ⟨_, _, _, _, _, _, rfl⟩

theorem CondOnly.toShareOnly (h : CondOnly s t) : ShareOnly s t := by
  obtain ⟨_, _, rfl⟩ := h
  exact ⟨_, _, _, _, _, _, _, rfl⟩

theorem CondOnly.toHandOnly (h : CondOnly s t) : HandOnly s t := by
  obtain ⟨_, _, rfl⟩ := h
  exact ⟨_, _, _, _, _, _, _, _, rfl⟩

theorem CondOnly.toAdoptOnly (h : CondOnly s t) : AdoptOnly s t := by
  obtain ⟨_, _, rfl⟩ := h
  exact ⟨_, _, _, _, _, _, _, _, _, _, _, rfl⟩

theorem CondOnly.toUseOnly (h : CondOnly s t) : UseOnly s t := by
  obtain ⟨_, _, rfl⟩ := h
  exact ⟨_, _, _, _, _, _, _, _, _, _, _, _, rfl⟩

theorem CondOnly.toWordOnly (h : CondOnly s t) : WordOnly s t := by
  obtain ⟨_, _, rfl⟩ := h
  exact ⟨_, _, _, _, _, _, _, _, _, _, _, _, _, _, rfl⟩

theorem StageOnly.toAdmitOnly (h : StageOnly s t) : AdmitOnly s t := by
  obtain ⟨_, _, _, rfl⟩ := h
  exact ⟨_, _, _, _, _, _, _, rfl⟩

theorem StageOnly.toFanOnly (h : StageOnly s t) : FanOnly s t := by
  obtain ⟨_, _, _, rfl⟩ := h
  exact ⟨_, _, _, _, _, _, rfl⟩

theorem StageOnly.toShareOnly (h : StageOnly s t) : ShareOnly s t := by
  obtain ⟨_, _, _, rfl⟩ := h
  exact ⟨_, _, _, _, _, _, _, rfl⟩

theorem StageOnly.toHandOnly (h : StageOnly s t) : HandOnly s t := by
  obtain ⟨_, _, _, rfl⟩ := h
  exact ⟨_, _, _, _, _, _, _, _, rfl⟩

theorem StageOnly.toAdoptOnly (h : StageOnly s t) : AdoptOnly s t := by
  obtain ⟨_, _, _, rfl⟩ := h
  exact ⟨_, _, _, _, _, _, _, _, _, _, _, rfl⟩

theorem StageOnly.toUseOnly (h : StageOnly s t) : UseOnly s t := by
  obtain ⟨_, _, _, rfl⟩ := h
  exact ⟨_, _, _, _, _, _, _, _, _, _, _, _, rfl⟩

theorem StageOnly.toWordOnly (h : StageOnly s t) : WordOnly s t := by
  obtain ⟨_, _, _, rfl⟩ := h
  exact ⟨_, _, _, _, _, _, _, _, _, _, _, _, _, _, rfl⟩

theorem FanOnly.toHandOnly (h : FanOnly s t) : HandOnly s t := by
  obtain ⟨_, _, _, _, _, _, rfl⟩ := h
  exact ⟨_, _, _, _, _, _, _, _, rfl⟩

theorem FanOnly.toAdoptOnly (h : FanOnly s t) : AdoptOnly s t := by
  obtain ⟨_, _, _, _, _, _, rfl⟩ := h
  exact ⟨_, _, _, _, _, _, _, _, _, _, _, rfl⟩

theorem FanOnly.toUseOnly (h : FanOnly s t) : UseOnly s t := by
  obtain ⟨_, _, _, _, _, _, rfl⟩ := h
  exact ⟨_, _, _, _, _, _, _, _, _, _, _, _, rfl⟩

theorem FanOnly.toWordOnly (h : FanOnly s t) : WordOnly s t := by
  obtain ⟨_, _, _, _, _, _, rfl⟩ := h
  exact ⟨_, _, _, _, _, _, _, _, _, _, _, _, _, _, rfl⟩

theorem ShareOnly.toHandOnly (h : ShareOnly s t) : HandOnly s t := by
  obtain ⟨_, _, _, _, _, _, _, rfl⟩ := h
  exact ⟨_, _, _, _, _, _, _, _, rfl⟩

theorem ShareOnly.toAdoptOnly (h : ShareOnly s t) : AdoptOnly s t := by
  obtain ⟨_, _, _, _, _, _, _, rfl⟩ := h
  exact ⟨_, _, _, _, _, _, _, _, _, _, _, rfl⟩

theorem ShareOnly.toUseOnly (h : ShareOnly s t) : UseOnly s t := by
  obtain ⟨_, _, _, _, _, _, _, rfl⟩ := h
  exact ⟨_, _, _, _, _, _, _, _, _, _, _, _, rfl⟩

theorem ShareOnly.toWordOnly (h : ShareOnly s t) : WordOnly s t := by
  obtain ⟨_, _, _, _, _, _, _, rfl⟩ := h
  exact ⟨_, _, _, _, _, _, _, _, _, _, _, _, _, _, rfl⟩

theorem HandOnly.toAdoptOnly (h : HandOnly s t) : AdoptOnly s t := by
  obtain ⟨_, _, _, _, _, _, _, _, rfl⟩ := h
  exact ⟨_, _, _, _, _, _, _, _, _, _, _, rfl⟩

theorem HandOnly.toUseOnly (h : HandOnly s t) : UseOnly s t := by
  obtain ⟨_, _, _, _, _, _, _, _, rfl⟩ := h
  exact ⟨_, _, _, _, _, _, _, _, _, _, _, _, rfl⟩

theorem HandOnly.toWordOnly (h : HandOnly s t) : WordOnly s t := by
  obtain ⟨_, _, _, _, _, _, _, _, rfl⟩ := h
  exact ⟨_, _, _, _, _, _, _, _, _, _, _, _, _, _, rfl⟩

theorem DamperOnly.toAdoptOnly (h : DamperOnly s t) : AdoptOnly s t := by
  obtain ⟨_, rfl⟩ := h
  exact ⟨_, _, _, _, _, _, _, _, _, _, _, rfl⟩

theorem DamperOnly.toUseOnly (h : DamperOnly s t) : UseOnly s t := by
  obtain ⟨_, rfl⟩ := h
  exact ⟨_, _, _, _, _, _, _, _, _, _, _, _, rfl⟩

theorem DamperOnly.toWordOnly (h : DamperOnly s t) : WordOnly s t := by
  obtain ⟨_, rfl⟩ := h
  exact ⟨_, _, _, _, _, _, _, _, _, _, _, _, _, _, rfl⟩

theorem AdoptOnly.toUseOnly (h : AdoptOnly s t) : UseOnly s t := by
  obtain ⟨_, _, _, _, _, _, _, _, _, _, _, rfl⟩ := h
  exact ⟨_, _, _, _, _, _, _, _, _, _, _, _, rfl⟩

theorem AdoptOnly.toWordOnly (h : AdoptOnly s t) : WordOnly s t := by
  obtain ⟨_, _, _, _, _, _, _, _, _, _, _, rfl⟩ := h
  exact ⟨_, _, _, _, _, _, _, _, _, _, _, _, _, _, rfl⟩

theorem UseOnly.toWordOnly (h : UseOnly s t) : WordOnly s t := by
  obtain ⟨_, _, _, _, _, _, _, _, _, _, _, _, rfl⟩ := h
  exact ⟨_, _, _, _, _, _, _, _, _, _, _, _, _, _, rfl⟩

end Sys2Proof.Machine
end

