-- ==== Sys2Proof/Laws/Link.lean ====
section
/-! SUPPORT. The shared operations of the transmit list and the condition record: what each can do. -/

namespace Sys2Proof.Machine

/-! ### The transmit list changes the link controller's record only -/

theorem withList_only (s : State) (l : List TxEntry) : LinkOnly s (s.withList l) := ⟨_, rfl⟩

theorem joinList_only (f : Frame) (s : State) : LinkOnly s (joinList f s) := ⟨_, rfl⟩

theorem queueSingle_only (f : Frame) (s : State) : LinkOnly s (queueSingle f s) := by
  unfold queueSingle
  split
  · exact withList_only s _
  · exact joinList_only f s

theorem refreshList_only (s : State) : LinkOnly s (refreshList s) := withList_only s _

theorem demandDue_only (s : State) : LinkOnly s (demandDue s) := by
  unfold demandDue
  split
  · exact .refl s
  · split
    · exact .refl s
    · split
      · exact ⟨_, rfl⟩
      · exact joinList_only _ s

theorem withdrawOverride_only (s : State) : LinkOnly s (withdrawOverride s) := ⟨_, rfl⟩

theorem queueStatus_only (s : State) : LinkOnly s (queueStatus s) := by
  unfold queueStatus
  split
  · exact .refl s
  · exact queueSingle_only _ s

theorem startSpacing_only (f : Frame) (s : State) : LinkOnly s (startSpacing f s) := by
  unfold startSpacing
  split
  · exact ⟨_, rfl⟩
  · exact .refl s

/-! ### Conditions change the record and the list only -/

theorem latch_only (c : Condition) (s : State) : CondOnly s (latch c s) := by
  unfold latch
  split
  · exact .refl s
  · exact CondOnly.trans ⟨s.link, _, rfl⟩ (queueStatus_only _).toCondOnly

theorem raiseCondition_only (c : Condition) (s : State) : CondOnly s (raiseCondition c s) := by
  unfold raiseCondition
  split
  · exact .refl s
  · exact CondOnly.trans ⟨_, _, rfl⟩ (latch_only c _)

theorem lowerCondition_only (c : Condition) (s : State) : CondOnly s (lowerCondition c s) := ⟨_, _, rfl⟩

theorem recheck_only (c : Condition) (s : State) : CondOnly s (recheck c s) := by
  unfold recheck
  split
  · exact raiseCondition_only c s
  · exact lowerCondition_only c s

theorem queueDoor_only (b : DoorBody) (s : State) : CondOnly s (queueDoor b s) := by
  unfold queueDoor
  dsimp only
  split
  · exact (joinList_only _ s).toCondOnly
  · split
    · exact (withList_only s _).toCondOnly
    · split
      · exact (withList_only s _).toCondOnly.trans (latch_only _ _)
      · exact .refl s

/-! ### What a condition's flags are after a latch, a raise and a fall (R167) -/

/-- Queueing a STATUS frame writes no flag. -/
@[simp] theorem queueStatus_cond (s : State) : (queueStatus s).cond = s.cond := (queueStatus_only s).cond_eq

/-- A latch is set, and the current flags stand. -/
theorem latch_cond (c : Condition) (s : State) :
    (latch c s).cond = ⟨s.cond.current, withFlag s.cond.latched c⟩ ∨
      (latch c s).cond = s.cond ∧ flagSet s.cond.latched c = true := by
  unfold latch
  split
  · next h => exact .inr ⟨rfl, h⟩
  · exact .inl (queueStatus_cond _)

end Sys2Proof.Machine
end

