-- ==== Sys2Proof/Laws/Stages.lean ====
section
/-! SUPPORT. The shared operations of the stage controller, the allocator and the blowers: what each can change. -/

namespace Sys2Proof.Machine

/-! ### Folds -/

theorem StageOnly.foldl {α : Type} {g : State → α → State} (h : ∀ s a, StageOnly s (g s a)) :
    ∀ (l : List α) (s : State), StageOnly s (l.foldl g s)
  | [], s => .refl s
  | a :: l, s => (h s a).trans (StageOnly.foldl h l (g s a))

/-! ### The stage table and the queue -/

theorem modStage_only (i : Nat) (g : Stage → Stage) (s : State) : StageOnly s (modStage i g s) :=
  ⟨_, s.queue, s.attemptDue, rfl⟩

theorem unqueue_only (i : Nat) (s : State) : StageOnly s (unqueue i s) := ⟨s.stages, _, s.attemptDue, rfl⟩

theorem queueBack_only (c : Cls) (i : Nat) (s : State) : StageOnly s (queueBack c i s) :=
  ⟨s.stages, _, s.attemptDue, rfl⟩

theorem queueFront_only (c : Cls) (l : List Nat) (s : State) : StageOnly s (queueFront c l s) :=
  ⟨s.stages, _, s.attemptDue, rfl⟩

theorem queueAt_only (c : Cls) (n i : Nat) (s : State) : StageOnly s (queueAt c n i s) :=
  ⟨s.stages, _, s.attemptDue, rfl⟩

theorem oweAttempt_only (s : State) : StageOnly s (oweAttempt s) := ⟨s.stages, s.queue, _, rfl⟩

theorem takeOff_only (l : List Nat) (s : State) : StageOnly s (takeOff l s) :=
  (StageOnly.foldl (fun s i => modStage_only i _ s) l s).trans
    (StageOnly.foldl (fun s c => queueFront_only c _ s) _ _)

theorem cut_only (c : Cls) (s : State) : StageOnly s (cut c s) := takeOff_only _ s

theorem shedStages_only (s : State) : StageOnly s (shedStages s) := takeOff_only _ s

theorem blowerLoss_only (f : FanId) (s : State) : StageOnly s (blowerLoss f s) := takeOff_only _ s

theorem suspendAll_only (s : State) : StageOnly s (suspendAll s) := StageOnly.foldl (fun s i => modStage_only i _ s) _ s

theorem withdraw_only (i : Nat) (s : State) : StageOnly s (withdraw i s) := by
  have h := (modStage_only i Stage.toIdle s).trans (unqueue_only i _)
  unfold withdraw
  dsimp only
  split <;> split
  · exact h.trans (oweAttempt_only _)
  · exact h
  · exact h.trans (oweAttempt_only _)
  · exact h

theorem withdrawTo_only (o : Owner) (c : Cls) (n : Nat) (s : State) : StageOnly s (withdrawTo o c n s) :=
  StageOnly.foldl (fun s i => withdraw_only i s) _ s

theorem enqueue_only (c : Cls) (p : Place) (i : Nat) (s : State) : StageOnly s (enqueue c p i s) := by
  have h := modStage_only i (fun st => { st with state := .queued, cls := some c }) s
  unfold enqueue
  refine StageOnly.trans ?_ (oweAttempt_only _)
  split
  · exact h.trans (queueBack_only _ _ _)
  · exact h.trans (queueFront_only _ _ _)
  · exact h.trans (queueAt_only _ _ _ _)

theorem enqueueNext_only (o : Owner) (c : Cls) (p : Place) (s : State) : StageOnly s (enqueueNext o c p s) := by
  unfold enqueueNext
  split
  · exact enqueue_only _ _ _ s
  · exact .refl s

theorem fillBack_only (o : Owner) (c : Cls) : ∀ (k : Nat) (s : State), StageOnly s (fillBack o c k s)
  | 0, s => .refl s
  | k + 1, s => (enqueueNext_only o c .back s).trans (fillBack_only o c k _)

theorem fillTo_only (o : Owner) (c : Cls) (n : Nat) (s : State) : StageOnly s (fillTo o c n s) := fillBack_only o c _ s

theorem handOffSingle_only (o : Owner) (c : Cls) (n : Nat) (s : State) : StageOnly s (handOffSingle o c n s) :=
  (withdrawTo_only o c _ s).trans (fillTo_only o c _ _)

theorem convertInPlace_only : ∀ (k : Nat) (l : List Nat) (s : State), StageOnly s (convertInPlace k l s).2
  | 0, _, s => .refl s
  | _ + 1, [], s => .refl s
  | k + 1, i :: rest, s => by
    unfold convertInPlace
    split
    · exact (modStage_only i _ s).trans (convertInPlace_only k rest _)
    · exact .refl s

theorem convertQueued_only (i : Nat) (s : State) : StageOnly s (convertQueued i s) :=
  (((modStage_only i _ s).trans (unqueue_only i _)).trans (queueBack_only _ i _)).trans (oweAttempt_only _)

theorem convert_only (o : Owner) (k : Nat) (s : State) : StageOnly s (convert o k s) :=
  (convertInPlace_only k _ s).trans (StageOnly.foldl (fun s i => convertQueued_only i s) _ _)

theorem zoneSteps_only (z : Fin 4) (n m : Nat) (s : State) : StageOnly s (zoneSteps z n m s) :=
  (((convert_only _ _ s).trans (withdrawTo_only _ _ _ _)).trans (fillTo_only _ _ _ _)).trans (withdrawTo_only _ _ _ _)

theorem zoneFalls_only (z : Fin 4) (n m : Nat) (s : State) : StageOnly s (zoneFalls z n m s) :=
  (withdrawTo_only _ _ _ s).trans (withdrawTo_only _ _ _ _)

theorem handOffZone_only (z : Fin 4) (n m : Nat) (s : State) : StageOnly s (handOffZone z n m s) :=
  ((zoneSteps_only z n m s).trans (fillTo_only _ _ _ _)).trans (fillTo_only _ _ _ _)

theorem refill_only (o : Owner) (c : Cls) (n : Nat) (p : Option (Cls × Place)) (s : State) :
    StageOnly s (refill o c n p s) := by
  unfold refill
  split
  · split
    · exact (enqueueNext_only _ _ _ s).trans (fillTo_only _ _ _ _)
    · exact fillTo_only _ _ _ s
  · exact fillTo_only _ _ _ s

/-! ### Admission -/

theorem admit_only (i : Nat) (s : State) : AdmitOnly s (admitStage i s) := ⟨_, _, s.attemptDue, _, _, s.view, s.link, rfl⟩

theorem resume_only (i : Nat) (s : State) : AdmitOnly s (resume i s) := ⟨_, s.queue, s.attemptDue, _, _, s.view, s.link, rfl⟩

theorem admissionAttempt_only (s : State) : AdmitOnly s (admissionAttempt s) := by
  unfold admissionAttempt
  split
  · split
    · exact resume_only _ s
    · split
      · exact admit_only _ s
      · exact .refl s
  · exact .refl s

theorem noteDraw_only (s : State) : AdmitOnly s (noteDraw s) :=
  ⟨s.stages, s.queue, s.attemptDue, s.pacing, s.seq, _, _, rfl⟩

theorem payAttempt_only (s : State) : AdmitOnly s (payAttempt s) := by
  unfold payAttempt
  split
  · exact (AdmitOnly.trans ⟨s.stages, s.queue, false, s.pacing, s.seq, s.view, s.link, rfl⟩ (noteDraw_only _)).trans
      (admissionAttempt_only _)
  · exact .refl s

/-- An attempt that is not owed is not made. -/
theorem payAttempt_none (s : State) (h : s.attemptDue = false) : payAttempt s = s := by
  unfold payAttempt; simp [h]

/-! ### The allocator -/

theorem setUsable_only (p : PerClass Nat) (s : State) : ShareOnly s (setUsable p s) :=
  ⟨s.stages, s.queue, s.attemptDue, _, s.view, s.link, s.cond, rfl⟩

theorem modOwn_only (g : Entry → Entry) (s : State) : ShareOnly s (modOwn g s) :=
  ⟨s.stages, s.queue, s.attemptDue, s.alloc, _, _, s.cond, rfl⟩

theorem setAnnounced_only (p : PerClass Nat) (s : State) : ShareOnly s (setAnnounced p s) :=
  ⟨s.stages, s.queue, s.attemptDue, _, _, _, s.cond, rfl⟩

theorem ShareOnly.foldl {α : Type} {g : State → α → State} (h : ∀ s a, ShareOnly s (g s a)) :
    ∀ (l : List α) (s : State), ShareOnly s (l.foldl g s)
  | [], s => .refl s
  | a :: l, s => (h s a).trans (ShareOnly.foldl h l (g s a))

theorem LinkOnly.toShare {s t : State} (h : LinkOnly s t) : ShareOnly s t := h.toShareOnly

theorem lowerIntents_only (s : State) : ShareOnly s (lowerIntents s) := by
  unfold lowerIntents
  dsimp only
  have cuts : ∀ (p q : PerClass Nat) (s : State),
      ShareOnly s (Cls.all.foldl (fun s c => if p.get c < q.get c then cut c s else s) s) := fun p q s =>
    ShareOnly.foldl (fun s c => by
      split
      · exact (cut_only c s).toShareOnly
      · exact .refl s) _ s
  split
  · exact (setUsable_only _ s).trans (cuts _ _ _)
  · exact (((setAnnounced_only _ s).trans (setUsable_only _ _)).trans (cuts _ _ _)).trans (demandDue_only _).toShareOnly

theorem raiseIntents_only (s : State) : ShareOnly s (raiseIntents s) := by
  unfold raiseIntents
  dsimp only
  split
  · exact .refl s
  · exact ((setAnnounced_only _ s).trans ⟨_, _, _, _, _, _, _, rfl⟩).trans (demandDue_only _).toShareOnly

theorem recompute_only (s : State) : ShareOnly s (recompute s) := by
  unfold recompute
  dsimp only
  refine ShareOnly.trans ?_ (raiseIntents_only _)
  refine ShareOnly.trans ?_ (lowerIntents_only _)
  split
  · exact ⟨_, _, _, _, _, _, _, rfl⟩
  · exact ShareOnly.trans ⟨_, _, _, _, _, _, _, rfl⟩ (recheck_only _ _).toShareOnly

theorem reformClaims_only (s : State) : ShareOnly s (reformClaims s) := by
  unfold reformClaims
  dsimp only
  have h : ShareOnly s (recompute (demandDue (modOwn (fun e => { e with claims := s.claimsNow }) s))) :=
    (ShareOnly.trans ⟨_, _, _, _, _, _, _, rfl⟩ (demandDue_only _).toShareOnly).trans (recompute_only _)
  split
  · exact .refl s
  · split
    · exact h
    · exact h.trans (recheck_only _ _).toShareOnly

theorem shed_only (s : State) : ShareOnly s (shed s) := by
  unfold shed
  dsimp only
  refine ShareOnly.trans ?_ (raiseIntents_only _)
  have h := (shedStages_only s).toShareOnly.trans (setUsable_only (.const 0) _)
  split
  · exact h.trans ⟨_, _, _, _, _, _, _, rfl⟩
  · exact ((h.trans (setAnnounced_only _ _)).trans (demandDue_only _).toShareOnly).trans ⟨_, _, _, _, _, _, _, rfl⟩

/-! ### The blowers -/

theorem modFan_only (f : FanId) (g : Blower → Blower) (s : State) : FanOnly s (s.modFan f g) :=
  ⟨s.stages, s.queue, s.attemptDue, _, s.link, s.cond, rfl⟩

theorem commandFan_only (f : FanId) (level : Nat) (s : State) : FanOnly s (commandFan f level s) := by
  unfold commandFan
  split
  · exact .refl s
  · dsimp only
    split
    · exact .refl s
    · split
      · split
        · exact (modFan_only f _ s).trans (modFan_only f _ _)
        · exact modFan_only f _ s
        · exact modFan_only f _ s
        · exact modFan_only f _ s
      · split
        · have h := ((modFan_only f (fun b => { b with level := level }) s).trans (modFan_only f Blower.stop _)).trans
            (recheck_only .blowerFailed _).toFanOnly
          split
          · exact h.trans (blowerLoss_only f _).toFanOnly
          · exact h
        · exact modFan_only f _ s

theorem rechooseZoneFan_only (z : Fin 4) (s : State) : FanOnly s (rechooseZoneFan z s) := by
  unfold rechooseZoneFan
  split
  · exact commandFan_only _ _ s
  · exact .refl s

theorem rechooseZoneFans_only (s : State) : FanOnly s (rechooseZoneFans s) :=
  (((rechooseZoneFan_only 0 s).trans (rechooseZoneFan_only 1 _)).trans (rechooseZoneFan_only 2 _)).trans
    (rechooseZoneFan_only 3 _)

theorem handDemand_only (z : Fin 4) (u : Nat) (s : State) : FanOnly s (handDemand z u s) :=
  (modFan_only _ _ s).trans (rechooseZoneFan_only z _)

theorem failFan_only (f : FanId) (s : State) : FanOnly s (failFan f s) := by
  have h := (modFan_only f (Blower.fail s.clock) s).trans (recheck_only .blowerFailed _).toFanOnly
  unfold failFan
  dsimp only
  split
  · exact h.trans (blowerLoss_only f _).toFanOnly
  · exact h

theorem proveFan_only (f : FanId) (s : State) : FanOnly s (proveFan f s) :=
  ((modFan_only f _ s).trans (recheck_only .blowerFailed _).toFanOnly).trans (oweAttempt_only _).toFanOnly

theorem examineFan_only (f : FanId) (s : State) : FanOnly s (examineFan f s) := by
  unfold examineFan
  dsimp only
  refine FanOnly.trans ?_ (modFan_only f _ _)
  split
  · split
    · split
      · exact proveFan_only f s
      · exact .refl s
    · split
      · exact .refl s
      · exact failFan_only f s
    · exact .refl s
    · exact .refl s
  · exact .refl s

end Sys2Proof.Machine
end

