-- ==== Sys2Proof/Laws/Closing.lean ====
section
/-! SUPPORT. What closes a step, said once: `finish` writes the own draw, the waiting frames' figures and the pins. -/

namespace Sys2Proof.Machine

theorem entry_modEntry_same (s : State) (i : Station) (g : Entry → Entry) : (s.modEntry i g).entry i = g (s.entry i) := by
  simp [State.entry, State.modEntry]

theorem entry_modEntry_other (s : State) {i j : Station} (g : Entry → Entry) (h : j ≠ i) :
    (s.modEntry i g).entry j = s.entry j := by
  have hv : (i : Nat) ≠ j := fun e => h (Fin.ext e.symm)
  simp [State.entry, State.modEntry, hv]

/-- A change of each entry that knows the head in an attempt, by position. -/
theorem mapEntries_mapIdx (b : Bool) (g : Bool → TxEntry → TxEntry) (l : List TxEntry) :
    mapEntries b g l = l.mapIdx (fun n e => g (n == 0 && b) e) := by
  have tail : ∀ l : List TxEntry, mapEntries false g l = l.map (g false) := fun l => by
    induction l with
    | nil => rfl
    | cons e rest ih => simp [mapEntries, ih]
  cases l with
  | nil => rfl
  | cons e rest =>
    simp only [mapEntries, tail, List.mapIdx_cons]
    congr 1
    exact (List.mapIdx_eq_iff.mpr (fun i => by simp)).symm

/-- The figures a frame carries do not depend on the list or the pins. -/
theorem figures_congr {s t : State} (hz : s.zones = t.zones) (hd : s.doors = t.doors) (hs : s.stages = t.stages)
    (hst : s.straps = t.straps) (ho : s.ownEntry = t.ownEntry) (hw : s.word = t.word) (hdef : s.defrost = t.defrost)
    (hc : s.cond = t.cond) (f : Frame) : s.figures f = t.figures f := by
  cases f <;> simp [State.figures, State.presenceFrame, State.demandFrame, State.overrideFrame, State.statusFrame,
    State.totalQuanta, State.boostLeft, hz, hd, hs, hst, ho, hw, hdef, hc]

/-- The figures of a kind are a frame of that kind. -/
theorem figures_figures (s : State) (f : Frame) : s.figures (s.figures f) = s.figures f := by
  cases f with
  | override b => cases hw : s.word <;> simp [State.figures, State.overrideFrame, hw]
  | _ => rfl

/-- After the list is refreshed every waiting entry carries the figures as they stand (R120). -/
theorem refreshList_carries (s : State) : ∀ e ∈ (refreshList s).link.list, s.figures e.frame = e.frame := by
  have one : ∀ b (e : TxEntry), s.figures (if s.figures e.frame = e.frame then e
      else e.replace b (s.figures e.frame)).frame = (if s.figures e.frame = e.frame then e
      else e.replace b (s.figures e.frame)).frame := fun b e => by
    split
    · assumption
    · exact figures_figures s _
  have all : ∀ b (l : List TxEntry), ∀ e ∈ mapEntries b (fun sending e => if s.figures e.frame = e.frame then e
      else e.replace sending (s.figures e.frame)) l, s.figures e.frame = e.frame := fun b l => by
    induction l generalizing b with
    | nil => intro e h; cases h
    | cons x rest ih =>
      intro e h
      rcases List.mem_cons.mp h with rfl | h
      · exact one b x
      · exact ih false e h
  exact all _ _

/-- A list whose entries all carry the figures as they stand is not changed (R120). -/
theorem refreshList_of_carries (s : State) (h : ∀ e ∈ s.link.list, s.figures e.frame = e.frame) : refreshList s = s := by
  have all : ∀ b (l : List TxEntry), (∀ e ∈ l, s.figures e.frame = e.frame) →
      mapEntries b (fun sending e => if s.figures e.frame = e.frame then e
        else e.replace sending (s.figures e.frame)) l = l := fun b l => by
    induction l generalizing b with
    | nil => intro _; rfl
    | cons x rest ih =>
      intro h
      simp only [mapEntries, h x (List.mem_cons_self ..), if_true]
      rw [ih false (fun e he => h e (List.mem_cons_of_mem _ he))]
  unfold refreshList
  rw [all _ _ h]
  rfl

/-- Two changes of one entry are one. -/
theorem modEntry_modEntry (s : State) (i : Station) (g h : Entry → Entry) :
    (s.modEntry i g).modEntry i h = s.modEntry i (fun e => h (g e)) := by
  simp [State.modEntry, State.entry]

/-- A draw that is noted stands noted. -/
theorem noteDraw_noteDraw (s : State) : noteDraw (noteDraw s) = noteDraw s := by
  have hw : writeDraw (noteDraw s) = noteDraw s := by
    have h : writeDraw (writeDraw s) = writeDraw s := modEntry_modEntry s _ _ _
    exact congrArg (fun t : State => { noteDraw s with view := t.view }) h
  unfold noteDraw at hw ⊢
  rw [hw]
  exact refreshList_of_carries _ (fun e he => (figures_congr rfl rfl rfl rfl rfl rfl rfl rfl _).trans
    (refreshList_carries (writeDraw s) e he))

/-- What closes a step that owes no attempt. -/
theorem close_closes (s : State) : Closes s (driveOutputs (noteDraw s)) := by
  have hent : ∀ i, (driveOutputs (noteDraw s)).entry i = (writeDraw s).entry i := fun _ => rfl
  refine ⟨rfl, fun i hi => ?_, ?_, ?_, rfl⟩
  · rw [hent]; exact entry_modEntry_other s _ hi
  · exact entry_modEntry_same s s.straps.station (fun e => { e with draw := capNat 255 s.drawNow })
  · exact mapEntries_mapIdx _ _ _

/-- What closes a step, after the attempt it owes. -/
theorem finish_closes (s : State) : Closes (payAttempt s) (finish s) := close_closes (payAttempt s)

/-- What closes a step that owes no attempt. -/
theorem finish_closes_none (s : State) (h : s.attemptDue = false) : Closes s (finish s) := by
  have := finish_closes s
  rwa [payAttempt_none s h] at this

/-- A running timer's expiry, in a node that runs. -/
theorem atExpiry_running (e : Time) (effect : State → State) (s : State) (h : s.phase = .running) :
    atExpiry (.running e) effect s = .next (finish (effect (advanceTo e s))) := by
  have : (advanceTo e s).phase = .running := by unfold advanceTo; split <;> exact h
  simp [atExpiry, whileRunning, h, this]

/-- A command in a node that runs. -/
theorem whileRunning_running (effect : State → State) (s : State) (h : s.phase = .running) :
    whileRunning effect s = .next (finish (effect s)) := by
  simp [whileRunning, h]

/-- A command in a node that does not run has no effect. -/
theorem whileRunning_held (effect : State → State) (s : State) (h : s.phase ≠ .running) :
    whileRunning effect s = .next s := by
  simp [whileRunning, h]

end Sys2Proof.Machine
end

