-- ==== Sys2Proof/Laws/Hands.lean ====
section
/-! SUPPORT. The operations of the doors, the zones, the sharing states, the overrides and the view: what each can change. -/

namespace Sys2Proof.Machine

/-! ### The damper -/

theorem modDamper_only (g : Damper → Damper) (s : State) : DamperOnly s (s.modDamper g) := ⟨_, rfl⟩

theorem setMotor_only (m : Motor) (s : State) : DamperOnly s (setMotor m s) := by
  unfold setMotor
  split
  · exact .refl s
  · exact modDamper_only _ s

theorem trackMotor_only (s : State) : DamperOnly s (trackMotor s) := by
  unfold trackMotor
  split
  · exact setMotor_only _ s
  · exact .refl s

theorem keepStall_only (before : Timer) (s : State) : DamperOnly s (keepStall before s) := by
  unfold keepStall
  split
  · exact modDamper_only _ s
  · exact .refl s

theorem retarget_only (s : State) : DamperOnly s (retarget s) := by
  unfold retarget
  split
  · exact .refl s
  · exact ((modDamper_only _ s).trans (trackMotor_only _)).trans (keepStall_only _ _)

theorem noticeDamper_only (s : State) : DamperOnly s (noticeDamper s) := by
  unfold noticeDamper
  split
  · exact .refl s
  · exact (modDamper_only _ s).trans (retarget_only _)

/-! ### Doors and curtains -/

theorem modDoor_only (d : Fin 3) (g : Door → Door) (s : State) : AdoptOnly s (s.modDoor d g) :=
  ⟨_, _, _, _, _, _, _, _, _, _, _, rfl⟩

theorem modZone_only (z : Fin 4) (g : Zone → Zone) (s : State) : AdoptOnly s (s.modZone z g) :=
  ⟨_, _, _, _, _, _, _, _, _, _, _, rfl⟩

theorem mapDrafts_only (g : Nat → List Draft → List Draft) (s : State) : AdoptOnly s (s.mapDrafts g) :=
  ⟨_, _, _, _, _, _, _, _, _, _, _, rfl⟩

theorem handCurtain_only (d : Fin 3) (s : State) : HandOnly s (handCurtain d s) :=
  (((handOffSingle_only _ _ _ s).toHandOnly).trans (commandFan_only _ _ _).toHandOnly).trans
    (reformClaims_only _).toHandOnly

theorem setCurtain_only (d : Fin 3) (c : Curtain) (t : Timer) (s : State) : AdoptOnly s (setCurtain d c t s) := by
  unfold setCurtain
  split
  · split
    · exact .refl s
    · dsimp only
      split
      · exact modDoor_only d _ s
      · exact (modDoor_only d _ s).trans (handCurtain_only d _).toAdoptOnly
  · exact .refl s

theorem barCurtain_only (d : Fin 3) (s : State) : AdoptOnly s (barCurtain d s) := by
  unfold barCurtain
  split
  · split
    · exact setCurtain_only _ _ _ s
    · exact .refl s
  · exact .refl s

theorem ventCurtain_only (d : Fin 3) (s : State) : AdoptOnly s (ventCurtain d s) := by
  unfold ventCurtain
  split
  · split
    · exact setCurtain_only _ _ _ s
    · exact setCurtain_only _ _ _ s
    · exact .refl s
    · exact .refl s
  · exact .refl s

theorem ventCurtains_only (s : State) : AdoptOnly s (ventCurtains s) :=
  ((ventCurtain_only 0 s).trans (ventCurtain_only 1 _)).trans (ventCurtain_only 2 _)

theorem layoverCurtain_only (d : Fin 3) (s : State) : AdoptOnly s (layoverCurtain d s) := by
  unfold layoverCurtain
  split
  · split
    · exact barCurtain_only _ s
    · exact .refl s
  · exact .refl s

theorem layoverCurtains_only (s : State) : AdoptOnly s (layoverCurtains s) :=
  ((layoverCurtain_only 0 s).trans (layoverCurtain_only 1 _)).trans (layoverCurtain_only 2 _)

theorem announceDoor_only (d : Fin 3) (g : DoorCfg) (o : Bool) (w : Nat) (s : State) :
    CondOnly s (announceDoor d g o w s) := queueDoor_only _ s

theorem curtainOpened_only (d : Fin 3) (c : Curtain) (s : State) : AdoptOnly s (curtainOpened d c s) := by
  unfold curtainOpened
  split
  · exact setCurtain_only _ _ _ s
  · split
    · exact setCurtain_only _ _ _ s
    · exact setCurtain_only _ _ _ s
    · exact .refl s
    · exact .refl s

theorem curtainClosed_only (d : Fin 3) (c : Curtain) (n : Nat) (s : State) : AdoptOnly s (curtainClosed d c n s) := by
  unfold curtainClosed
  split
  · split
    · exact setCurtain_only _ _ _ s
    · exact setCurtain_only _ _ _ s
  · exact setCurtain_only _ _ _ s
  · exact .refl s
  · exact .refl s

theorem localOpened_only (d : Fin 3) (g : DoorCfg) (s : State) : AdoptOnly s (localOpened d g s) := mapDrafts_only _ s

theorem localClosed_only (d : Fin 3) (g : DoorCfg) (s : State) : AdoptOnly s (localClosed d g s) := mapDrafts_only _ s

theorem acceptedOpen_only (d : Fin 3) (s : State) : AdoptOnly s (acceptedOpen d s) := by
  unfold acceptedOpen
  split
  · split
    · exact ((((modDoor_only d _ s).trans (localOpened_only d _ _)).trans (curtainOpened_only d _ _)).trans
        (announceDoor_only d _ _ _ _).toAdoptOnly).trans (noticeDamper_only _).toAdoptOnly
    · exact .refl s
  · exact .refl s

theorem acceptedClose_only (d : Fin 3) (s : State) : AdoptOnly s (acceptedClose d s) := by
  unfold acceptedClose
  split
  · next r g _ _ =>
    have h := (modDoor_only d Door.closing s).trans (localClosed_only d g _)
    dsimp only
    split
    · exact ((h.trans (curtainClosed_only d _ _ _)).trans (announceDoor_only d _ _ _ _).toAdoptOnly).trans
        (noticeDamper_only _).toAdoptOnly
    · exact ((h.trans (announceDoor_only d _ _ _ _).toAdoptOnly).trans (setCurtain_only d _ _ _)).trans
        (recheck_only _ _).toAdoptOnly
    · exact .refl s
  · exact .refl s

theorem sampleDoor_only (d : Fin 3) (level : Bool) (s : State) : AdoptOnly s (sampleDoor d level s) := by
  unfold sampleDoor
  split
  · next r g _ _ =>
    dsimp only
    have h := modDoor_only d (fun r' => { r' with filter := (r.filter.sample g.filter level).1 }) s
    split
    · exact (h.trans (modDoor_only d _ _)).trans (noticeDamper_only _).toAdoptOnly
    · split
      · exact h.trans (acceptedOpen_only d _)
      · exact h.trans (acceptedClose_only d _)
      · exact h
  · exact .refl s

theorem stuckExpiry_only (d : Fin 3) (s : State) : AdoptOnly s (stuckExpiry d s) := by
  unfold stuckExpiry
  split
  · next r g _ _ =>
    dsimp only
    have h := modDoor_only d (fun r => { r with stuck := .stopped }) s
    split
    · exact ((((h.trans (modDoor_only d _ _)).trans (setCurtain_only d _ _ _)).trans
        (announceDoor_only d _ _ _ _).toAdoptOnly).trans (noticeDamper_only _).toAdoptOnly).trans
        (recheck_only _ _).toAdoptOnly
    · exact h
  · exact .refl s

/-! ### Zones -/

theorem handOff_only (z : Fin 4) (a b : Zone) (s : State) : HandOnly s (handOff z a b s) := by
  unfold handOff
  split
  · exact .refl s
  · exact (handOffZone_only _ _ _ s).toHandOnly.trans (reformClaims_only _).toHandOnly

theorem afterControl_only (z : Fin 4) (a b : Zone) (s : State) : AdoptOnly s (afterControl z a b s) := by
  have h := ((modZone_only z (fun _ => b) s).trans (recheck_only .zoneSensor _).toAdoptOnly).trans
    (handOff_only z a b _).toAdoptOnly
  unfold afterControl
  dsimp only
  split
  · exact h
  · exact h.trans (handDemand_only z _ _).toAdoptOnly

theorem controlExpiry_only (z : Fin 4) (s : State) : AdoptOnly s (controlExpiry z s) := by
  unfold controlExpiry
  split
  · exact afterControl_only z _ _ s
  · exact .refl s

theorem enterOff_only (z : Fin 4) (s : State) : AdoptOnly s (enterOff z s) := by
  unfold enterOff
  split
  · split
    · exact .refl s
    · exact ((modZone_only z _ s).trans (modFan_only _ _ _).toAdoptOnly).trans (handOffZone_only _ _ _ _).toAdoptOnly
  · exact .refl s

theorem enterOffAll_only (s : State) : AdoptOnly s (enterOffAll s) :=
  ((((enterOff_only 0 s).trans (enterOff_only 1 _)).trans (enterOff_only 2 _)).trans (enterOff_only 3 _)).trans
    (recheck_only _ _).toAdoptOnly

theorem capZone_only (z : Fin 4) (s : State) : AdoptOnly s (capZone z s) := by
  unfold capZone
  split
  · dsimp only
    split
    · exact .refl s
    · exact ((modZone_only z _ s).trans (handOffZone_only _ _ _ _).toAdoptOnly).trans (reformClaims_only _).toAdoptOnly
  · exact .refl s

theorem capZones_only (s : State) : AdoptOnly s (capZones s) :=
  (((capZone_only 0 s).trans (capZone_only 1 _)).trans (capZone_only 2 _)).trans (capZone_only 3 _)

theorem availFall_only (z : Fin 4) (s : State) : AdoptOnly s (availFall z s) := by
  unfold availFall
  split
  · dsimp only
    split
    · exact modZone_only z _ s
    · exact ((modZone_only z _ s).trans (zoneFalls_only _ _ _ _).toAdoptOnly).trans (reformClaims_only _).toAdoptOnly
  · exact .refl s

theorem writeOffsets_only (x : Int) (s : State) : AdoptOnly s (writeOffsets x s) :=
  ⟨_, _, _, _, _, _, _, _, _, _, _, rfl⟩

/-! ### Sharing states -/

theorem modAlloc_only (g : Alloc → Alloc) (s : State) : ShareOnly s (s.modAlloc g) := ⟨_, _, _, _, _, _, _, rfl⟩

theorem enterSharing_only (new : Sharing) (s : State) : HandOnly s (enterSharing new s) := by
  unfold enterSharing
  dsimp only
  have h := ((((modAlloc_only (fun a => { a with sharing := new }) s).toHandOnly.trans
    (recheck_only .powerSilent _).toHandOnly).trans (recheck_only .txFailed _).toHandOnly).trans
    (recheck_only .duplicateStation _).toHandOnly)
  split
  · refine HandOnly.trans ?_ (rechooseZoneFans_only _).toHandOnly
    split
    · exact h.trans (oweAttempt_only _).toHandOnly
    · exact h
  · split
    · exact h.trans (oweAttempt_only _).toHandOnly
    · exact h

theorem stopGap_only (s : State) : ShareOnly s (stopGap s) := modAlloc_only _ s

theorem enterSilent_only (s : State) : HandOnly s (enterSilent s) :=
  ((stopGap_only s).toHandOnly.trans (enterSharing_only _ _)).trans (shed_only _).toHandOnly

theorem enterMuted_only (s : State) : HandOnly s (enterMuted s) :=
  ((stopGap_only s).toHandOnly.trans (enterSharing_only _ _)).trans (shed_only _).toHandOnly

theorem enterIsolated_only (s : State) : HandOnly s (enterIsolated s) :=
  (((stopGap_only s).toHandOnly.trans (enterSharing_only _ _)).trans (reformClaims_only _).toHandOnly).trans
    (shed_only _).toHandOnly

theorem enterGapHold_only (s : State) : HandOnly s (enterGapHold s) :=
  ((enterSharing_only _ s).trans (modAlloc_only _ _).toHandOnly).trans (suspendAll_only _).toHandOnly

theorem joinExit_only (s : State) : HandOnly s (joinExit s) := by
  unfold joinExit
  split
  · split
    · exact enterSilent_only s
    · exact enterSharing_only _ s
  · exact .refl s

theorem powerOnSharing_only (a b : Line) (s : State) : HandOnly s (powerOnSharing a b s) := by
  unfold powerOnSharing
  dsimp only
  split
  · exact .refl s
  · split
    · exact (shed_only s).toHandOnly
    · exact .refl s
  · split
    · exact (shed_only s).toHandOnly.trans (joinExit_only _)
    · exact joinExit_only s
  · split
    · exact (shed_only s).toHandOnly.trans (enterSharing_only _ _)
    · exact enterSharing_only _ s
  · split
    · exact enterGapHold_only s
    · split
      · exact (shed_only s).toHandOnly
      · exact .refl s
  · split
    · exact (stopGap_only s).toHandOnly.trans (enterSharing_only _ _)
    · exact ((stopGap_only s).toHandOnly.trans (shed_only _).toHandOnly).trans (enterSharing_only _ _)
    · exact .refl s
    · exact .refl s

theorem takePower_only (b : PowerBody) (s : State) : HandOnly s (takePower b s) := by
  unfold takePower
  split
  · exact .refl s
  · next line _ =>
    dsimp only
    have h := ((modAlloc_only (fun a => { a with silence := s.timer 500, powerHeard := true }) s).toHandOnly.trans
      (powerOnSharing_only s.alloc.line line _)).trans
      (modAlloc_only (fun a => { a with
        budget := (powerFigures line b (powerOnSharing s.alloc.line line
          (s.modAlloc (fun a => { a with silence := s.timer 500, powerHeard := true }))).alloc).1,
        surplus := (powerFigures line b (powerOnSharing s.alloc.line line
          (s.modAlloc (fun a => { a with silence := s.timer 500, powerHeard := true }))).alloc).2,
        line := line }) _).toHandOnly
    split
    · exact h
    · exact h.trans (recompute_only _).toHandOnly

theorem silenceExpiry_only (s : State) : HandOnly s (silenceExpiry s) := by
  unfold silenceExpiry
  dsimp only
  have h := (modAlloc_only (fun a => { a with silence := .expired, budget := 0, surplus := 0, line := .none }) s).toHandOnly.trans
    (recompute_only _).toHandOnly
  split
  · exact h.trans (enterSilent_only _)
  · exact h.trans (enterSilent_only _)
  all_goals exact h

theorem gapExpiry_only (s : State) : HandOnly s (gapExpiry s) := by
  unfold gapExpiry
  split
  · exact ((stopGap_only s).toHandOnly.trans (shed_only _).toHandOnly).trans (enterSharing_only _ _)
  · exact (stopGap_only s).toHandOnly

theorem holdOffExpiry_only (s : State) : ShareOnly s (holdOffExpiry s) := by
  unfold holdOffExpiry
  dsimp only
  have h := (modAlloc_only (fun a => { a with holdOff := .stopped }) s).trans
    (setUsable_only (s.alloc.announced.map₂ min s.alloc.allocation) _)
  split
  · exact h.trans (oweAttempt_only _).toShareOnly
  · exact h

theorem demandConfirmation_only (p : PerClass Byte) (s : State) : ShareOnly s (demandConfirmation p s) := by
  unfold demandConfirmation
  exact modAlloc_only _ s

theorem mutedExit_only (s : State) : HandOnly s (mutedExit s) := by
  unfold mutedExit
  split
  · split
    · split
      · exact enterSilent_only s
      · exact enterSharing_only _ s
    · exact enterSharing_only _ s
  · exact .refl s

theorem confirmation_only (f : Frame) (s : State) : HandOnly s (confirmation f s) := by
  unfold confirmation
  dsimp only
  refine HandOnly.trans ?_ (joinExit_only _)
  refine HandOnly.trans ?_ (mutedExit_only _)
  split
  · exact (demandConfirmation_only _ s).toHandOnly
  · exact .refl s

theorem transmitFailure_only (s : State) : HandOnly s (transmitFailure s) := by
  unfold transmitFailure
  split
  · exact enterMuted_only s
  · exact enterMuted_only s
  · exact enterMuted_only s
  · exact enterMuted_only s
  · exact .refl s
  · exact .refl s

end Sys2Proof.Machine
end

