-- ==== Sys2Proof/Laws/PerInstr.lean ====
section
/-! SUPPORT. The family CommandOf: a frame command is the command that its frame is (R113, R170, R174), one lemma for each
command. -/

namespace Sys2Proof.Laws

/-- The frame a well-formed frame command takes is that command again. -/
def CommandOf.Statement (i : Instr) : Prop :=
  i.wellFormed = true → ∀ p, frameOf i = some p → commandOf p.1 p.2 = i

/-- An operation code above 3 is none of the four of PROBE (R170). -/
theorem commandOf_badProbe (s : Station) (t o c i : Byte) (h : badProbeOperation o = true) :
    commandOf s (.probe ⟨t, o, c, i⟩) = .probeBadOperation s t o c i := by
  have h' : 3 < o.toNat := by simpa [badProbeOperation] using h
  simp only [commandOf]
  split <;> first | omega | rfl

/-- An operation code above 1 is none of the two of CONTROL (R174). -/
theorem commandOf_badControl (s : Station) (t o a b : Byte) (h : badControlOperation o = true) :
    commandOf s (.control ⟨t, o, a, b⟩) = .controlBadOperation s t o a b := by
  have h' : 1 < o.toNat := by simpa [badControlOperation] using h
  simp only [commandOf]
  split <;> first | omega | rfl

theorem CommandOf.powerOnReset : CommandOf.Statement .powerOnReset := fun _ _ e => nomatch e
theorem CommandOf.imageReadDone (image : Option (List Byte)) : CommandOf.Statement (.imageReadDone image) :=
  fun _ _ e => nomatch e
theorem CommandOf.imageReadTimeout : CommandOf.Statement .imageReadTimeout := fun _ _ e => nomatch e
theorem CommandOf.joinListenEnd : CommandOf.Statement .joinListenEnd := fun _ _ e => nomatch e
theorem CommandOf.controlPeriodExpiry (zone : Fin 4) : CommandOf.Statement (.controlPeriodExpiry zone) :=
  fun _ _ e => nomatch e
theorem CommandOf.sensorScan (replies : ScanReplies) : CommandOf.Statement (.sensorScan replies) :=
  fun _ _ e => nomatch e
theorem CommandOf.holdTimerExpiry (zone : Fin 4) : CommandOf.Statement (.holdTimerExpiry zone) := fun _ _ e => nomatch e
theorem CommandOf.inputSample (pins : Pins) : CommandOf.Statement (.inputSample pins) := fun _ _ e => nomatch e
theorem CommandOf.stuckTimerExpiry (door : Fin 3) : CommandOf.Statement (.stuckTimerExpiry door) :=
  fun _ _ e => nomatch e
theorem CommandOf.layoverMarkExpiry (door : Fin 3) : CommandOf.Statement (.layoverMarkExpiry door) :=
  fun _ _ e => nomatch e
theorem CommandOf.runOnExpiry (door : Fin 3) : CommandOf.Statement (.runOnExpiry door) := fun _ _ e => nomatch e
theorem CommandOf.feedbackFault (stage : Fin 44) : CommandOf.Statement (.feedbackFault stage) := fun _ _ e => nomatch e
theorem CommandOf.pacingExpiry : CommandOf.Statement .pacingExpiry := fun _ _ e => nomatch e
theorem CommandOf.sliceExpiry (stage : Fin 44) : CommandOf.Statement (.sliceExpiry stage) := fun _ _ e => nomatch e
theorem CommandOf.tachWindowExpiry : CommandOf.Statement .tachWindowExpiry := fun _ _ e => nomatch e
theorem CommandOf.startTimerExpiry (fan : FanId) : CommandOf.Statement (.startTimerExpiry fan) := fun _ _ e => nomatch e
theorem CommandOf.retryTimerExpiry (fan : FanId) : CommandOf.Statement (.retryTimerExpiry fan) := fun _ _ e => nomatch e
theorem CommandOf.encoderStep (move : EncoderMove) : CommandOf.Statement (.encoderStep move) := fun _ _ e => nomatch e
theorem CommandOf.stallTimerExpiry : CommandOf.Statement .stallTimerExpiry := fun _ _ e => nomatch e
theorem CommandOf.restTimerExpiry : CommandOf.Statement .restTimerExpiry := fun _ _ e => nomatch e
theorem CommandOf.defrostCheck : CommandOf.Statement .defrostCheck := fun _ _ e => nomatch e
theorem CommandOf.boostTimerExpiry : CommandOf.Statement .boostTimerExpiry := fun _ _ e => nomatch e
theorem CommandOf.boostRemainingFall : CommandOf.Statement .boostRemainingFall := fun _ _ e => nomatch e
theorem CommandOf.louvreStep : CommandOf.Statement .louvreStep := fun _ _ e => nomatch e
theorem CommandOf.layoverTimerExpiry : CommandOf.Statement .layoverTimerExpiry := fun _ _ e => nomatch e
theorem CommandOf.layoverMinutesFall : CommandOf.Statement .layoverMinutesFall := fun _ _ e => nomatch e
theorem CommandOf.overrideSilenceExpiry : CommandOf.Statement .overrideSilenceExpiry := fun _ _ e => nomatch e
theorem CommandOf.overrideHoldExpiry : CommandOf.Statement .overrideHoldExpiry := fun _ _ e => nomatch e
theorem CommandOf.ageingExpiry : CommandOf.Statement .ageingExpiry := fun _ _ e => nomatch e
theorem CommandOf.agreementHoldExpiry : CommandOf.Statement .agreementHoldExpiry := fun _ _ e => nomatch e
theorem CommandOf.silenceExpiry : CommandOf.Statement .silenceExpiry := fun _ _ e => nomatch e
theorem CommandOf.gapTimerExpiry : CommandOf.Statement .gapTimerExpiry := fun _ _ e => nomatch e
theorem CommandOf.holdOffExpiry : CommandOf.Statement .holdOffExpiry := fun _ _ e => nomatch e
theorem CommandOf.txFailureExpiry : CommandOf.Statement .txFailureExpiry := fun _ _ e => nomatch e
theorem CommandOf.spacingExpiry : CommandOf.Statement .spacingExpiry := fun _ _ e => nomatch e
theorem CommandOf.presenceTimerExpiry : CommandOf.Statement .presenceTimerExpiry := fun _ _ e => nomatch e
theorem CommandOf.overrideTimerExpiry : CommandOf.Statement .overrideTimerExpiry := fun _ _ e => nomatch e
theorem CommandOf.statusTimerExpiry : CommandOf.Statement .statusTimerExpiry := fun _ _ e => nomatch e
theorem CommandOf.txAttemptStart (slots : Nat) (dominant : Bool) : CommandOf.Statement (.txAttemptStart slots dominant) :=
  fun _ _ e => nomatch e
theorem CommandOf.collision : CommandOf.Statement .collision := fun _ _ e => nomatch e
theorem CommandOf.frameConfirmed : CommandOf.Statement .frameConfirmed := fun _ _ e => nomatch e
theorem CommandOf.frameDiscard (reception : Reception) : CommandOf.Statement (.frameDiscard reception) :=
  fun _ _ e => nomatch e
theorem CommandOf.errorWindowDeparture : CommandOf.Statement .errorWindowDeparture := fun _ _ e => nomatch e
theorem CommandOf.powerFrame (source : Station) (body : PowerBody) : CommandOf.Statement (.powerFrame source body) :=
  fun _ _ e => Option.some.inj e ▸ rfl
theorem CommandOf.demandFrame (source : Station) (body : DemandBody) : CommandOf.Statement (.demandFrame source body) :=
  fun _ _ e => Option.some.inj e ▸ rfl
theorem CommandOf.presenceFrame (source : Station) (body : PresenceBody) : CommandOf.Statement (.presenceFrame source body) :=
  fun _ _ e => Option.some.inj e ▸ rfl
theorem CommandOf.doorFrame (source : Station) (body : DoorBody) : CommandOf.Statement (.doorFrame source body) :=
  fun _ _ e => Option.some.inj e ▸ rfl
theorem CommandOf.overrideFrame (source : Station) (body : OverrideBody) : CommandOf.Statement (.overrideFrame source body) :=
  fun _ _ e => Option.some.inj e ▸ rfl
theorem CommandOf.statusFrame (source : Station) (body : StatusBody) : CommandOf.Statement (.statusFrame source body) :=
  fun _ _ e => Option.some.inj e ▸ rfl
theorem CommandOf.answerFrame (source : Station) (body : AnswerBody) : CommandOf.Statement (.answerFrame source body) :=
  fun _ _ e => Option.some.inj e ▸ rfl
theorem CommandOf.probeSelect (source : Station) (target collection index : Byte) : CommandOf.Statement (.probeSelect source target collection index) :=
  fun _ _ e => Option.some.inj e ▸ rfl
theorem CommandOf.probeNext (source : Station) (target collection index : Byte) : CommandOf.Statement (.probeNext source target collection index) :=
  fun _ _ e => Option.some.inj e ▸ rfl
theorem CommandOf.probePeek (source : Station) (target collection index : Byte) : CommandOf.Statement (.probePeek source target collection index) :=
  fun _ _ e => Option.some.inj e ▸ rfl
theorem CommandOf.probeClear (source : Station) (target collection index : Byte) : CommandOf.Statement (.probeClear source target collection index) :=
  fun _ _ e => Option.some.inj e ▸ rfl
theorem CommandOf.probeBadOperation (source : Station) (target operation collection index : Byte) : CommandOf.Statement (.probeBadOperation source target operation collection index) :=
  fun h _ e => Option.some.inj e ▸ commandOf_badProbe _ _ _ _ _ h
theorem CommandOf.controlRestart (source : Station) (target set clear : Byte) : CommandOf.Statement (.controlRestart source target set clear) :=
  fun _ _ e => Option.some.inj e ▸ rfl
theorem CommandOf.controlOvrMasks (source : Station) (target set clear : Byte) : CommandOf.Statement (.controlOvrMasks source target set clear) :=
  fun _ _ e => Option.some.inj e ▸ rfl
theorem CommandOf.controlBadOperation (source : Station) (target operation set clear : Byte) : CommandOf.Statement (.controlBadOperation source target operation set clear) :=
  fun h _ e => Option.some.inj e ▸ commandOf_badControl _ _ _ _ _ h
theorem CommandOf.resetPinRelease (pins : StrapPins) : CommandOf.Statement (.resetPinRelease pins) :=
  fun _ _ e => nomatch e

end Sys2Proof.Laws
end

