-- ==== Sys2Proof/Laws/Words.lean ====
section
/-! SUPPORT. The operations of the defrost controller, the override unit, the view and the link controller: what each can
change. -/

namespace Sys2Proof.Machine

/-! ### Defrost -/

theorem modDefrost_only (g : Defrost → Defrost) (s : State) : WordOnly s (s.modDefrost g) :=
  ⟨_, _, _, _, _, _, _, _, _, _, _, _, _, _, rfl⟩

theorem defrostEnter_only (new : DefrostState) (s : State) : WordOnly s (defrostEnter new s) := by
  unfold defrostEnter
  split
  · exact .refl s
  · dsimp only
    split
    · exact .refl s
    · exact ((((modDefrost_only _ s).trans (handOffSingle_only _ _ _ _).toWordOnly).trans
        (commandFan_only _ _ _).toWordOnly).trans (reformClaims_only _).toWordOnly).trans (modDefrost_only _ _)

theorem fogTest_only (s : State) : WordOnly s (fogTest s) := modDefrost_only _ s

theorem defrostCheck_only (s : State) : WordOnly s (defrostCheck s) := by
  unfold defrostCheck
  split
  · exact .refl s
  · dsimp only
    have h := (modDefrost_only (fun d => { d with check := d.check.next 5000 }) s).trans (fogTest_only _)
    split
    · split
      · exact h.trans (defrostEnter_only _ _)
      · exact h
    · split
      · split
        · exact (h.trans (defrostEnter_only _ _)).trans (modDefrost_only _ _)
        · exact h.trans (modDefrost_only _ _)
      · exact h.trans (modDefrost_only _ _)
    · exact h

theorem boostEnter_only (s : State) : WordOnly s (boostEnter s) := (modDefrost_only _ s).trans (defrostEnter_only _ _)

theorem boostExit_only (s : State) : WordOnly s (boostExit s) := by
  unfold boostExit
  split
  · exact .refl s
  · dsimp only
    split
    · exact ((modDefrost_only _ s).trans (fogTest_only _)).trans (defrostEnter_only _ _)
    · exact .refl s

/-! ### Overrides -/

theorem ventGained_only (s : State) : AdoptOnly s (ventGained s) :=
  ((((enterOffAll_only s).trans (ventCurtains_only _)).trans (reformClaims_only _).toAdoptOnly).trans
    (rechooseZoneFans_only _).toAdoptOnly).trans (retarget_only _).toAdoptOnly

theorem ventLost_only (s : State) : AdoptOnly s (ventLost s) :=
  ((reformClaims_only s).toAdoptOnly.trans (rechooseZoneFans_only _).toAdoptOnly).trans (retarget_only _).toAdoptOnly

theorem adopt_only (old : InUse) (s : State) : AdoptOnly s (adopt old s) := by
  unfold adopt
  dsimp only
  have h1 : AdoptOnly s (if old.offsets.ofCar s.straps.car = s.inUse.offsets.ofCar s.straps.car then s
      else writeOffsets (s.inUse.offsets.ofCar s.straps.car) s) := by
    split
    · exact .refl s
    · exact writeOffsets_only _ s
  generalize (if old.offsets.ofCar s.straps.car = s.inUse.offsets.ofCar s.straps.car then s
      else writeOffsets (s.inUse.offsets.ofCar s.straps.car) s) = s1 at h1 ⊢
  have h2 : AdoptOnly s1 (if (s.inUse.flags.ventOnly && !old.flags.ventOnly) = true then ventGained s1
      else if (old.flags.ventOnly && !s.inUse.flags.ventOnly) = true then ventLost s1 else s1) := by
    split
    · exact ventGained_only s1
    · split
      · exact ventLost_only s1
      · exact .refl s1
  generalize (if (s.inUse.flags.ventOnly && !old.flags.ventOnly) = true then ventGained s1
      else if (old.flags.ventOnly && !s.inUse.flags.ventOnly) = true then ventLost s1 else s1) = s2 at h2 ⊢
  have h3 : AdoptOnly s2 (if (s.inUse.flags.eco && !old.flags.eco) = true then capZones s2 else s2) := by
    split
    · exact capZones_only s2
    · exact .refl s2
  generalize (if (s.inUse.flags.eco && !old.flags.eco) = true then capZones s2 else s2) = s3 at h3 ⊢
  have h4 : AdoptOnly s3 (if (s.inUse.flags.layover && !old.flags.layover) = true then layoverCurtains s3 else s3) := by
    split
    · exact layoverCurtains_only s3
    · exact .refl s3
  have h := ((h1.trans h2).trans h3).trans h4
  split
  · exact h
  · exact h.trans (retarget_only _).toAdoptOnly

theorem setInUse_only (new : InUse) (s : State) : UseOnly s (setInUse new s) :=
  UseOnly.trans ⟨_, _, _, _, _, _, _, _, _, _, _, _, rfl⟩ (adopt_only s.inUse _).toUseOnly

theorem takeWord_only (s : State) : UseOnly s (takeWord s) := by
  unfold takeWord
  split
  · exact setInUse_only _ s
  · exact .refl s

theorem handWord_only (f : Frame) (s : State) : UseOnly s (handWord f s) := by
  unfold handWord
  split
  · dsimp only
    split
    · exact takeWord_only s
    · exact (takeWord_only s).trans (queueSingle_only _ _).toUseOnly
  · exact .refl s

theorem changeWord_only (g : OvrWord → OvrWord) (s : State) : WordOnly s (changeWord g s) := by
  unfold changeWord
  split
  · exact .refl s
  · dsimp only
    refine WordOnly.trans ?_ (handWord_only _ _).toWordOnly
    split
    · exact ⟨_, _, _, _, _, _, _, _, _, _, _, _, _, _, rfl⟩
    · split
      · exact WordOnly.trans ⟨_, _, _, _, _, _, _, _, _, _, _, _, _, _, rfl⟩ (boostEnter_only _)
      · exact WordOnly.trans ⟨_, _, _, _, _, _, _, _, _, _, _, _, _, _, rfl⟩ (boostExit_only _)

theorem enterHolding_only (s : State) : UseOnly s (enterHolding s) := ⟨_, _, _, _, _, _, _, _, _, _, _, _, rfl⟩

theorem holdInUse_only (s : State) : UseOnly s (holdInUse s) := by
  unfold holdInUse
  split
  · exact enterHolding_only s
  · exact enterHolding_only s
  · exact .refl s
  · exact .refl s

theorem acceptedChanged_only (new : Option Station) (s : State) : UseOnly s (acceptedChanged new s) := by
  unfold acceptedChanged
  dsimp only
  split
  · exact ((UseOnly.trans ⟨_, _, _, _, _, _, _, _, _, _, _, _, rfl⟩ (takeWord_only _)).trans
      (queueSingle_only _ _).toUseOnly).trans (recheck_only _ _).toUseOnly
  · refine UseOnly.trans ?_ (recheck_only _ _).toUseOnly
    have h : UseOnly s (holdInUse { s with view := { s.view with accepted := new } }) :=
      UseOnly.trans ⟨_, _, _, _, _, _, _, _, _, _, _, _, rfl⟩ (holdInUse_only _)
    split
    · exact h.trans (withdrawOverride_only _).toUseOnly
    · exact h

theorem sourceLost_only (i : Station) (s : State) : UseOnly s (sourceLost i s) := by
  unfold sourceLost
  split
  · exact enterHolding_only s
  · exact .refl s

theorem takeOverride_only (i : Station) (b : OverrideBody) (s : State) : UseOnly s (takeOverride i b s) := by
  unfold takeOverride
  split
  · exact setInUse_only _ s
  · exact .refl s

/-! ### The view -/

theorem reevaluate_only (s : State) : UseOnly s (reevaluate s) := by
  unfold reevaluate
  split
  · exact .refl s
  · exact acceptedChanged_only _ s

theorem entryChanged_only (a b : Entry) (s : State) : UseOnly s (entryChanged a b s) := by
  unfold entryChanged
  dsimp only
  have h : UseOnly s (if a.state = b.state ∧ a.claims = b.claims ∧ a.intents = b.intents then s else recompute s) := by
    split
    · exact .refl s
    · exact (recompute_only s).toUseOnly
  split
  · exact h
  · exact h.trans (reevaluate_only _)

theorem modEntry_only (i : Station) (g : Entry → Entry) (s : State) : ShareOnly s (s.modEntry i g) :=
  ⟨_, _, _, _, _, _, _, rfl⟩

theorem hear_only (i : Station) (f : Frame) (s : State) : UseOnly s (hear i f s) :=
  (modEntry_only i _ s).toUseOnly.trans (entryChanged_only _ _ _)

theorem duplicate_only (s : State) : HandOnly s (duplicate s) := by
  unfold duplicate
  split
  · exact .refl s
  · exact enterIsolated_only s

theorem receivePower_only (i : Station) (b : PowerBody) (s : State) : UseOnly s (receivePower i b s) := by
  unfold receivePower
  split
  · exact (duplicate_only s).toUseOnly
  · split
    · exact (takePower_only b s).toUseOnly
    · exact (hear_only i _ s).trans (latch_only _ _).toUseOnly

theorem ageStation_only (i : Station) (s : State) : UseOnly s (ageStation i s) := by
  unfold ageStation
  split
  · exact .refl s
  · dsimp only
    split
    · exact .refl s
    · have h := (modEntry_only i (fun _ => (s.entry i).aged s.clock) s).toUseOnly.trans
        (entryChanged_only (s.entry i) ((s.entry i).aged s.clock) _)
      split
      · split
        · exact (h.trans (mapDrafts_only _ _).toUseOnly).trans (sourceLost_only i _)
        · exact h.trans (mapDrafts_only _ _).toUseOnly
      · exact h

theorem modView_only (g : View → View) (s : State) : ShareOnly s (s.modView g) := ⟨_, _, _, _, _, _, _, rfl⟩

theorem formAgreement_only (s : State) : ShareOnly s (formAgreement s) := by
  unfold formAgreement
  split
  · exact modView_only _ s
  · exact modView_only _ s

theorem UseOnly.foldl {α : Type} {g : State → α → State} (h : ∀ s a, UseOnly s (g s a)) :
    ∀ (l : List α) (s : State), UseOnly s (l.foldl g s)
  | [], s => .refl s
  | a :: l, s => (h s a).trans (UseOnly.foldl h l (g s a))

theorem ageingExpiry_only (s : State) : UseOnly s (ageingExpiry s) :=
  (((modView_only _ s).toUseOnly.trans (UseOnly.foldl (fun s i => ageStation_only i s) _ _)).trans
    (formAgreement_only _).toUseOnly).trans (demandDue_only _).toUseOnly

/-! ### The contactor feedback (R62, R64) -/

/-- A feedback sample touches the filter and the feedback field only, and the field becomes AGREE, stays, or becomes DISAGREE
with 200 ms from the reset or from now. -/
theorem sampleFeedback_only (reset now : Time) (level : Bool) (st : Stage) :
    ∃ v, st.sampleFeedback reset now level = { st with filter := (st.filter.sample 2 level).1, feedback := v }
      ∧ (v = .agree ∨ v = st.feedback ∨ v = .disagree (.running (timeAfter reset 200))
        ∨ v = .disagree (.running (timeAfter now 200))) := by
  unfold Stage.sampleFeedback
  dsimp only
  by_cases hn : st.filter.level = none
  · simp only [hn, if_true, true_or]
    split
    · exact ⟨_, rfl, .inl rfl⟩
    · split
      · exact ⟨_, rfl, .inr (.inr (.inl rfl))⟩
      · exact ⟨_, rfl, .inr (.inl rfl)⟩
  · simp only [hn, if_false, false_or]
    split
    · split
      · exact ⟨_, rfl, .inl rfl⟩
      · split
        · exact ⟨_, rfl, .inr (.inr (.inr rfl))⟩
        · exact ⟨_, rfl, .inr (.inl rfl)⟩
    · exact ⟨_, rfl, .inr (.inl rfl)⟩

theorem sampleStages_length (reset now : Time) (feedback : BitVec 44) :
    ∀ (i : Nat) (l : List Stage), (sampleStages reset now feedback i l).length = l.length
  | _, [] => rfl
  | i, _ :: l => congrArg Nat.succ (sampleStages_length reset now feedback (i + 1) l)

end Sys2Proof.Machine
end

