-- ==== Sys2Proof/Tests/Slice0.lean ====
section
/-! SUPPORT. The model's own tests: the operand checks on ill-formed terms, the spec's worked cases, one step or two per command
on a small node, and for each obligation with hypotheses a state and operands that meet them. -/

namespace Sys2Proof.Machine.Tests

/-! ### A small node -/

/-- One zone of four stages of size 2 at base setpoint 200. -/
def zoneCfg : ZoneCfg := ⟨4, 2, 200, 20, 8, 30, 2, 400, 5⟩

/-- One door of weight 300 with a curtain stage. -/
def doorCfg : DoorCfg := ⟨[300, 0, 0, 0], 30, 2, 1, 3, 10⟩

/-- A configuration with one zone, one door and the cab group. -/
def cfg : Image :=
  { zones := [zoneCfg], doors := [doorCfg], attenuation := [1000, 300, 100], powerStation := 15, slice := 180
    fullCount := 1000, deadband := 10, fNorm := 300, fMin := 100, fanMin := [4, 4, 4, 4, 4, 4, 4, 4]
    outsidePresent := true, design := -100, cab := ⟨2, 4, 2, 20, 600, 128, 20, 20⟩ }

/-- The zone: measured 190, so an error of +10 at the setpoint 200. -/
def zone0 : Zone :=
  { state := .regulating, measured := some 190, lastValid := some 900, badRun := 0, hold := .stopped
    returnPending := false, pendingOffset := 0, activeOffset := 0, setpoint := 200, integral := 0, demand := 0
    wanted := 0, avail := 4, offer := 0, limited := false, drafts := [], control := .running 2000 }

/-- The door, closed. -/
def door0 : Door := { freshDoor 0 with filter := ⟨some false, 0⟩ }

/-- A stage of an owner at table place `n`. -/
def stage (o : Owner) (n size : Nat) : Stage := freshStage o size n

/-- Three stages: two of the zone, one of the curtain. -/
def stages3 : List Stage := [stage (.zone 0) 0 2, stage (.zone 0) 1 2, stage (.curtain 0) 0 3]

/-- A fan that runs at level 1. -/
def running (f : FanId) : Blower := { Blower.fresh f with state := .running, level := 1, tach := 6 }

/-- A cab node at station 1 that runs and takes part in sharing, with the clock at 1000. -/
def node : State :=
  { pending := [], clock := 1000, phase := .running, loadLimit := .stopped, straps := ⟨1, 0, true, true⟩, config := cfg
    checksum := 0, seq := 14328, scanTimer := .running 1500, sampleTimer := .running 1010, windowTimer := .running 1500
    zones := [zone0], doors := [door0], keys := [⟨some false, 0⟩], stages := stages3, queue := .const []
    pacing := .stopped, attemptDue := false
    alloc := { Alloc.fresh (.running 1400) with
      sharing := .active, line := .live, budget := 20, powerHeard := true, demandConfirmed := true
      allocation := .const 4, announced := .const 4, usable := .const 4 }
    view := { View.fresh ⟨1, 0, true, true⟩ (-100) (.running 1200) with
      entries := (Vector.replicate 16 Entry.absent).set 1 { Entry.own ⟨1, 0, true, true⟩ with intents := .const 4 } }
    link := { Link.fresh .stopped false with presence := .running 1500, override := .running 1600, status := .running 5000 }
    defrost := some (Defrost.fresh (.running 5000)), word := some OvrWord.fresh, inUse := InUse.fresh (some 1)
    fans := [running (.zone 0), Blower.fresh (.curtain 0), Blower.fresh .defrost]
    damper := ⟨.tracking, 300, 300, .stopped, .stopped, .stopped, false, false⟩
    cond := ⟨0, 0⟩, cursor := ⟨none, 0⟩, outputs := .off }

/-- The answer's next state, with a value read from it. -/
def after {α : Type} (c : Instr) (s : State) (f : State → α) : Option α :=
  match exec c s with
  | .next t => some (f t)
  | .fault _ => none
  | .refused _ => none

/-! ### The operand checks, on ill-formed terms -/

theorem test_wellFormed_refuses_long_answer :
    Instr.wellFormed (.answerFrame 2 ⟨1, 0, 0, 0, List.replicate 21 0⟩) = false
      ∧ Instr.wellFormed (.answerFrame 2 ⟨1, 0, 0, 0, List.replicate 20 0⟩) = true := by decide

theorem test_wellFormed_refuses_discard_of_a_valid_frame :
    Instr.wellFormed (.frameDiscard ⟨encodeFrame 2 (.status ⟨0, 0⟩), .idle⟩) = false
      ∧ Instr.wellFormed (.frameDiscard ⟨encodeFrame 2 (.status ⟨0, 0⟩), .stopDominant⟩) = true := by decide +kernel

theorem test_wellFormed_refuses_known_probe_operation :
    Instr.wellFormed (.probeBadOperation 2 1 3 0 0) = false ∧ Instr.wellFormed (.probeBadOperation 2 1 4 0 0) = true := by
  decide

theorem test_wellFormed_refuses_known_control_operation :
    Instr.wellFormed (.controlBadOperation 2 1 1 0 0) = false ∧ Instr.wellFormed (.controlBadOperation 2 1 2 0 0) = true := by
  decide

theorem test_wellFormed_refuses_32_slots :
    Instr.wellFormed (.txAttemptStart 32 false) = false ∧ Instr.wellFormed (.txAttemptStart 31 false) = true := by decide

/-! ### Frames as bytes: headers and payloads written out from the tables of R113 -/

/-- Header and payload with the check of R114 behind them. -/
def checked (body : List Byte) : List Byte := body ++ halfBytes (checkOf body)

/-- R114's check over the digits 1 to 9: the published check value of this polynomial and start value. -/
theorem test_check_value : checkOf [0x31, 0x32, 0x33, 0x34, 0x35, 0x36, 0x37, 0x38, 0x39] = 0x29B1#16 := by decide +kernel

theorem test_decode_presence : decodeCommand (checked [0x12, 6, 0x80, 2, 3, 40, 0xFF, 0xCE]) =
    some (.presenceFrame 2 ⟨true, 0, 2, 3, 40, 0xFFCE⟩) := by decide +kernel

theorem test_decode_demand : decodeCommand (checked [0x22, 9, 8, 3, 12, 0, 4, 3, 10, 0, 7]) =
    some (.demandFrame 2 ⟨⟨8, 3, 12, 0⟩, ⟨4, 3, 10, 0⟩, 7⟩) := by decide +kernel

theorem test_decode_power : decodeCommand (checked [0x3F, 3, 1, 60, 10]) = some (.powerFrame 15 ⟨1, 60, 10⟩) := by decide +kernel

theorem test_decode_door : decodeCommand (checked [0x41, 5, 0x01, 1, 0x01, 0x90, 20]) =
    some (.doorFrame 1 ⟨0, 1, 1, 400, 20⟩) := by decide +kernel

theorem test_decode_override : decodeCommand (checked [0x51, 6, 0x12, 0xF6, 10, 0, 20, 60]) =
    some (.overrideFrame 1 ⟨0x12, 0xF6, 10, 0, 20, 60⟩) := by decide +kernel

theorem test_decode_status : decodeCommand (checked [0x62, 4, 0x80, 0x01, 0xC0, 0x03]) =
    some (.statusFrame 2 ⟨0x8001, 0xC003⟩) := by decide +kernel

theorem test_decode_probe_peek : decodeCommand (checked [0x7E, 4, 1, 2, 6, 9]) = some (.probePeek 14 1 6 9) := by decide +kernel

theorem test_decode_answer : decodeCommand (checked [0x84, 5, 14, 0, 9, 3, 1]) =
    some (.answerFrame 4 ⟨14, 0, 9, 3, [1]⟩) := by decide +kernel

theorem test_decode_control_masks : decodeCommand (checked [0x9E, 4, 1, 1, 0x10, 0x01]) =
    some (.controlOvrMasks 14 1 0x10 0x01) := by decide +kernel

/-- A wrong length for the kind, no kind, a failed check and a cut frame are discarded (R115). -/
theorem test_decode_refuses :
    decodeCommand (checked [0x3F, 4, 1, 60, 10, 0]) = none ∧ decodeCommand (checked [0xA1, 3, 1, 60, 10]) = none
      ∧ decodeCommand [0x3F, 3, 1, 60, 10, 0, 0] = none ∧ decodeCommand [0x3F, 3, 1] = none := by decide +kernel

theorem test_table_words_spell_nothing : decodeTableWord 8 1 = none ∧ node.withFetchWord 8 1 = node := by decide

/-! ### The spec's worked cases -/

/-- Stepping the generator (6.7): the seed of station 4 and its first three draws. -/
theorem test_generator : seedOf 4 4660 = 14328 ∧ seqStep 14328 = 0x6FF1 ∧ seqStep 0x6FF1 = 0xDFE2
    ∧ seqStep 0xDFE2 = 0xBFC5 := by decide

/-- One allocation (4.4). -/
theorem test_allocation : allocate 60 10 ⟨[8, 0, 0], [0, 4, 2], [10, 24, 20], [0, 8, 6]⟩
    = ⟨[8, 0, 0], [0, 4, 2], [8, 20, 17], [0, 5, 4]⟩ := by decide

/-- The zone of 1.6: six stages of size 2, four of them ENERGIZED, offset +10 in car 1, a local door open at 150. -/
def worked : State :=
  let on (n : Nat) : Stage := { stage (.zone 0) n 2 with state := .energized, cls := some .zone, since := some 500 }
  { node with
    straps := ⟨1, 1, false, true⟩, defrost := none, word := none, keys := []
    config := { cfg with zones := [{ zoneCfg with stages := 6, kf := 33 }], fMin := 300 }
    stages := [on 0, on 1, on 2, on 3, stage (.zone 0) 4 2, stage (.zone 0) 5 2]
    zones := [{ zone0 with
      measured := some 196, pendingOffset := 10, activeOffset := 10, setpoint := 210, integral := 4800, wanted := 4
      avail := 6, drafts := [⟨1, 0, .loc, 150, .opened, 300, none⟩] }]
    view := { node.view with agreed := -50, accepted := none }
    inUse := { InUse.fresh none with offsets := ⟨0, 10, 0⟩ }
    alloc := { node.alloc with usable := .const 20, announced := .const 20, allocation := .const 20, budget := 60 } }

/-- The first expiry of 1.6: the integral step is skipped. -/
theorem test_zone_local_door_open :
    after (.controlPeriodExpiry 0) worked (fun t => t.zones.map (fun z => (z.setpoint, z.integral, z.demand, z.wanted)))
      = some [(210, 4800, 987, 6)] := by decide

/-- The later expiry of 1.6: the draft gone, six stages ENERGIZED. -/
theorem test_zone_door_closed :
    after (.controlPeriodExpiry 0)
      { worked with
        stages := worked.stages.map (fun st => { st with state := .energized, cls := some .zone, since := some 500 })
        zones := worked.zones.map (fun z => { z with drafts := [], wanted := 6 }) }
      (fun t => t.zones.map (fun z => (z.setpoint, z.integral, z.demand, z.wanted))) = some [(210, 4912, 844, 5)] := by
  decide

/-- The contributions of 2.6 at 118.00 s, 130.00 s and 140.00 s: a local record closed at 115.43 s, a peer record at 119 s. -/
theorem test_draft_contributions :
    let loc : Draft := ⟨4, 0, .loc, 250, .decay, 300, some 115430⟩
    let peer : Draft := ⟨1, 1, .peer, 120, .decay, 200, some 119000⟩
    State.contribution { node with clock := 118000 } loc = 229 ∧ State.contribution { node with clock := 130000 } loc = 129
      ∧ State.contribution { node with clock := 130000 } peer = 54 ∧ State.contribution { node with clock := 140000 } loc = 45
      ∧ State.contribution { node with clock := 140000 } peer = 0 := by decide

/-- A full list (2.7): the new door takes position 2; weight 35 is dropped. -/
theorem test_full_list :
    let l : List Draft := [⟨4, 0, .loc, 250, .opened, 100, none⟩, ⟨1, 0, .peer, 120, .opened, 100, none⟩,
      ⟨1, 1, .peer, 40, .decay, 100, none⟩, ⟨2, 0, .peer, 90, .opened, 100, none⟩, ⟨6, 2, .peer, 40, .decay, 100, none⟩,
      ⟨7, 0, .peer, 300, .opened, 100, none⟩, ⟨9, 1, .peer, 75, .opened, 100, none⟩, ⟨10, 0, .peer, 110, .decay, 100, none⟩]
    let rec60 : Draft := ⟨3, 0, .peer, 60, .opened, 100, none⟩
    draftOpened (·.weight) rec60 l = l.set 2 rec60
      ∧ draftOpened (·.weight) { rec60 with door := 1, weight := 35 } (l.set 2 rec60) = l.set 2 rec60 := by decide

/-- The frame of 2.6: weight 400 at attenuation 300 joins at 120 with total 200. -/
theorem test_door_frame_joins :
    after (.doorFrame 2 ⟨0, 1, 1, 400, 20⟩)
      { node with config := { cfg with attenuation := [300, 1000, 300] }, straps := ⟨1, 1, false, true⟩ }
      (fun t => t.zones.map (·.drafts)) = some [[⟨2, 1, .peer, 120, .opened, 200, none⟩]] := by decide

/-! ### Reset, load and restart -/

theorem test_power_on_reset : after .powerOnReset { node with pending := [.collision] }
    (fun t => (t.pending, t.phase, t.zones.length, t.alloc.sharing)) = some ([.collision], .held, 0, .joining) := by decide

/-- A car reading of 3 is car 2, with CONFIG_DEFAULTED; no memory: the built-in profile. -/
theorem test_release_without_memory : after (.resetPinRelease ⟨4, 3, true, false⟩) State.reset
    (fun t => (t.straps, t.cond, t.seq, t.config.slice, t.stages.length, t.link.listen)) =
      some (⟨4, 2, false, false⟩, ⟨0, 0x2000⟩, 9668, 180, 4, .running 1000) := by decide

theorem test_release_with_memory : after (.resetPinRelease ⟨4, 1, false, true⟩) State.reset
    (fun t => (t.phase, t.loadLimit, t.cond.latched)) = some (.loading, .running 200, 0) := by decide

/-- The bytes of an image by the layout of R162: one zone, no door, slice 180 s, design value -100. -/
def imageBytes : List Byte :=
  checked ([1, 0] ++ [4, 2, 0, 200, 20, 8, 30, 2, 0x01, 0x90, 5] ++ [0x03, 0xE8, 0x01, 0x2C, 0, 100] ++ [15, 0, 180]
    ++ [0x03, 0xE8, 10, 0x01, 0x2C, 0, 100] ++ [4, 4, 4, 4, 4, 4, 4, 4] ++ [1, 0xFF, 0x9C]
    ++ [2, 4, 2, 20, 0x02, 0x58, 128, 20, 20])

theorem test_image_is_read : (loadImage imageBytes).map (·.1) = some { cfg with doors := [] } := by decide +kernel

theorem test_image_of_another_check_is_not : loadImage (imageBytes.set 20 1) = none := by decide +kernel

theorem test_image_read_done_abandoned : after (.imageReadDone none) { State.reset with phase := .loading }
    (fun t => (t.phase, t.config.slice, t.cond.latched)) = some (.running, 180, 0x2000) := by decide

theorem test_image_read_timeout : after .imageReadTimeout { State.reset with phase := .loading, loadLimit := .running 200 }
    (fun t => (t.phase, t.clock, t.config.zones.length)) = some (.running, 200, 1) := by decide

theorem test_control_restart : after (.controlRestart 14 1 0 0) { node with cond := ⟨0x4000, 0x4001⟩ }
    (fun t => (t.link.warmListen, t.cond, t.stages.length, t.clock, t.word)) =
      some (true, ⟨0, 0x4001⟩, 9, 1000, some OvrWord.fresh) := by decide

/-- PRESENCE, DEMAND, OVERRIDE, STATUS in this order, and the transmit-failure timer starts (R123, R125). -/
theorem test_join_listen_end :
    after .joinListenEnd { node with link := Link.fresh (.running 1000) false }
      (fun t => (t.link.list.map (fun w => (kindCode w.frame).toNat), t.link.failure)) =
        some ([1, 2, 5, 6], .running 2000) := by decide

/-! ### Zones -/

/-- The third bad scan in a row takes a measured zone to HOLDING for 60 s (R5). -/
theorem test_scan_third_bad : after (.sensorScan ⟨[], .answer (-50), .silent, .silent⟩)
    { node with zones := [{ zone0 with badRun := 2 }] }
    (fun t => (t.zones.map (fun z => (z.state, z.badRun, z.hold)), t.ownEntry.outside, t.cond.current)) =
      some ([(.holding, 3, .running 61500)], some (-50), 1) := by decide

/-- The scan of a zone in HOLDING after three bad ones. -/
def rescanned : Option State := after (.sensorScan ⟨[(5, .answer 205)], .silent, .answer 180 850, .answer 160⟩)
  { node with zones := [{ zone0 with state := .holding, badRun := 3, hold := .running 61500 }] } id

theorem test_scan_valid_after_bad :
    rescanned.map (fun t => t.zones.map (fun z => (z.state, z.measured, z.badRun))) = some [(.holding, some 205, 0)]
      ∧ rescanned.map (fun t => t.zones.map (fun z => (z.hold, z.returnPending))) = some [(.stopped, true)]
      ∧ rescanned.map (fun t => t.defrost.map (fun d => (d.cabTemp, d.humidity, d.screen))) =
        some (some (some 180, some 850, some 160)) := by decide

theorem test_hold_timer : after (.holdTimerExpiry 0) { node with zones := [{ zone0 with state := .holding, hold := .running 1100 }] }
    (fun t => (t.zones.map (·.state), t.cond.current)) = some ([.fallback], 1) := by decide

/-! ### Doors -/

/-- The second differing sample of the door. -/
def openedDoor : Option State :=
  after (.inputSample ⟨1, 0, 0, 0⟩) { node with doors := [{ door0 with filter := ⟨some false, 1⟩ }] } id

/-- It opens the door: the curtain wanted and its stage queued, a DOOR frame, the damper told (R27). -/
theorem test_sample_opens_door :
    openedDoor.map (fun t => t.doors.map (fun d => (d.state, d.openCount, d.curtain))) = some [(.opened, 1, .wanted)]
      ∧ openedDoor.map (fun t => (t.queue.curtain, t.ownEntry.claims.curtain)) = some ([2], 3)
      ∧ openedDoor.map (fun t => (t.link.list.filter (fun w => w.frame.isDoor)).map (·.frame)) =
        some [.door ⟨0, 0, 1, 300, 30⟩]
      ∧ openedDoor.map (fun t => t.damper.doorOpen) = some true := by decide

/-- The fourth differing sample of the ECO key is a press (R142). -/
theorem test_sample_key_press : after (.inputSample ⟨0, 1, 0, 0⟩) { node with keys := [⟨some false, 3⟩] }
    (fun t => (t.word.map (·.flags.eco), t.inUse.flags.eco, t.link.list.map (fun w => (kindCode w.frame).toNat))) =
      some (some true, true, [5]) := by decide

/-- Door STUCK: a quarter of the weight, the curtain barred, DOOR_STUCK (R29). -/
theorem test_stuck_timer : after (.stuckTimerExpiry 0)
    { node with doors := [{ door0 with state := .opened, stuck := .running 1100, curtain := .wanted, filter := ⟨some true, 0⟩ }] }
    (fun t => (t.doors.map (fun d => (d.state, d.curtain)), t.cond.current,
      (t.link.list.filter (fun w => w.frame.isDoor)).map (·.frame))) =
      some ([(.stuck, .barred)], 8, [.door ⟨0, 0, 1, 75, 30⟩]) := by decide

theorem test_layover_mark : after (.layoverMarkExpiry 0)
    { node with
      doors := [{ door0 with state := .opened, layoverMark := .running 1100, curtain := .wanted, filter := ⟨some true, 0⟩ }]
      inUse := { node.inUse with flags := ⟨false, false, false, true, false⟩ } }
    (fun t => t.doors.map (fun d => (d.state, d.curtain, d.layoverMark))) = some [(.opened, .barred, .stopped)] := by decide

theorem test_run_on : after (.runOnExpiry 0) { node with doors := [{ door0 with curtain := .runOn, runOn := .running 1100 }] }
    (fun t => t.doors.map (fun d => (d.curtain, d.runOn))) = some [(.off, .stopped)] := by decide

/-! ### Stages -/

/-- A queued stage of the zone and room for it: it comes on, and the pacing timer runs 20 ms × (1 + 1) (6.7, R56). -/
def queued1 : State :=
  { node with
    pacing := .running 1000, queue := ⟨[], [], [1], []⟩, zones := [{ zone0 with wanted := 1 }]
    stages := [stage (.zone 0) 0 2, { stage (.zone 0) 1 2 with state := .queued, cls := some .zone }, stage (.curtain 0) 0 3] }

theorem test_pacing_admits : after .pacingExpiry queued1
    (fun t => (t.stages.map (fun st => (st.state, st.wear)), t.queue.zone, t.pacing, t.seq, t.outputs.stages)) =
      some ([(.idle, 0), (.energized, 1), (.idle, 0)], [], .running 1040, 0x6FF1, [false, true, false]) := by decide

/-- No room: the stage that heats rotates out for the waiting one of its size (R59). -/
def rotating : State :=
  { queued1 with
    pacing := .running 5000, zones := [{ zone0 with wanted := 2 }]
    alloc := { node.alloc with usable := .const 2, announced := .const 2, allocation := .const 2 }
    stages := [{ stage (.zone 0) 0 2 with
        state := .energized, cls := some .zone, since := some 900, sliceStart := some 900, slice := .running 180900 },
      { stage (.zone 0) 1 2 with state := .queued, cls := some .zone }, stage (.curtain 0) 0 3] }

theorem test_slice_rotates : after (.sliceExpiry 0) rotating
    (fun t => (t.stages.map (·.state), t.queue.zone)) = some ([.queued, .queued, .idle], [1, 0]) := by decide

/-- A contactor that reads closed at the first sample after a reset at 1000 faults 200 ms after the reset (R62). -/
theorem test_welded_at_reset : after (.inputSample ⟨0, 0, 0, 1⟩) node (fun t => t.stages.map (·.feedback)) =
    some [.disagree (.running 1200), .agree, .agree] := by decide

theorem test_feedback_fault : after (.feedbackFault 0)
    { rotating with stages := rotating.stages.modify 0 (fun st => { st with feedback := .disagree (.running 1100) }) }
    (fun t => (t.stages.map (·.state), t.zones.map (fun z => (z.avail, z.wanted)), t.cond.current)) =
      some ([.faulty, .queued, .idle], [(3, 2)], 0x20) := by decide

/-! ### Air -/

theorem test_window_fails_a_fan : after .tachWindowExpiry
    { rotating with fans := [{ running (.zone 0) with tach := 3 }, Blower.fresh (.curtain 0), Blower.fresh .defrost] }
    (fun t => (t.fans.map (·.state), t.stages.map (·.state), t.queue.zone, t.cond.current)) =
      some ([.failed, .stopped, .stopped], [.queued, .queued, .idle], [0, 1], 0x10) := by decide

theorem test_start_limit : after (.startTimerExpiry (.zone 0))
    { node with fans := [{ Blower.fresh (.zone 0) with state := .starting, level := 1, start := .running 1200 }] }
    (fun t => t.fans.map (fun b => (b.state, b.retry))) = some [(.failed, .running 31200)] := by decide

theorem test_retry : after (.retryTimerExpiry (.zone 0))
    { node with fans := [{ Blower.fresh (.zone 0) with state := .failed, level := 1, retrying := true, retry := .running 1200 }] }
    (fun t => t.fans.map (fun b => (b.state, b.start, b.retrying))) = some [(.starting, .running 4200, true)] := by decide

theorem test_encoder_opening : after (.encoderStep .opening) node (fun t => t.damper.position) = some 301 := by decide

theorem test_encoder_at_the_end_stop : after (.encoderStep .closing) { node with damper := { node.damper with position := 0 } }
    (fun t => (t.damper.position, t.damper.motor, t.damper.stall)) = some (0, .opening, .running 1500) := by decide

theorem test_stall_in_tracking : after .stallTimerExpiry { node with damper := ⟨.tracking, 280, 300, .opening, .running 1200, .stopped, false, false⟩ }
    (fun t => (t.damper, t.cond.current)) =
      some (⟨.stalled, 280, 300, .stopped, .stopped, .running 1700, true, false⟩, 0x40) := by decide

theorem test_rest_ends : after .restTimerExpiry { node with damper := ⟨.stalled, 280, 300, .stopped, .stopped, .running 1200, true, false⟩ }
    (fun t => (t.damper.state, t.damper.motor, t.damper.stall)) = some (.homing, .closing, .running 1700) := by decide

/-! ### Sharing -/

/-- A stage that heats in class ZONE, with its usable intent. -/
def heating : State :=
  { node with
    zones := [{ zone0 with wanted := 1 }]
    stages := [{ stage (.zone 0) 0 2 with
        state := .energized, cls := some .zone, since := some 900, sliceStart := some 900, slice := .running 180900 },
      stage (.zone 0) 1 2, stage (.curtain 0) 0 3] }

theorem test_power_gap_suspends : after (.powerFrame 15 ⟨1, 60, 10⟩) heating
    (fun t => (t.alloc.sharing, t.alloc.budget, t.alloc.surplus, t.alloc.gap, t.stages.map (·.state))) =
      some (.gapHold, 20, 0, .running 4000, [.suspended, .idle, .idle]) := by decide

theorem test_power_dead_sheds : after (.powerFrame 15 ⟨2, 6, 1⟩) heating
    (fun t => (t.alloc.sharing, t.alloc.budget, t.alloc.usable, t.stages.map (·.state), t.queue.zone)) =
      some (.active, 6, .const 0, [.queued, .idle, .idle], [0]) := by decide

theorem test_silence : after .silenceExpiry heating
    (fun t => (t.alloc.sharing, t.alloc.budget, t.alloc.silence, t.stages.map (·.state), t.cond.current)) =
      some (.silent, 0, .expired, [.queued, .idle, .idle], 0x80) := by decide

theorem test_gap_timer : after .gapTimerExpiry
    { heating with alloc := { heating.alloc with sharing := .gapHold, line := .gap, gap := .running 4000 } }
    (fun t => (t.alloc.sharing, t.alloc.usable, t.alloc.announced, t.alloc.raisePending)) =
      some (.active, .const 0, .const 4, true) := by decide

theorem test_hold_off : after .holdOffExpiry
    { node with alloc := { node.alloc with usable := .const 0, announced := ⟨1, 2, 3, 4⟩, holdOff := .running 1200 } }
    (fun t => (t.alloc.usable, t.alloc.holdOff)) = some (⟨1, 2, 3, 4⟩, .stopped) := by decide

/-! ### The view -/

/-- The node with a peer at station 2 in a state, heard at a time. -/
def withPeer (e : EntryState) (at_ : Time) : State :=
  node.modEntry 2 (fun x => { x with state := e, lastHeard := some at_, draw := 3 })

/-- The cab node while a lower cab station, station 0, is accepted: heard long ago, and ROLE_CONFLICT current. -/
def conflict : State :=
  let s : State := { node with
    view := { node.view with accepted := some 0 }, cond := ⟨0x400, 0x400⟩
    inUse := { node.inUse with mode := .holding, hold := .running 50000 } }
  s.modEntry 0 (fun x => { x with state := .stale, car := some 0, cab := true, lastHeard := some (0 - 800) })

theorem test_demand_frame : after (.demandFrame 2 ⟨⟨8, 3, 12, 0⟩, ⟨4, 3, 10, 0⟩, 7⟩) node
    (fun t => (t.entry 2).state) = some .alive
    ∧ after (.demandFrame 2 ⟨⟨8, 3, 12, 0⟩, ⟨4, 3, 10, 0⟩, 7⟩) node
      (fun t => ((t.entry 2).claims, (t.entry 2).intents, (t.entry 2).draw)) = some (⟨8, 3, 12, 0⟩, ⟨4, 3, 10, 0⟩, 7) := by
  decide

/-- A cab node in car 0 with a lower number takes the acceptance: ROLE_CONFLICT, and HOLDING for 60 s (R106, R107, R149). -/
theorem test_presence_of_a_lower_cab : after (.presenceFrame 0 ⟨true, 0, 1, 0, 8, 0xFFCE⟩) node
    (fun t => (t.view.accepted, t.inUse.mode, t.inUse.hold, t.cond.current, (t.entry 0).outside)) =
      some (some 0, .holding, .running 61000, 0x400, some (-50)) := by decide

theorem test_status_and_answer_are_heard :
    after (.statusFrame 2 ⟨1, 1⟩) (withPeer .stale 300) (fun t => ((t.entry 2).state, (t.entry 2).lastHeard)) =
        some (.alive, some 1000)
      ∧ after (.answerFrame 2 ⟨14, 0, 9, 3, [1]⟩) (withPeer .stale 300) (fun t => (t.entry 2).state) = some .alive := by decide

theorem test_foreign_power : after (.powerFrame 2 ⟨0, 60, 10⟩) (withPeer .alive 900)
    (fun t => (t.alloc.budget, t.cond.current, t.cond.latched)) = some (20, 0, 0x800) := by decide

theorem test_own_number_isolates : after (.statusFrame 1 ⟨0, 0⟩) heating
    (fun t => (t.alloc.sharing, t.ownEntry.claims, t.cond.current)) = some (.isolated, .const 0, 0x200) := by decide

/-- 600 ms make an entry STALE, 2 s LOST (R101): the ages at the expiry at 1200. -/
theorem test_ageing : after .ageingExpiry (withPeer .alive 600) (fun t => (t.entry 2).state) = some .stale
    ∧ after .ageingExpiry (withPeer .alive 601) (fun t => (t.entry 2).state) = some .alive
    ∧ after .ageingExpiry (withPeer .stale (0 - 800)) (fun t => ((t.entry 2).state, (t.entry 2).draw)) = some (.lost, 0) := by
  decide +kernel

theorem test_agreement_hold : after .agreementHoldExpiry
    { node with view := { node.view with agreed := 30, source := .held, hold := .running 1500 } }
    (fun t => (t.view.agreed, t.view.source, t.view.hold)) = some (-100, .design, .stopped) := by decide

/-- Two reports: the lower of the middle two (R104). -/
theorem test_median : median [40, -10] = some (-10) ∧ median [40, -10, 20] = some 20 := by decide

/-! ### The link -/

/-- A DEMAND entry at the head, with the node's figures. -/
def waiting : State :=
  { node with link := { node.link with list := [⟨node.demandFrame, 0, 0, false⟩], failure := .running 2000 } }

/-- A transmit failure in JOINING sheds: the intents go 4, 0, 4 and the draw stands at 0, and the waiting DEMAND entry in its
attempt is replaced all the same (R89, R120). -/
theorem test_shed_replaces_the_waiting_demand : after .txFailureExpiry
    { node with
      alloc := { node.alloc with sharing := .joining }
      link := { node.link with
        list := [⟨node.demandFrame, 3, 2, false⟩], failure := .running 2000
        attempt := some ⟨node.demandFrame, encodeFrame 1 node.demandFrame, false⟩ } }
    (fun t => (t.alloc.announced, (t.link.list.take 1).map (fun w => (w.frame == node.demandFrame, w.failed, w.replaced)))) =
      some (.const 4, [(true, 0, true)]) := by decide +kernel

/-- A rotation takes the draw 2, 0, 2 in one event, and the waiting DEMAND entry takes both changes (R59, R66, R120). -/
theorem test_rotation_replaces_the_waiting_demand :
    let s : State := { rotating with pacing := .stopped }.modEntry 1 (fun x => { x with draw := 2 })
    after (.sliceExpiry 0) { s with link := { s.link with list := [⟨s.demandFrame, 3, 2, false⟩] } }
      (fun t => (t.stages.map (·.state), t.link.list.map (fun w => (w.frame == s.demandFrame, w.failed)))) =
        some ([.queued, .energized, .idle], [(true, 0)]) := by decide +kernel

/-- The attempt sends the entry's contents in a DEMAND frame of 9 payload bytes under station 1 (R113, R161). -/
theorem test_attempt : after (.txAttemptStart 0 false) waiting
    (fun t => t.link.attempt.map (fun a => (a.carried, a.bytes.take 2, a.bytes.length, a.withdrawn))) =
      some (some (node.demandFrame, [0x21, 9], 13, false)) := by decide +kernel

/-- The attempt of the DEMAND entry. -/
def onLine : Attempt := ⟨node.demandFrame, encodeFrame 1 node.demandFrame, false⟩

theorem test_attempt_waits : after (.txAttemptStart 2 false)
    { waiting with link := { waiting.link with list := [⟨node.demandFrame, 3, 5, false⟩] } }
    (fun t => (t.link.attempt, t.link.list.map (·.backoff))) = some (none, [3]) := by decide

/-- The draw 17 ANDed with 1 is 1 slot (6.8). -/
theorem test_collision : after .collision { waiting with link := { waiting.link with attempt := some onLine } }
    (fun t => (t.seq, t.link.list.map (fun w => (w.failed, w.backoff)))) = some (0x6FF1, [(1, 1)]) := by decide

theorem test_eighth_failure_drops : after .collision
    { waiting with link := { waiting.link with
        attempt := some onLine, list := [⟨node.demandFrame, 7, 0, false⟩] } }
    (fun t => (t.seq, t.link.list, t.link.spacing, t.link.failure)) = some (14328, [], .running 1050, .running 2000) := by
  decide

/-- A confirmed DEMAND frame that covers a pending raise starts the hold-off of 400 ms (R76). -/
theorem test_confirmation : after .frameConfirmed
    { waiting with
      alloc := { node.alloc with raisePending := true }
      link := { waiting.link with attempt := some onLine } }
    (fun t => (t.link.list, t.link.failure, t.link.spacing, t.alloc.holdOff, t.alloc.raisePending)) =
      some ([], .stopped, .running 1050, .running 1400, false) := by decide

theorem test_ninth_discard : after (.frameDiscard ⟨[0x3F], .idle⟩)
    { node with link := { node.link with window := List.replicate 8 900 } }
    (fun t => (t.link.window.length, t.cond.current)) = some (9, 0x8000) := by decide

theorem test_window_departure : after .errorWindowDeparture
    { node with link := { node.link with window := 100 :: List.replicate 8 900 }, cond := ⟨0x8000, 0x8000⟩ }
    (fun t => (t.link.window.length, t.cond, t.clock)) = some (8, ⟨0, 0x8000⟩, 1100) := by decide

theorem test_tx_failure : after .txFailureExpiry { heating with link := waiting.link }
    (fun t => (t.alloc.sharing, t.stages.map (·.state), t.link.failure, t.cond.current)) =
      some (.muted, [.queued, .idle, .idle], .expired, 0x100) := by decide

theorem test_spacing : after .spacingExpiry { node with link := { node.link with spacing := .running 1040, due := true } }
    (fun t => (t.link.list.map (fun w => (kindCode w.frame).toNat), t.link.due, t.link.spacing)) =
      some ([2], false, .stopped) := by decide

theorem test_presence_timer : after .presenceTimerExpiry node (fun t => (t.link.list.map (·.frame), t.link.presence)) =
    some ([.presence ⟨true, 0, 1, 1, 7, 0x8000⟩], .running 2500) := by decide

theorem test_override_and_status_timers :
    after .overrideTimerExpiry node (fun t => t.link.list.map (·.frame)) = some [.override ⟨0, 0, 0, 0, 0, 0⟩]
      ∧ after .statusTimerExpiry { node with cond := ⟨1, 3⟩, zones := [{ zone0 with state := .holding }] }
        (fun t => t.link.list.map (·.frame)) = some [.status ⟨1, 3⟩] := by decide

/-! ### Defrost and overrides -/

/-- The check at 300.000 s of 7.9: Td 150, fog risk at 160, DEMIST with the sweep. -/
def fogged : State :=
  { node with defrost := some { Defrost.fresh (.running 5000) with cabTemp := some 180, humidity := some 850, screen := some 160 } }

theorem test_defrost_check : after .defrostCheck fogged
    (fun t => t.defrost.map (fun d => (d.state, d.dew, d.fogRisk, d.louvreTimer))) =
      some (some (.demist, some 150, true, .running 5200)) := by decide

/-- The third clear check (7.9 at 345 s): OFF, the counter back at 0. -/
theorem test_defrost_third_clear : after .defrostCheck
    { node with defrost := some { Defrost.fresh (.running 5000) with
        state := .demist, cabTemp := some 180, humidity := some 850, screen := some 186, clearCount := 2, louvre := 15
        louvreTimer := .running 5100 } }
    (fun t => (t.defrost.map (fun d => (d.state, d.clearCount, d.louvre, d.louvreTimer)), t.outputs.louvre)) =
      some (some (.off, 0, 0, .stopped), 128) := by decide

/-- The boost that ends clear (7.9 at 961.400 s): the flag cleared, the figure 0, OFF. -/
def boosting : State :=
  { node with
    word := some { OvrWord.fresh with flags := ⟨false, false, false, false, true⟩ }
    inUse := { node.inUse with flags := ⟨false, false, false, false, true⟩, boost := 1 }
    defrost := some { Defrost.fresh (.running 5000) with
      state := .boost, cabTemp := some 205, humidity := some 600, screen := some 214, boost := .running 1400, boostLeft := 2
      boostFall := .running 1200, louvre := 19, louvreTimer := .running 1200 } }

theorem test_boost_ends : after .boostTimerExpiry boosting
    (fun t => (t.word.map (·.flags.boost), t.defrost.map (fun d => (d.state, d.boostLeft)), t.inUse.flags.boost,
      t.inUse.boost)) = some (some false, some (.off, 0), false, 0) := by decide

theorem test_boost_falls : after .boostRemainingFall boosting
    (fun t => (t.defrost.map (·.boostLeft), t.inUse.boost, t.link.list.map (fun w => (kindCode w.frame).toNat))) =
      some (some 1, 1, [5]) := by decide

theorem test_louvre_peak : after .louvreStep boosting
    (fun t => (t.defrost.map (fun d => (d.louvre, d.direction)), t.outputs.louvre)) = some (some (20, .down), 148) := by decide

/-- LAYOVER set at a limit of 20 min (R144): the fall to 19, and the expiry. -/
def inLayover : State :=
  { node with
    word := some { OvrWord.fresh with
      flags := ⟨false, false, false, true, false⟩, layover := .running 1201000, layoverLeft := 20, layoverFall := .running 61000 }
    inUse := { node.inUse with flags := ⟨false, false, false, true, false⟩, layover := 20 } }

theorem test_layover_falls : after .layoverMinutesFall inLayover
    (fun t => (t.word.map (fun w => (w.layoverLeft, w.layoverFall)), t.inUse.layover)) =
      some (some (19, .running 121000), 19) := by decide

theorem test_layover_ends : after .layoverTimerExpiry inLayover
    (fun t => (t.word.map (fun w => (w.flags.layover, w.layoverLeft)), t.inUse.flags.layover, t.clock)) =
      some (some (false, 0), false, 1201000) := by decide

/-- A node in car 1 that accepts station 0, an ALIVE cab. -/
def follower : State :=
  let s : State := { worked with view := { worked.view with accepted := some 0 } }
  s.modEntry 0 (fun x => { x with state := .alive, car := some 0, cab := true, lastHeard := some 900 })

/-- Offsets are cut to steps of 5 toward 0 and clamped (R148): 0xF6 is -10, 12 is 10; the zone's pending offset follows. -/
theorem test_override_frame : after (.overrideFrame 0 ⟨0x05, 40, 0xF6, 12, 61, 121⟩) follower
    (fun t => (t.inUse.offsets, t.inUse.flags, t.inUse.layover, t.zones.map (fun z => (z.pendingOffset, z.wanted)))) =
      some (⟨30, -10, 10⟩, ⟨true, false, true, false, false⟩, 60, [(-10, 3)]) := by decide

/-- A change of target that reverses the motor at the moment of the stall timer's expiry leaves the expiry standing, so that
the stall is taken (R160); one before it restarts the timer (R159). -/
theorem test_reversal_at_the_stall :
    let opening (stall : Timer) : State := { follower with
      config := { follower.config with fMin := 100 }, damper := ⟨.tracking, 200, 300, .opening, stall, .stopped, false, false⟩ }
    let read (t : State) : Motor × Nat × Timer := (t.damper.motor, t.damper.target, t.damper.stall)
    after (.overrideFrame 0 ⟨4, 0, 0, 0, 0, 0⟩) (opening (.running 1000)) read = some (.closing, 100, .running 1000)
      ∧ after (.overrideFrame 0 ⟨4, 0, 0, 0, 0, 0⟩) (opening (.running 1001)) read = some (.closing, 100, .running 1500) := by
  decide

theorem test_override_silence : after .overrideSilenceExpiry
    { follower with inUse := { follower.inUse with mode := .following, source := some 0, silence := .running 1100 } }
    (fun t => (t.inUse.mode, t.inUse.silence, t.inUse.hold)) = some (.holding, .stopped, .running 61100) := by decide

theorem test_override_reverts : after .overrideHoldExpiry
    { follower with inUse := { follower.inUse with mode := .holding, source := some 0, hold := .running 1100 } }
    (fun t => (t.inUse.mode, t.inUse.source, t.inUse.offsets, t.zones.map (·.pendingOffset))) =
      some (.default, none, ⟨0, 0, 0⟩, [0]) := by decide

/-- A state with the service tool, station 14, ALIVE in the view. -/
def heardTool (s : State) : State := s.modEntry 14 (fun x => { x with state := .alive, lastHeard := some 900 })

/-- The mask frame of 8.9: ECO lost, RECIRC gained, DEFROST_BOOST where it began. -/
def masked : Option State := after (.controlOvrMasks 14 1 0x14 0x11)
  { node with
    word := some { OvrWord.fresh with flags := ⟨true, false, false, false, false⟩ }
    inUse := { node.inUse with flags := ⟨true, false, false, false, false⟩ } } id

theorem test_mask_frame :
    masked.map (fun t => t.word.map (·.flags)) = some (some ⟨false, false, true, false, false⟩)
      ∧ masked.map (fun t => (t.inUse.flags.eco, t.inUse.flags.recirc, t.defrost.map (·.state))) =
        some (false, true, some .off)
      ∧ masked.map (fun t => (t.damper.target, t.outputs.lamps.recirc)) = some (100, true) := by decide

/-- The same frame to a node that is no cab node: REFUSED (8.9). -/
theorem test_mask_frame_refused : after (.controlOvrMasks 14 1 0x14 0x11) (heardTool worked)
    (fun t => t.link.list.map (·.frame)) = some [.answer ⟨14, 2, 255, 255, []⟩] := by decide

/-! ### Service -/

theorem test_select : after (.probeSelect 14 1 9 3) (heardTool node) (fun t => (t.cursor, t.link.list.length)) = some (⟨some .conditions, 3⟩, 0) := by
  decide

theorem test_select_of_no_collection : after (.probeSelect 14 1 3 0) (heardTool node) (fun t => (t.cursor, t.link.list.map (·.frame))) =
    some (⟨none, 0⟩, [.answer ⟨14, 2, 3, 0, []⟩]) := by decide

theorem test_next : after (.probeNext 14 1 0 0) (heardTool { node with cursor := ⟨some .conditions, 3⟩, cond := ⟨0, 8⟩ })
    (fun t => (t.cursor.index, t.link.list.map (·.frame))) = some (4, [.answer ⟨14, 0, 9, 3, [0, 1]⟩]) := by decide

theorem test_peek_past_the_end : after (.probePeek 14 1 0 0) (heardTool { node with cursor := ⟨some .conditions, 16⟩ })
    (fun t => (t.cursor.index, t.link.list.map (·.frame))) = some (16, [.answer ⟨14, 1, 9, 16, []⟩]) := by decide

/-- CLEAR keeps the latch of what is current: HOLDING holds ZONE_SENSOR (R170). -/
theorem test_clear : after (.probeClear 14 1 0 0) (heardTool { node with cond := ⟨1, 9⟩, zones := [{ zone0 with state := .holding }] })
    (fun t => (t.cond, t.link.list.map (·.frame))) = some (⟨1, 1⟩, [.answer ⟨14, 0, 9, 255, [0, 1, 0, 1]⟩]) := by decide

theorem test_bad_operations :
    after (.probeBadOperation 14 1 4 0 0) (heardTool node) (fun t => t.link.list.map (·.frame)) = some [.answer ⟨14, 2, 255, 255, []⟩]
      ∧ after (.controlBadOperation 14 1 2 0 0) (heardTool node) (fun t => t.link.list.map (·.frame)) =
        some [.answer ⟨14, 2, 255, 255, []⟩] := by decide

/-! ### For each obligation with hypotheses: a state and operands that meet them -/

theorem node_ready : node.Ready := ⟨rfl, rfl⟩

/-- The queue is empty and every stage IDLE. -/
theorem idle_queue (s : State) (hq : s.queue = .const []) (hs : s.stages = stages3) : s.QueueSound := by
  intro c
  have hl : s.queue.get c = [] := by rw [hq]; cases c <;> rfl
  have idle : ∀ st ∈ stages3, st.state = .idle := by decide
  rw [hl]
  refine ⟨.nil, fun i => ⟨fun h => (List.not_mem_nil h).elim, fun ⟨st, h, hs', _⟩ => ?_⟩⟩
  rw [idle st (hs ▸ List.mem_of_getElem? h)] at hs'
  cases hs'

theorem witness_StepOnAnEmptyQueue :
    (node.pending = [] ∧ ∀ p ∈ timers node, p.1.isDue node.clock = false)
      ∧ (let s : State := { node with clock := 1200 }
        timers s = (timers s).take 11 ++ (.running 1200, .ageingExpiry) :: (timers s).drop 12
          ∧ (∀ q ∈ (timers s).take 11, q.1.isDue s.clock = false) ∧ (Timer.running 1200).isDue s.clock = true) := by
  decide +kernel

theorem witness_CommandsLeaveTheQueue : ∃ t, exec .collision { node with pending := [.collision] } = .next t := ⟨_, rfl⟩

theorem witness_PowerOnResetHoldsTheNode : startsUp .collision = false ∧ State.reset.phase ≠ .running := by decide

theorem witness_ReleaseTakesTheStraps : State.reset.phase = .held ∧ State.reset.attemptDue = false
    ∧ (StrapPins.mk 4 3 true true).memory = true ∧ (StrapPins.mk 4 0 true false).memory = false := by decide

/-- A node that loads, 200 ms from the limit. -/
def loading : State := { State.reset with phase := .loading, loadLimit := .running 200 }

theorem witness_ImageReadEnds : loading.phase = .loading ∧ loading.attemptDue = false
    ∧ (∃ check, loadImage imageBytes = some ({ cfg with doors := [] }, check)) ∧ loadImage (imageBytes.take 50) = none
    ∧ loading.loadLimit = .running 200 :=
  ⟨rfl, rfl, ⟨checkOf (imageBytes.take 49), by decide +kernel⟩, by decide +kernel, rfl⟩

theorem witness_InstalledImageIsSound : ∃ check, loadImage imageBytes = some ({ cfg with doors := [] }, check) :=
  ⟨checkOf (imageBytes.take 49), by decide +kernel⟩

/-- The image of the smallest table laid out by R162: its fields lie in range, and its bytes give them. -/
theorem witness_InstalledImageIsSound_layout :
    let c : Image := { cfg with doors := [] }
    let two (n : Nat) : List Byte := [BitVec.ofNat 8 (n / 256), BitVec.ofNat 8 n]
    let layout : List Byte := [1, 0] ++ ([4, 2] ++ two 200 ++ [20, 8, 30, 2] ++ two 400 ++ [5]) ++ [1000, 300, 100].flatMap two
      ++ [15] ++ two 180 ++ two 1000 ++ [10] ++ two 300 ++ two 100 ++ List.replicate 8 4 ++ [1#8] ++ two 65436
      ++ [2, 4, 2, 20] ++ two 600 ++ [128, 20, 20]
    imageBytes.take 51 = layout ++ halfBytes (checkOf layout) ∧ 40 + 11 * c.zones.length + 13 * c.doors.length = 51
      ∧ imageInRange c = true := by decide +kernel

/-- A node in the join listen of a warm restart. -/
def inWarmListen : State := { node with link := Link.fresh (.running 1500) true }

theorem witness_WarmRestartRebuilds : node.Ready ∧ inWarmListen.Ready ∧ (14 : Station) ≠ node.straps.station
    ∧ (14 : Station) ≠ node.config.powerStation ∧ (1 : Byte).toNat = node.straps.station.val
    ∧ (node.listening && node.link.warmListen) = false ∧ (inWarmListen.listening && inWarmListen.link.warmListen) = true
    ∧ (2 : Byte).toNat ≠ node.straps.station.val :=
  ⟨node_ready, ⟨rfl, rfl⟩, by decide, by decide, by decide, by decide, by decide, by decide⟩

/-- A node in its join listen with a DOOR entry and an ANSWER waiting. -/
def inListen : State :=
  { node with link := { Link.fresh (.running 1500) false with
      list := [⟨.door ⟨0, 0, 1, 300, 30⟩, 0, 0, false⟩, ⟨.answer ⟨14, 2, 255, 255, []⟩, 0, 0, false⟩] } }

theorem witness_JoinListenEndQueuesTheFirstFrames : inListen.Ready ∧ inListen.link.listen = .running 1500
    ∧ ∀ w ∈ inListen.link.list, w.frame.isDoor = true ∨ kindCode w.frame = 8#4 := ⟨⟨rfl, rfl⟩, rfl, by decide⟩

/-- The thresholds of R19 from both sides, and both ends of the demand. -/
theorem witness_HysteresisSettles : (1000 * 0 + 600 ≤ 600 * 1 ∧ hysteresis 1 600 0 = 1)
    ∧ (599 * 1 < 1000 * 0 + 600 ∧ hysteresis 1 599 0 = 0) ∧ (400 * 1 + 600 ≤ 1000 * 1 ∧ hysteresis 1 400 1 = 0)
    ∧ (1000 * 1 < 401 * 1 + 600 ∧ hysteresis 1 401 1 = 1) ∧ hysteresis 8 1000 0 = 8 ∧ hysteresis 8 0 8 = 0 := by decide

theorem witness_ControlExpiryRegulates :
    node.Ready ∧ node.zone? 0 = some zone0 ∧ node.zoneCfg? 0 = some zoneCfg ∧ zone0.control = .running 2000
      ∧ zone0.measured = some 190 ∧ zone0.state = .regulating ∧ node.QueueSound
      ∧ after (.controlPeriodExpiry 0) node (fun t => t.zones.map (·.wanted)) = some [2] :=
  ⟨node_ready, rfl, rfl, rfl, rfl, rfl, idle_queue node rfl rfl, by decide⟩

/-- The zone on its return from FALLBACK, and in HOLDING. -/
theorem witness_ControlExpiryRegulates_return :
    let back : Zone := { zone0 with state := .fallback, returnPending := true }
    let held : Zone := { zone0 with state := .holding, badRun := 3 }
    State.zone? { node with zones := [back] } 0 = some back ∧ back.measured = some 190
      ∧ (back.state = .fallback ∧ back.returnPending = true)
      ∧ State.zone? { node with zones := [held] } 0 = some held ∧ held.state = .holding := by decide

theorem witness_ControlExpiryWithoutAnError :
    let fallback : Zone := { zone0 with state := .fallback, badRun := 3 }
    let fresh : Zone := { zone0 with measured := none }
    let off : Zone := { zone0 with state := .off }
    let vent : InUse := { node.inUse with flags := ⟨false, true, false, false, false⟩ }
    (State.zone? { node with zones := [fallback] } 0 = some fallback ∧ fallback.returnPending = false)
      ∧ (State.zone? { node with zones := [fresh] } 0 = some fresh ∧ fresh.state = .regulating ∧ fresh.measured = none)
      ∧ (State.zone? { node with zones := [off], inUse := vent } 0 = some off ∧ vent.flags.ventOnly = true)
      ∧ (State.zone? { node with zones := [off] } 0 = some off ∧ node.inUse.flags.ventOnly = false) := by decide

/-- A scan round at the ends of the range, and one past them. -/
def edgeReplies : ScanReplies := ⟨[(5, .answer (-400))], .answer 850, .answer (-400) 1001, .silent⟩

theorem witness_SensorScanIsTaken : node.Ready ∧ node.scanTimer = .running 1500 ∧ node.zone? 0 = some zone0
    ∧ node.zoneCfg? 0 = some zoneCfg ∧ edgeReplies.replyAt zoneCfg.sensor = .answer (-400)
    ∧ node.config.outsidePresent = true ∧ edgeReplies.outside = .answer 850 ∧ node.defrost = some (Defrost.fresh (.running 5000))
    ∧ edgeReplies.screen = .silent ∧ edgeReplies.cabAir = .answer (-400) 1001 :=
  ⟨node_ready, rfl, rfl, rfl, by decide, rfl, rfl, rfl, rfl, rfl⟩

/-- A scan round past the ends of the range. -/
def badReplies : ScanReplies := ⟨[(5, .answer 851)], .answer (-401), .answer 851 500, .answer (-401)⟩

theorem witness_SensorScanIsTaken_bad : (∀ x, badReplies.replyAt zoneCfg.sensor = .answer x → x < -400 ∨ 850 < x)
    ∧ (∀ x, badReplies.outside = .answer x → x < -400 ∨ 850 < x) ∧ (∀ x, badReplies.screen = .answer x → x < -400 ∨ 850 < x)
    ∧ (∀ x h, badReplies.cabAir = .answer x h → x < -400 ∨ 850 < x) ∧ node.view.outsideRun ≤ 3 := by
  have e : badReplies.replyAt zoneCfg.sensor = .answer 851 := by decide
  refine ⟨fun x h => ?_, fun x h => ?_, fun x h => ?_, fun x y h => ?_, by decide⟩
  · rw [e] at h
    cases h
    decide
  all_goals
    cases h
    decide

/-- A zone in HOLDING whose hold timer runs. -/
def heldZone : Zone := { zone0 with state := .holding, hold := .running 1100 }

theorem witness_HoldTimerExpiry : State.Ready { node with zones := [heldZone] }
    ∧ State.zone? { node with zones := [heldZone] } 0 = some heldZone ∧ heldZone.hold = .running 1100
    ∧ node.zone? 0 = some zone0 ∧ ∀ e, zone0.hold ≠ .running e := ⟨⟨rfl, rfl⟩, rfl, rfl, rfl, fun _ h => nomatch h⟩

theorem witness_FilterAcceptsARun : 1 ≤ 1 ∧ 0 < 1
    ∧ Filter.sample ⟨some false, 0⟩ 1 true = (⟨some true, 0⟩, some true)
    ∧ Filter.sample ⟨some false, 6⟩ 8 true = (⟨some false, 7⟩, none) := by decide

/-- The node with every input sampled low. -/
def sampled : State :=
  { node with
    fans := node.fans.map (fun b => { b with filter := ⟨some false, 1⟩ })
    stages := node.stages.map (fun st => { st with filter := ⟨some false, 1⟩ }) }

/-- A list of one entry has no other. -/
theorem getElem?_single {α : Type} {a b : α} {k : Nat} (h : [a][k]? = some b) : k = 0 ∧ a = b := by
  cases k with
  | zero => exact ⟨rfl, by simpa using h⟩
  | succ n => simp at h

theorem witness_QuietSampleChangesNothing : sampled.Ready ∧ sampled.sampleTimer = .running 1010 ∧ sampled.doors.length ≤ 3
    ∧ sampled.keys.length ≤ 8
    ∧ (∀ d r, sampled.door? d = some r → sampled.doorCfg? d ≠ none ∧ r.filter.level = some ((0#3).getLsbD d.val))
    ∧ (∀ (k : Nat) f, sampled.keys[k]? = some f → f.level = some ((0#8).getLsbD k))
    ∧ (∀ b ∈ sampled.fans, b.filter.level = some ((0#8).getLsbD b.fan.pin))
    ∧ ∀ (i : Nat) st, sampled.stages[i]? = some st → st.filter.level = some ((0#44).getLsbD i) := by
  refine ⟨⟨rfl, rfl⟩, rfl, by decide, by decide, fun d r h => ?_, fun k f h => ?_, by decide, fun i st h => ?_⟩
  · obtain ⟨hk, rfl⟩ := getElem?_single (show [door0][d.val]? = some r from h)
    refine ⟨?_, by simp [door0]⟩
    show [doorCfg][d.val]? ≠ none
    simp [hk]
  · obtain ⟨_, rfl⟩ := getElem?_single (show [(⟨some false, 0⟩ : Filter)][k]? = some f from h)
    simp
  · have low : ∀ st ∈ sampled.stages, st.filter.level = some false := by decide
    rw [low st (List.mem_of_getElem? h)]
    simp

/-- The node before the first sample of its door and its first stage, with a key about to be released, and its fans and its
other stages one sample before an accepted change. -/
def settling : State :=
  { node with
    doors := [{ door0 with filter := .fresh }], keys := [⟨some true, 3⟩]
    fans := node.fans.map (fun b => { b with filter := ⟨some false, 1⟩, tach := 255 })
    stages := node.stages.zipIdx.map (fun p => { p.1 with filter := if p.2 = 0 then .fresh else ⟨some false, 1⟩ }) }

/-- Every door, tachometer and contactor input high, and every key low. -/
def highPins : Pins := ⟨7#3, 0#8, 0xFF#8, 7#44⟩

theorem witness_QuietSampleChangesNothing_moves : settling.Ready ∧ settling.sampleTimer = .running 1010
    ∧ (∀ d r g, settling.door? d = some r → settling.doorCfg? d = some g →
        (r.filter.level == some (!highPins.doors.getLsbD d.val) && decide (g.filter ≤ r.filter.run + 1)) = false)
    ∧ (∀ (k : Fin 8) f, settling.keys[k.val]? = some f → highPins.keys.getLsbD k.val = true →
        (f.level == some false && decide (4 ≤ f.run + 1)) = false)
    ∧ after (.inputSample highPins) settling (fun t => (t.doors.map (·.state), t.damper.doorOpen, t.word, t.keys)) =
        some ([.opened], true, some OvrWord.fresh, [⟨some false, 0⟩])
    ∧ after (.inputSample highPins) settling (fun t => (t.fans.map (·.tach), t.stages.map (·.feedback))) =
        some ([255, 255, 255], [.disagree (.running 1200), .disagree (.running 1210), .disagree (.running 1210)]) := by
  refine ⟨⟨rfl, rfl⟩, rfl, fun d r g h _ => ?_, fun k f _ hp => ?_, by decide, by decide⟩
  · obtain ⟨_, rfl⟩ := getElem?_single (show [{ door0 with filter := Filter.fresh }][d.val]? = some r from h)
    rfl
  · simp [highPins] at hp

/-- The node with its door one sample before an accepted change. -/
def moving (r : Door) : State := { node with doors := [r] }

theorem moving_others (r : Door) (p : Pins) (y : Fin 3) (ry : Door) (hy : y ≠ 0) (h : (moving r).door? y = some ry) :
    ry.filter.level = some (p.doors.getLsbD y.val) :=
  absurd (Fin.ext (getElem?_single (show [r][y.val]? = some ry from h)).1) hy

/-- A closed door about to open, and an open and a STUCK one about to close, on a cab node whose keys are still. -/
theorem witness_AcceptedLevelMovesTheDoor :
    let shut : Door := { door0 with filter := ⟨some false, 1⟩ }
    let opened : Door := { door0 with state := .opened, curtain := .wanted, filter := ⟨some true, 1⟩ }
    let stuck : Door := { door0 with state := .stuck, curtain := .barred, filter := ⟨some true, 1⟩ }
    (∀ r ∈ [shut, opened, stuck], (moving r).Ready ∧ (moving r).sampleTimer = .running 1010 ∧ (moving r).door? 0 = some r
        ∧ (moving r).doorCfg? 0 = some doorCfg ∧ doorCfg.filter ≤ r.filter.run + 1 ∧ (moving r).keys.length ≤ 8
        ∧ (∀ (k : Nat) f, (moving r).keys[k]? = some f → f.level = some ((0#8).getLsbD k)) ∧ (moving r).QueueSound)
      ∧ (shut.state = .closed ∧ shut.filter.level = some false ∧ shut.curtain = .off ∧ (1#3).getLsbD 0 = true)
      ∧ opened.state = .opened ∧ opened.filter.level = some true ∧ stuck.state = .stuck ∧ stuck.filter.level = some true
      ∧ (0#3).getLsbD 0 = false := by
  refine ⟨fun r h => ?_, by decide, rfl, rfl, rfl, rfl, rfl⟩
  have run : r.filter.run = 1 := by
    simp only [List.mem_cons, List.not_mem_nil, or_false] at h
    rcases h with rfl | rfl | rfl <;> rfl
  refine ⟨⟨rfl, rfl⟩, rfl, rfl, rfl, by rw [run]; decide, by show [(⟨some false, 0⟩ : Filter)].length ≤ 8; decide,
    fun k f hk => ?_, idle_queue _ rfl rfl⟩
  obtain ⟨_, rfl⟩ := getElem?_single (show [(⟨some false, 0⟩ : Filter)][k]? = some f from hk)
  simp

/-- Lists of 3 DOOR entries: one whose second entry is the newest of the door, and one with no entry of the door. -/
theorem witness_AcceptedLevelMovesTheDoor_full :
    let b (door : BitVec 4) : TxEntry := ⟨.door ⟨BitVec.ofNat 4 (0 : Fin 3).val, door, 1, 300, 30⟩, 2, 1, false⟩
    let same (w : TxEntry) : Prop := ∃ x, w.frame = .door x ∧ x.car = BitVec.ofNat 4 (0 : Fin 3).val
      ∧ x.door = BitVec.ofNat 4 (0 : Fin 3).val
    3 ≤ ([b 0, b 0, b 1].filter (fun w => w.frame.isDoor)).length
      ∧ (∃ w, [b 0, b 0, b 1][1]? = some w ∧ same w ∧ ∀ (k : Nat) x, 1 < k → [b 0, b 0, b 1][k]? = some x → ¬ same x)
      ∧ (∀ x ∈ [b 1, b 2, b 1], ¬ same x) ∧ (∃ w, [b 1, b 2, b 1][0]? = some w ∧ w.frame.isDoor = true) := by
  refine ⟨by decide, ⟨_, rfl, ⟨_, rfl, rfl, rfl⟩, fun k x hk h => ?_⟩, fun x h => ?_, _, rfl, rfl⟩
  · match k with
    | 0 => omega
    | 1 => omega
    | 2 =>
      obtain rfl := Option.some.inj h
      rintro ⟨y, hy, _, hd⟩
      cases hy
      exact absurd hd (by decide)
    | n + 3 => simp at h
  · rintro ⟨y, hy, _, hd⟩
    simp only [List.mem_cons, List.not_mem_nil, or_false] at h
    rcases h with rfl | rfl | rfl <;> cases hy <;> exact absurd hd (by decide)

/-- An open door whose three timers run. -/
def openDoor : Door :=
  { door0 with
    state := .opened, stuck := .running 1100, layoverMark := .running 1100, curtain := .wanted, filter := ⟨some true, 0⟩ }

theorem witness_DoorTimersExpire :
    let closing : Door := { door0 with curtain := .runOn, runOn := .running 1100 }
    (State.door? { node with doors := [openDoor] } 0 = some openDoor ∧ openDoor.stuck = .running 1100
        ∧ openDoor.state = .opened ∧ openDoor.layoverMark = .running 1100)
      ∧ (State.door? { node with doors := [closing] } 0 = some closing ∧ closing.runOn = .running 1100
        ∧ closing.curtain = .runOn) ∧ node.doorCfg? 0 = some doorCfg ∧ doorCfg.curtainStages ≠ 0 := by decide

theorem witness_DraftEventsActOnTheList :
    let d : Draft := ⟨2, 1, .peer, 100, .opened, 200, none⟩
    (∃ x ∈ [d], x.isFor d.station d.door = true) ∧ 0 < d.weight ∧ (∀ x ∈ ([] : List Draft), x.isFor d.station d.door = false)
      ∧ (List.replicate 8 { d with door := 0 }).length = 8
      ∧ (∀ x ∈ List.replicate 8 { d with door := 0 }, x.isFor d.station d.door = false) := by decide

theorem witness_DoorFrameReachesTheDrafts : (withPeer .alive 900).Ready ∧ (2 : Station) ≠ node.straps.station
    ∧ (2 : Station) ≠ node.config.powerStation ∧ ((withPeer .alive 900).entry 2).state = .alive
    ∧ (node.entry 2).state = .absent ∧ node.CabFollows
    ∧ (DoorBody.mk 2 2 1 400 20).car = BitVec.ofNat 4 (2 : Fin 3).val ∧ 2 < (DoorBody.mk 3 0 1 400 20).car.toNat
    ∧ 2 < (DoorBody.mk 0 3 1 400 20).door.toNat ∧ 1 < (DoorBody.mk 0 0 2 400 20).event.toNat :=
  ⟨⟨rfl, rfl⟩, by decide, by decide, by decide, by decide, fun _ => by decide, by decide, by decide, by decide, by decide⟩

/-- The stage a pacing expiry admits is the one switched on. -/
theorem witness_OneStageSwitchesOnAtATime : ∃ t, exec .pacingExpiry queued1 = .next t
    ∧ (∃ st', t.stage? 1 = some st' ∧ st'.state = .energized) ∧ ∀ st, queued1.stage? 1 = some st → st.state ≠ .energized := by
  refine ⟨_, rfl, ?_, fun st h => ?_⟩
  · have h : after .pacingExpiry queued1 (fun t => (t.stage? 1).map (·.state)) = some (some .energized) := by decide
    obtain ⟨x, hx, hs⟩ := Option.map_eq_some_iff.mp (Option.some.inj h)
    exact ⟨x, hx, hs⟩
  · obtain rfl := Option.some.inj h
    decide

/-- The node with a stage SUSPENDED by a gap that ended. -/
def suspended : State :=
  { heating with
    pacing := .running 1100
    stages := heating.stages.modify 0 (fun st => { st with state := .suspended, slice := .stopped, suspendedAt := some 950 }) }

theorem suspended_alone (j : Nat) (w : Stage) (hj : j ≠ 0) (h : suspended.stage? j = some w) : w.state ≠ .suspended := by
  match j with
  | 0 => exact absurd rfl hj
  | 1 => obtain rfl := Option.some.inj h; decide
  | 2 => obtain rfl := Option.some.inj h; decide
  | n + 3 => simp [suspended, heating, State.stage?] at h

/-- Out of ACTIVE, with nothing to switch on, with a SUSPENDED stage, and with a QUEUED one that has room. -/
theorem witness_PacingExpiryMakesAnAttempt :
    (queued1.Ready ∧ queued1.pacing = .running 1000)
      ∧ (let s : State := { queued1 with alloc := { queued1.alloc with sharing := .silent } }
        s.alloc.sharing ≠ .active)
      ∧ (let s : State := { node with pacing := .running 1000 }
        s.alloc.sharing = .active ∧ (∀ st ∈ s.stages, st.state ≠ .suspended) ∧ ∀ c, s.queue.get c = [])
      ∧ (suspended.Ready ∧ suspended.pacing = .running 1100 ∧ suspended.alloc.sharing = .active
        ∧ (∃ st, suspended.stage? 0 = some st ∧ st.state = .suspended ∧ st.cls = some .zone ∧ st.since = some 900)
        ∧ ∀ (j : Nat) w, j ≠ 0 → suspended.stage? j = some w → w.state ≠ .suspended)
      ∧ (∀ w ∈ queued1.stages, w.state ≠ .suspended) ∧ queued1.queue.get .zone = [] ++ 1 :: []
      ∧ (∃ w, queued1.stage? 1 = some w ∧ w.state = .queued ∧ w.cls = some .zone
        ∧ queued1.fanRunning w.owner.fan = true ∧ queued1.occupancy .zone + w.size ≤ queued1.alloc.usable.get .zone)
      ∧ queued1.queue.get .safety = [] ∧ queued1.queue.get .curtain = [] :=
  ⟨⟨⟨rfl, rfl⟩, rfl⟩, by decide, ⟨rfl, by decide, fun c => by cases c <;> rfl⟩,
    ⟨⟨rfl, rfl⟩, rfl, rfl, ⟨_, rfl, rfl, rfl, rfl⟩, suspended_alone⟩, by decide, rfl,
    ⟨_, rfl, rfl, rfl, by decide, by decide⟩, rfl, rfl⟩

theorem rotating_queue : rotating.QueueSound := by
  intro c
  refine ⟨by cases c <;> decide, fun i => ?_⟩
  match i with
  | 0 => cases c <;> simp [rotating, queued1, State.stage?, PerClass.get]
  | 1 => cases c <;> simp [rotating, queued1, State.stage?, PerClass.get]
  | 2 => cases c <;> simp [rotating, queued1, State.stage?, PerClass.get, stage, freshStage]
  | n + 3 => cases c <;> simp [rotating, queued1, State.stage?, PerClass.get]

theorem witness_SliceExpiryRotates : rotating.Ready ∧ rotating.QueueSound
    ∧ (∃ st, rotating.stage? 0 = some st ∧ st.state = .energized ∧ st.cls = some .zone ∧ st.slice = .running 180900)
    ∧ (∃ j ∈ rotating.queue.get .zone, ∃ w, rotating.stage? j = some w ∧ rotating.fanRunning w.owner.fan = true
      ∧ rotating.occupancy .zone + w.size ≤ rotating.alloc.usable.get .zone + 2)
    ∧ (∃ st, heating.stage? 0 = some st ∧ st.slice = .running 180900) ∧ heating.queue.get .zone = [] :=
  ⟨⟨rfl, rfl⟩, rotating_queue, ⟨_, rfl, rfl, rfl, rfl⟩, ⟨1, by decide, _, rfl, by decide, by decide⟩, ⟨_, rfl, rfl⟩, rfl⟩

/-- A node with stages 0 of a table whose feedback has run out its 200 ms. -/
def faulting (sharing : Sharing) (table : List Stage) (queue : PerClass (List Nat)) : State :=
  { node with
    alloc := { node.alloc with sharing := sharing }, queue := queue, zones := [{ zone0 with wanted := 1 }]
    stages := table.modify 0 (fun st => { st with feedback := .disagree (.running 1100) }) }

/-- A zone's stage SUSPENDED, one QUEUED, and a FAULTY one that disagrees again. -/
def suspendedFault : State := faulting .gapHold (stages3.modify 0 (fun st => { st with state := .suspended, cls := some .zone })) (.const [])

@[inherit_doc suspendedFault] def queuedFault : State :=
  faulting .active (stages3.modify 0 (fun st => { st with state := .queued, cls := some .zone })) ⟨[], [], [0], []⟩

@[inherit_doc suspendedFault] def againFault : State :=
  faulting .active (stages3.modify 0 (fun st => { st with state := .faulty })) (.const [])

/-- A curtain's only stage heats, and one of the defrost's two. -/
def curtainFault : State := faulting .active [{ stage (.curtain 0) 0 3 with state := .energized, cls := some .curtain }] (.const [])

@[inherit_doc curtainFault] def defrostFault : State :=
  { faulting .active [{ stage .defrost 0 2 with state := .energized, cls := some .safety },
      { stage .defrost 1 2 with state := .energized, cls := some .safety }, stage .defrost 2 2] (.const []) with
    defrost := some { Defrost.fresh (.running 5000) with state := .demist }
    view := { node.view with entries := node.view.entries.set 1 { node.ownEntry with claims := ⟨4, 0, 2, 0⟩ } } }

theorem queuedFault_queue : queuedFault.QueueSound := by
  intro c
  refine ⟨by cases c <;> decide, fun i => ?_⟩
  match i with
  | 0 => cases c <;> simp [queuedFault, faulting, stages3, State.stage?, PerClass.get]
  | 1 => cases c <;> simp [queuedFault, faulting, stages3, State.stage?, PerClass.get, stage, freshStage]
  | 2 => cases c <;> simp [queuedFault, faulting, stages3, State.stage?, PerClass.get, stage, freshStage]
  | n + 3 => cases c <;> simp [queuedFault, faulting, stages3, State.stage?, PerClass.get]

theorem witness_FeedbackFaultTakesTheStage :
    (∃ st, suspendedFault.stage? (0 : Fin 44).val = some st ∧ st.feedback = .disagree (.running 1100) ∧ st.state ≠ .faulty
      ∧ st.owner = .zone 0 ∧ st.cls = some .zone ∧ st.heating = true ∧ suspendedFault.nextIdle st.owner = some 1)
    ∧ (∃ st, queuedFault.stage? (0 : Fin 44).val = some st ∧ st.cls = some .zone ∧ st.state = .queued ∧ st.isHeld = true
      ∧ queuedFault.nextIdle st.owner = some 1 ∧ queuedFault.alloc.sharing = .active)
    ∧ (∃ r, queuedFault.zone? 0 = some r ∧ r.wanted + r.offer < r.avail ∧ queuedFault.inUse.flags.eco = false
      ∧ queuedFault.heldCount (.zone 0) .zone = r.wanted)
    ∧ (∃ st, curtainFault.stage? (0 : Fin 44).val = some st ∧ st.cls = some .curtain ∧ st.isHeld = true
      ∧ (∀ z, st.owner ≠ .zone z) ∧ curtainFault.nextIdle st.owner = none)
    ∧ (∃ st, defrostFault.stage? (0 : Fin 44).val = some st ∧ st.cls = some .safety ∧ st.heating = true
      ∧ defrostFault.nextIdle st.owner = some 2)
    ∧ (∃ d, defrostFault.defrost = some d ∧ defrostFault.heldCount .defrost .safety = defrostCount defrostFault.config.cab d.state)
    ∧ ∃ st, againFault.stage? 0 = some st ∧ st.state = .faulty ∧ st.feedback = .disagree (.running 1100) :=
  ⟨⟨_, rfl, rfl, by decide, rfl, rfl, rfl, by decide⟩, ⟨_, rfl, rfl, rfl, rfl, by decide, rfl⟩,
    ⟨_, rfl, by decide, rfl, by decide⟩, ⟨_, rfl, rfl, rfl, by decide, by decide⟩,
    ⟨_, rfl, rfl, rfl, by decide⟩, ⟨_, rfl, by decide⟩, _, rfl, rfl, rfl⟩

theorem witness_FeedbackFaultTakesTheStage_ready : suspendedFault.Ready ∧ queuedFault.Ready ∧ queuedFault.QueueSound
    ∧ curtainFault.Ready ∧ defrostFault.Ready ∧ defrostFault.ClaimsFollow ∧ againFault.Ready :=
  ⟨⟨rfl, rfl⟩, ⟨rfl, rfl⟩, queuedFault_queue, ⟨rfl, rfl⟩, ⟨rfl, rfl⟩, fun _ => by decide, ⟨rfl, rfl⟩⟩

/-- Fans in every state of the window's table. -/
def fans4 : List Blower :=
  [running (.zone 0), { running (.zone 1) with tach := 3 }, { Blower.fresh (.zone 2) with
      state := .starting, level := 1, tach := 4, start := .running 1200 },
    { Blower.fresh (.zone 3) with state := .starting, level := 1, tach := 3, start := .running 1200 },
    { Blower.fresh (.curtain 0) with state := .failed, level := 1, retrying := true, retry := .running 1300 }, .fresh .defrost]

theorem witness_BlowersAreProven :
    let s : State := { node with fans := fans4 }
    (s.windowTimer = .running 1500 ∧ (s.fans.map (·.fan)).Nodup)
      ∧ (s.fans.map (fun b => (b.state, decide (s.config.fanMinOf b.fan ≤ b.tach)))) =
        [(.running, true), (.running, false), (.starting, true), (.starting, false), (.failed, false), (.stopped, false)]
      ∧ (s.fan? (.zone 2)).map (fun b => (b.start, b.state)) = some (.running 1200, .starting)
      ∧ (s.fan? (.curtain 0)).map (fun b => (b.retry, b.state)) = some (.running 1300, .failed) := by decide

theorem witness_DamperFollowsItsEncoderAndTimers :
    let homing : Damper := ⟨.homing, 0, 300, .closing, .running 1500, .stopped, true, false⟩
    let stalled : Damper := ⟨.stalled, 280, 300, .stopped, .stopped, .running 1700, true, false⟩
    let tracking : Damper := ⟨.tracking, 280, 300, .opening, .running 1200, .stopped, false, false⟩
    node.damper.state = .tracking ∧ EncoderMove.opening ≠ .both ∧ EncoderMove.both = .both ∧ homing.state ≠ .tracking
      ∧ (tracking.stall = .running 1200 ∧ tracking.state = .tracking)
      ∧ (homing.stall = .running 1500 ∧ homing.state = .homing ∧ homing.motor = .closing)
      ∧ (stalled.rest = .running 1700 ∧ stalled.state = .stalled) := by decide

theorem witness_AllocationSharesTheBudget :
    ((allocate 60 10 ⟨[8, 0, 0], [0, 4, 2], [10, 24, 20], [0, 8, 6]⟩).get .absorb)[1]? = some 5
      ∧ ((⟨[8, 0, 0], [0, 4, 2], [10, 24, 20], [0, 8, 6]⟩ : PerClass (List Nat)).get .absorb)[1]? = some 8 := by decide

theorem witness_PowerFrameIsTaken : heating.Ready ∧ heating.config.powerStation ≠ heating.straps.station
    ∧ (∀ st ∈ heating.stages, 0 < st.size) ∧ 2 < (PowerBody.mk 3 60 10).line.toNat ∧ lineOf 0 = some .live
    ∧ lineOf 1 = some .gap ∧ lineOf 2 = some .dead := ⟨⟨rfl, rfl⟩, by decide, by decide, by decide, rfl, rfl, rfl⟩

/-- The node in GAP_HOLD. -/
def gapHeld : State :=
  { suspended with alloc := { heating.alloc with sharing := .gapHold, line := .gap, gap := .running 4000 } }

theorem witness_SilenceAndGapExpire : node.Ready ∧ node.alloc.silence = .running 1400 ∧ gapHeld.Ready
    ∧ gapHeld.alloc.gap = .running 4000 ∧ gapHeld.alloc.sharing = .gapHold ∧ ∀ st ∈ gapHeld.stages, 0 < st.size :=
  ⟨node_ready, rfl, ⟨rfl, rfl⟩, rfl, rfl, by decide⟩

theorem witness_HoldOffRaisesTheUsableIntents :
    State.Ready { node with alloc := { node.alloc with usable := .const 0, holdOff := .running 1200 } }
      ∧ ({ node.alloc with usable := .const 0, holdOff := .running 1200 } : Alloc).holdOff = .running 1200 :=
  ⟨⟨rfl, rfl⟩, rfl⟩

theorem witness_TransmitFailureMutes : waiting.Ready ∧ waiting.link.failure = .running 2000
    ∧ waiting.alloc.sharing ≠ .muted ∧ waiting.alloc.sharing ≠ .isolated
    ∧ ({ waiting.alloc with sharing := .muted } : Alloc).sharing = .muted
    ∧ waiting.OwnEntryKept ∧ waiting.alloc.announced ≠ .const 0
    ∧ ∃ w, waiting.link.list[0]? = some w ∧ w.frame = waiting.demandFrame :=
  ⟨⟨rfl, rfl⟩, rfl, by decide, by decide, rfl, fun _ => by decide, by decide, _, rfl, rfl⟩

theorem witness_DuplicateStationIsolates : heating.Ready
    ∧ frameOf (.statusFrame 1 ⟨0, 0⟩) = some (heating.straps.station, .status ⟨0, 0⟩) ∧ heating.alloc.sharing ≠ .isolated
    ∧ ({ heating.alloc with sharing := .isolated } : Alloc).sharing = .isolated := ⟨⟨rfl, rfl⟩, by decide, by decide, rfl⟩

theorem witness_PeerFramesAreHeard : (withPeer .alive 900).Ready ∧ (2 : Station) ≠ node.straps.station
    ∧ frameOf (.presenceFrame 2 ⟨false, 2, 1, 0, 8, 850⟩) = some (2, .presence ⟨false, 2, 1, 0, 8, 850⟩)
    ∧ frameOf (.demandFrame 2 ⟨.const 1, .const 1, 0⟩) = some (2, .demand ⟨.const 1, .const 1, 0⟩)
    ∧ frameOf (.statusFrame 15 ⟨0, 0⟩) = some (node.config.powerStation, .status ⟨0, 0⟩)
    ∧ frameOf (.powerFrame 2 ⟨0, 60, 0⟩) = some (2, .power ⟨0, 60, 0⟩) ∧ (2 : Station) ≠ node.config.powerStation
    ∧ ((withPeer .alive 900).entry 2).state = .alive ∧ ((withPeer .lost 900).entry 2).state ≠ .alive :=
  ⟨⟨rfl, rfl⟩, by decide, rfl, rfl, rfl, rfl, by decide, by decide, by decide⟩

/-- A frame that makes a lower cab station the accepted one, and one that gives the choice back to the node. -/
theorem witness_PeerFramesAreHeard_choice :
    (node.Ready ∧ node.straps.cab = true ∧ node.view.accepted = some node.straps.station
      ∧ after (.presenceFrame 0 ⟨true, 0, 1, 0, 8, 50⟩) node (fun t => t.view.accepted) = some (some 0))
    ∧ (conflict.Ready ∧ conflict.view.accepted = some 0
      ∧ after (.presenceFrame 0 ⟨false, 0, 1, 0, 8, 50⟩) conflict
        (fun t => (t.view.accepted, t.inUse.mode, t.link.list.any (fun x => x.frame.isOverride))) = some (some 1, .own, true)) :=
  ⟨⟨node_ready, rfl, rfl, by decide⟩, ⟨rfl, rfl⟩, rfl, by decide⟩

/-- A peer at the age of 2 s at the expiry, and one at 600 ms, with an OPEN record of the first. -/
def aged : State :=
  let s : State := { withPeer .stale (0 - 800) with
    zones := [{ zone0 with drafts := [⟨2, 0, .peer, 100, .opened, 200, none⟩] }]
    view := { (withPeer .stale (0 - 800)).view with hold := .running 1500 } }
  s.modEntry 3 (fun x => { x with state := .alive, lastHeard := some 600, outside := some 40, outsideAt := some 600 })

theorem witness_ViewTimersExpire : aged.Ready ∧ aged.view.ageing = .running 1200 ∧ aged.view.hold = .running 1500
    ∧ (let now := (advanceTo 1200 aged).clock
      ((2 : Station) ≠ aged.straps.station ∧ (aged.entry 2).lastHeard = some (0 - 800) ∧ 2000 ≤ elapsed now (0 - 800)
          ∧ (aged.entry 2).state = .stale)
        ∧ (aged.entry 3).lastHeard = some 600 ∧ 600 ≤ elapsed now 600 ∧ elapsed now 600 < 2000
        ∧ (aged.entry 3).state = .alive) := ⟨⟨rfl, rfl⟩, rfl, rfl, by decide⟩

/-- The loss of the accepted cab station gives the choice back to the node. -/
theorem witness_ViewTimersExpire_choice : conflict.Ready ∧ conflict.view.ageing = .running 1200 ∧ conflict.CabFollows
    ∧ after .ageingExpiry conflict (fun t => (t.view.accepted, t.inUse.mode)) = some (some 1, .own) :=
  ⟨⟨rfl, rfl⟩, rfl, fun _ => by decide, by decide +kernel⟩

theorem witness_ScheduledFramesAreQueued : node.Ready ∧ node.link.presence = .running 1500
    ∧ node.link.status = .running 5000 ∧ node.link.override = .running 1600
    ∧ ({ node.link with spacing := .running 1040, due := true } : Link).spacing = .running 1040 :=
  ⟨node_ready, rfl, rfl, rfl, rfl⟩

theorem witness_AttemptsBeginAtTheHead : waiting.Ready
    ∧ waiting.link.list = ⟨node.demandFrame, 0, 0, false⟩ :: [] ∧ waiting.listening = false ∧ waiting.link.attempt = none
    ∧ node.link.list = [] ∧ inListen.listening = true := ⟨⟨rfl, rfl⟩, rfl, rfl, rfl, rfl, rfl⟩

/-- The node in an attempt of its DEMAND entry. -/
def sending : State := { waiting with link := { waiting.link with attempt := some onLine } }

theorem witness_CollisionBacksOff : sending.Ready ∧ sending.link.attempt = some onLine
    ∧ sending.link.list = ⟨node.demandFrame, 0, 0, false⟩ :: [] ∧ (TxEntry.mk node.demandFrame 6 0 false).failed < 7
    ∧ 7 ≤ (TxEntry.mk node.demandFrame 7 0 false).failed ∧ ({ onLine with withdrawn := true } : Attempt).withdrawn = true :=
  ⟨⟨rfl, rfl⟩, rfl, rfl, by decide, by decide, rfl⟩

/-- A confirmation whose DEMAND entry leaves, and one whose OVERRIDE entry was withdrawn. -/
theorem witness_ConfirmationIsTaken :
    (sending.Ready ∧ sending.link.attempt = some onLine ∧ onLine.withdrawn = false
      ∧ ∃ w rest, sending.link.list = w :: rest ∧ true = w.frame.isDemand
        ∧ [] = if w.replaced then { w with failed := 0, replaced := false } :: rest else rest)
    ∧ (∃ a : Attempt, a.withdrawn = true ∧ a.carried = node.overrideFrame)
    ∧ sending.alloc.sharing ≠ .muted ∧ sending.alloc.sharing ≠ .joining
    ∧ ({ sending.alloc with sharing := .muted } : Alloc).sharing = .muted :=
  ⟨⟨⟨rfl, rfl⟩, rfl, rfl, _, _, rfl, rfl, rfl⟩, ⟨⟨node.overrideFrame, [], true⟩, rfl, rfl⟩, by decide, by decide, rfl⟩

theorem witness_ErrorWindowHoldsTheDiscards : node.Ready ∧ (Reception.mk [0x3F] .idle).isDiscard = true
    ∧ ({ node.link with window := 100 :: List.replicate 8 900 } : Link).window = 100 :: List.replicate 8 900 :=
  ⟨node_ready, by decide, rfl⟩

theorem witness_DefrostCheckTestsFogRisk :
    fogged.QueueSound ∧ (fogged.Ready ∧ ∃ d, fogged.defrost = some d ∧ d.check = .running 5000 ∧ d.state = .off)
      ∧ after .defrostCheck fogged (fun t => t.defrost.map (·.fogRisk)) = some (some true)
      ∧ (∃ d, boosting.defrost = some d ∧ d.check = .running 5000 ∧ d.state = .boost)
      ∧ ∀ n : Nat, ({ Defrost.fresh (.running 5000) with state := .demist, clearCount := n } : Defrost).state = .demist :=
  ⟨idle_queue fogged rfl rfl, ⟨⟨rfl, rfl⟩, _, rfl, rfl, rfl⟩, by decide, ⟨_, rfl, rfl, rfl⟩, fun _ => rfl⟩

theorem witness_LouvreSweeps : boosting.Ready ∧ ∃ d, boosting.defrost = some d ∧ d.louvreTimer = .running 1200
    ∧ d.louvre + 1 = boosting.config.cab.amplitude := ⟨⟨rfl, rfl⟩, _, rfl, rfl, rfl⟩

theorem witness_FlagTimersClearTheirFlags :
    (boosting.Ready ∧ ∃ w d, boosting.word = some w ∧ boosting.defrost = some d ∧ d.boost = .running 1400
        ∧ w.flags.boost = true ∧ d.state = .boost ∧ boosting.view.accepted = some boosting.straps.station)
      ∧ inLayover.Ready ∧ ∃ w d, inLayover.word = some w ∧ inLayover.defrost = some d ∧ w.layover = .running 1201000
        ∧ w.flags.layover = true :=
  ⟨⟨⟨rfl, rfl⟩, _, _, rfl, rfl, rfl, rfl, rfl, rfl⟩, ⟨rfl, rfl⟩, _, _, rfl, rfl, rfl, rfl⟩

theorem witness_FiguresFall :
    (inLayover.Ready ∧ ∃ w, inLayover.word = some w ∧ w.layoverFall = .running 61000 ∧ 0 < w.layoverLeft ∧ w.layoverLeft ≤ 60)
      ∧ boosting.Ready ∧ boosting.word ≠ none ∧ ∃ d, boosting.defrost = some d ∧ d.boostFall = .running 1200
        ∧ 0 < d.boostLeft ∧ d.boostLeft ≤ 120 :=
  ⟨⟨⟨rfl, rfl⟩, _, rfl, rfl, by decide, by decide⟩, ⟨rfl, rfl⟩, by decide, _, rfl, rfl, by decide, by decide⟩

theorem witness_OverrideTimersExpire :
    let following : InUse := { follower.inUse with mode := .following, source := some 0, silence := .running 1100 }
    let holding : InUse := { follower.inUse with mode := .holding, source := some 0, hold := .running 1100 }
    State.Ready { follower with inUse := following } ∧ following.silence = .running 1100 ∧ following.mode = .following
      ∧ holding.hold = .running 1100 := ⟨⟨rfl, rfl⟩, rfl, rfl, rfl⟩

theorem witness_OverrideFrameIsAdopted : follower.Ready ∧ (0 : Station) ≠ follower.straps.station
    ∧ (0 : Station) ≠ follower.config.powerStation ∧ (follower.entry 0).state = .alive ∧ follower.view.accepted = some 0
    ∧ ((withPeer .alive 900).entry 2).state = .alive ∧ (withPeer .alive 900).view.accepted ≠ some 2 :=
  ⟨⟨rfl, rfl⟩, by decide, by decide, by decide, rfl, by decide, by decide⟩

/-- A STALE accepted cab station, and one that is accepted again once it is heard. -/
theorem witness_OverrideFrameIsAdopted_stale :
    let stale : State := follower.modEntry 0 (fun x => { x with state := .stale })
    let lost : State :=
      let s := (follower.modEntry 0 (fun x => { x with state := .lost })).modEntry 1 (fun x => { x with cab := false })
      { s with view := { s.view with accepted := none } }
    (stale.Ready ∧ stale.CabFollows ∧ (stale.entry 0).state = .stale ∧ stale.view.accepted = some 0)
      ∧ lost.Ready ∧ lost.CabFollows
      ∧ after (.overrideFrame 0 ⟨0, 0, 0, 0, 0, 0⟩) lost (fun t => t.view.accepted) = some (some 0) :=
  ⟨⟨⟨rfl, rfl⟩, fun _ => by decide, by decide, rfl⟩, ⟨rfl, rfl⟩, fun _ => by decide, by decide⟩

/-- The node one sample before a press of its one key input. -/
def pressing : State := { node with keys := [⟨some false, 3⟩] }

theorem witness_KeyPressChangesTheWord : pressing.Ready ∧ pressing.sampleTimer = .running 1010
    ∧ pressing.word = some OvrWord.fresh ∧ pressing.keys[(0 : Fin 8).val]? = some ⟨some false, 3⟩
    ∧ (1#8).getLsbD (0 : Fin 8).val = true
    ∧ (∀ (j : Nat) g, j ≠ (0 : Fin 8).val → pressing.keys[j]? = some g → g.level = some ((1#8).getLsbD j))
    ∧ pressing.view.accepted = some pressing.straps.station :=
  ⟨⟨rfl, rfl⟩, rfl, rfl, rfl, by decide,
    fun j g hj h => absurd (getElem?_single (show [(⟨some false, 3⟩ : Filter)][j]? = some g from h)).1 hj, rfl⟩

/-- The node in BOOST one sample before a press of DEFROST. -/
def pressingBoost : State := { boosting with keys := List.replicate 4 ⟨some false, 0⟩ ++ [⟨some false, 3⟩] }

theorem witness_KeyPressChangesTheWord_boost : pressingBoost.Ready ∧ pressingBoost.sampleTimer = .running 1010
    ∧ (∃ w, pressingBoost.word = some w ∧ w.flags.boost = true)
    ∧ (∃ d, pressingBoost.defrost = some d ∧ d.state = .boost)
    ∧ pressingBoost.keys[(4 : Fin 8).val]? = some ⟨some false, 3⟩ ∧ (16#8).getLsbD (4 : Fin 8).val = true
    ∧ ∀ (j : Nat) g, j ≠ (4 : Fin 8).val → pressingBoost.keys[j]? = some g → g.level = some ((16#8).getLsbD j) := by
  refine ⟨⟨rfl, rfl⟩, rfl, ⟨_, rfl, rfl⟩, ⟨_, rfl, rfl⟩, rfl, by decide, fun j g hj h => ?_⟩
  match j with
  | 0 => obtain rfl := Option.some.inj h; decide
  | 1 => obtain rfl := Option.some.inj h; decide
  | 2 => obtain rfl := Option.some.inj h; decide
  | 3 => obtain rfl := Option.some.inj h; decide
  | 4 => exact absurd rfl hj
  | n + 5 => simp [pressingBoost] at h

theorem witness_MasksChangeTheWord : (heardTool node).Ready ∧ (heardTool worked).Ready
    ∧ (14 : Station) ≠ node.straps.station ∧ (14 : Station) ≠ node.config.powerStation
    ∧ ((heardTool node).entry 14).state = .alive ∧ (1 : Byte).toNat = node.straps.station.val
    ∧ (heardTool node).word = some OvrWord.fresh ∧ (heardTool worked).word = none
    ∧ ((heardTool boosting).Ready ∧ (∃ w, (heardTool boosting).word = some w ∧ w.flags.boost = true)
      ∧ ∃ d, (heardTool boosting).defrost = some d ∧ d.state = .boost)
    ∧ (2 : Byte).toNat ≠ node.straps.station.val ∧ node.Ready ∧ (node.entry 14).state = .absent :=
  ⟨⟨rfl, rfl⟩, ⟨rfl, rfl⟩, by decide, by decide, by decide, by decide, rfl, rfl,
    ⟨⟨rfl, rfl⟩, ⟨_, rfl, rfl⟩, _, rfl, rfl⟩, by decide, node_ready, by decide⟩

/-- The cursor at the last entry of CONDITIONS, and one past it. -/
theorem witness_ProbesReadAtTheCursor : (heardTool node).Ready ∧ (14 : Station) ≠ node.straps.station
    ∧ (14 : Station) ≠ node.config.powerStation ∧ ((heardTool node).entry 14).state = .alive
    ∧ (1 : Byte).toNat = node.straps.station.val ∧ (2 : Byte).toNat ≠ node.straps.station.val ∧ node.cursor.collection = none
    ∧ State.entryFields node .conditions 15 = some [0, 0] ∧ State.entryFields node .conditions 16 = none
    ∧ node.zones.length = 1 ∧ node.Ready ∧ (node.entry 14).state = .absent :=
  ⟨⟨rfl, rfl⟩, by decide, by decide, by decide, by decide, by decide, rfl, by decide, by decide, rfl, node_ready, by decide⟩

theorem witness_ClearAndBadOperationsAreAnswered : (heardTool node).Ready ∧ (14 : Station) ≠ node.straps.station
    ∧ (14 : Station) ≠ node.config.powerStation ∧ ((heardTool node).entry 14).state = .alive
    ∧ (1 : Byte).toNat = node.straps.station.val ∧ 3 < (4 : Byte).toNat ∧ 1 < (2 : Byte).toNat
    ∧ (node.entry 14).state = .absent ∧ (2 : Byte).toNat ≠ node.straps.station.val := ⟨⟨rfl, rfl⟩, by decide⟩

/-- A command that completes, for the statements about every step. -/
theorem queued1_steps : ∃ t, step { queued1 with pending := [.pacingExpiry] } = .next t := ⟨_, rfl⟩

theorem witness_UsableIntentsBoundTheOccupancy :
    let s : State := { queued1 with pending := [.pacingExpiry] }
    s.IntentsBounded ∧ s.WithinRoom ∧ ∃ t, step s = .next t :=
  ⟨fun c => by cases c <;> decide, fun c => by cases c <;> decide, queued1_steps⟩

theorem witness_StagesHeatOnlyWhereTheyMay :
    let s : State := { queued1 with pending := [.pacingExpiry] }
    s.ActiveOnly ∧ s.BlowersProven ∧ ∃ t, step s = .next t :=
  ⟨fun h => absurd rfl h, by unfold State.BlowersProven; decide, queued1_steps⟩

theorem witness_QueueHoldsTheQueuedStages :
    let s : State := { rotating with pending := [.sliceExpiry 0] }
    s.QueueSound ∧ ∃ t, step s = .next t := ⟨rotating_queue, _, rfl⟩

/-- The node with the allocation its claims give: none. -/
def consistent : State :=
  { node with
    pending := [.ageingExpiry]
    alloc := { node.alloc with allocation := .const 0, announced := .const 0, usable := .const 0 }
    view := View.fresh ⟨1, 0, true, true⟩ (-100) (.running 1200) }

theorem witness_AllocationFollowsItsInputs : consistent.OwnEntryKept ∧ consistent.AllocationFollows ∧ ∃ t, step consistent = .next t :=
  ⟨fun _ => by decide, fun _ => by decide +kernel, _, rfl⟩

theorem witness_ClaimsFollowTheirInputs : consistent.ClaimsFollow ∧ ∃ t, step consistent = .next t :=
  ⟨fun _ => by decide, _, rfl⟩

theorem witness_ChoicesFollowTheirInputs : consistent.CabFollows ∧ consistent.TargetFollows ∧ ∃ t, step consistent = .next t :=
  ⟨fun _ => by decide, fun _ => by decide, _, rfl⟩

theorem witness_ConditionsFollowTheirCauses : consistent.LatchesHold ∧ consistent.UnsampledClosed ∧ consistent.ConditionsFollow
    ∧ consistent.QueueSound ∧ ∃ t, step consistent = .next t :=
  ⟨by unfold State.LatchesHold; decide, by unfold State.UnsampledClosed; decide, fun _ c => by cases c <;> decide,
    idle_queue consistent rfl rfl, _, rfl⟩

theorem witness_ZonesStayWithinTheirBounds : consistent.DraftsBounded ∧ consistent.ZonesInRange ∧ ∃ t, step consistent = .next t :=
  ⟨fun z h => by obtain rfl := List.mem_singleton.mp h; exact ⟨by decide, .nil⟩, by unfold State.ZonesInRange; decide, _, rfl⟩

theorem witness_ListAndGeneratorStayBounded : consistent.ListBounded ∧ consistent.SeqAlive ∧ consistent.attemptDue = false
    ∧ ∃ t, step consistent = .next t := ⟨⟨by decide, .nil, by decide⟩, by unfold State.SeqAlive; decide, rfl, _, rfl⟩

/-- An ANSWER of the greatest length: 24 payload bytes. -/
theorem witness_FramesRoundTrip :
    let i : Instr := .answerFrame 15 ⟨14, 0, 6, 43, List.replicate 20 0xFF⟩
    i.wellFormed = true ∧ (frameOf i).isSome = true ∧ (encodeCommand i).map List.length = some 28
      ∧ Instr.wellFormed .powerOnReset = true ∧ frameOf .powerOnReset = none := by decide +kernel

end Sys2Proof.Machine.Tests
end

section
/-! The commands by their effects: what a command does between the guard that the node runs and the closing of the step, said once,
and what a step can then be. -/

namespace Sys2Proof.Machine

/-! ### The guards of a command -/

/-- A command of a running node: nothing, or its effect with the step closed. -/
theorem whileRunning_next {effect : State → State} {s t : State} (h : whileRunning effect s = .next t) :
    t = s ∨ s.phase = .running ∧ t = finish (effect s) := by
  unfold whileRunning at h
  split at h
  · next hr => exact .inr ⟨hr, (Host.Outcome.next.inj h).symm⟩
  · exact .inl (Host.Outcome.next.inj h).symm

@[simp] theorem advanceTo_phase (e : Time) (s : State) : (advanceTo e s).phase = s.phase := by
  unfold advanceTo; split <;> rfl

/-- An expiry moves nothing but the clock before its effect. -/
theorem advanceTo_eq (e : Time) (s : State) : ∃ now, advanceTo e s = { s with clock := now } := by
  unfold advanceTo; split
  · exact ⟨s.clock, rfl⟩
  · exact ⟨e, rfl⟩

/-- An expiry: nothing, or the effect at the expiry with the step closed. -/
theorem atExpiry_next {timer : Timer} {effect : State → State} {s t : State} (h : atExpiry timer effect s = .next t) :
    t = s ∨ s.phase = .running ∧ ∃ e, timer = .running e ∧ t = finish (effect (advanceTo e s)) := by
  cases timer with
  | stopped => exact .inl (Host.Outcome.next.inj h).symm
  | expired => exact .inl (Host.Outcome.next.inj h).symm
  | running e =>
    by_cases hr : s.phase = .running
    · rw [atExpiry_running e effect s hr] at h
      exact .inr ⟨hr, e, rfl, (Host.Outcome.next.inj h).symm⟩
    · simp only [atExpiry, hr, if_false, whileRunning_held effect s hr] at h
      exact .inl (Host.Outcome.next.inj h).symm

/-! ### The effect of each command -/

/-- What a command of a running node does before the step is closed; the commands of a start-up do nothing there. -/
def effectOf : Instr → State → State
  | .powerOnReset => id
  | .imageReadDone _ => id
  | .imageReadTimeout => id
  | .resetPinRelease _ => id
  | .joinListenEnd => listenEnd
  | .controlPeriodExpiry z => controlExpiry z
  | .sensorScan r => scanExpiry r
  | .holdTimerExpiry z => holdExpiry z
  | .inputSample p => sampleExpiry p
  | .stuckTimerExpiry d => stuckExpiry d
  | .layoverMarkExpiry d => layoverMarkExpiry d
  | .runOnExpiry d => runOnExpiry d
  | .feedbackFault i => feedbackFault i.val
  | .pacingExpiry => pacingExpiry
  | .sliceExpiry i => sliceExpiry i.val
  | .tachWindowExpiry => windowExpiry
  | .startTimerExpiry f => startExpiry f
  | .retryTimerExpiry f => retryExpiry f
  | .encoderStep m => encoderStep m
  | .stallTimerExpiry => stallExpiry
  | .restTimerExpiry => restExpiry
  | .defrostCheck => defrostCheck
  | .boostTimerExpiry => boostExpiry
  | .boostRemainingFall => boostFall
  | .louvreStep => louvreStep
  | .layoverTimerExpiry => layoverExpiry
  | .layoverMinutesFall => changeWord OvrWord.minutesFall
  | .overrideSilenceExpiry => overrideSilence
  | .overrideHoldExpiry => overrideReverts
  | .ageingExpiry => ageingExpiry
  | .agreementHoldExpiry => agreementHoldExpiry
  | .silenceExpiry => silenceExpiry
  | .gapTimerExpiry => gapExpiry
  | .holdOffExpiry => holdOffExpiry
  | .txFailureExpiry => failureExpiry
  | .spacingExpiry => spacingExpiry
  | .presenceTimerExpiry => presenceExpiry
  | .overrideTimerExpiry => overrideExpiry
  | .statusTimerExpiry => statusExpiry
  | .txAttemptStart n d => attemptStart n d
  | .collision => attemptFailed
  | .frameConfirmed => attemptConfirmed
  | .frameDiscard r => if r.isDiscard then discard else id
  | .errorWindowDeparture => windowDeparture
  | .powerFrame i b => receivePower i b
  | .demandFrame i b => receive i (.demand b) id
  | .presenceFrame i b => receive i (.presence b) id
  | .doorFrame i b => receive i (.door b) (peerDoor i b)
  | .overrideFrame i b => receive i (.override b) (takeOverride i b)
  | .statusFrame i b => receive i (.status b) id
  | .answerFrame i b => receive i (.answer b) id
  | .probeSelect i m c n => receive i (.probe ⟨m, 0, c, n⟩) (forMe m (selectCursor i c n))
  | .probeNext i m c n => receive i (.probe ⟨m, 1, c, n⟩) (forMe m (readCursor true i))
  | .probePeek i m c n => receive i (.probe ⟨m, 2, c, n⟩) (forMe m (readCursor false i))
  | .probeClear i m c n => receive i (.probe ⟨m, 3, c, n⟩) (forMe m (clearLatches i))
  | .probeBadOperation i m o c n => receive i (.probe ⟨m, o, c, n⟩) (forMe m (refuse i))
  | .controlRestart i m a b => receive i (.control ⟨m, 0, a, b⟩) (forMe m warmRestart)
  | .controlOvrMasks i m a b => receive i (.control ⟨m, 1, a, b⟩) (forMe m (applyMasks i a b))
  | .controlBadOperation i m o a b => receive i (.control ⟨m, o, a, b⟩) (forMe m (refuse i))

/-- What a command can be: without effect, its effect in a running node with the step closed, or one of the four commands of a
start-up. -/
inductive CommandDoes (c : Instr) (s t : State) : Prop
  | nothing (h : t = s)
  | effect (running : s.phase = .running) (now : Time) (h : t = finish (effectOf c { s with clock := now }))
  | power (h : t = { State.reset with pending := s.pending })
  | release (p : StrapPins) (h : t = finish (releaseReset p s))
  | load (image : Option (List Byte)) (h : t = finish (imageRead image s))
  | timeout (e : Time) (h : t = finish (installBuiltIn (advanceTo e s)))

theorem CommandDoes.ofRunning {c : Instr} {s t : State} (h : whileRunning (effectOf c) s = .next t) : CommandDoes c s t := by
  rcases whileRunning_next h with h | ⟨hr, h⟩
  · exact .nothing h
  · exact .effect hr s.clock h

theorem CommandDoes.ofExpiry {c : Instr} {timer : Timer} {s t : State} (h : atExpiry timer (effectOf c) s = .next t) :
    CommandDoes c s t := by
  rcases atExpiry_next h with h | ⟨hr, e, -, h⟩
  · exact .nothing h
  · obtain ⟨now, hn⟩ := advanceTo_eq e s
    exact .effect hr now (hn ▸ h)

/-- Every command does one of the things of `CommandDoes`. -/
theorem exec_does {c : Instr} {s t : State} (h : exec c s = .next t) : CommandDoes c s t := by
  cases c
  case powerOnReset =>
    simp only [exec, execPowerOnReset, Host.Outcome.next.injEq] at h
    exact .power h.symm
  case resetPinRelease p =>
    simp only [exec, execResetPinRelease, Host.Outcome.next.injEq] at h
    split at h
    · exact .release p h.symm
    · exact .nothing h.symm
  case imageReadDone image =>
    simp only [exec, execImageReadDone, Host.Outcome.next.injEq] at h
    split at h
    · exact .load image h.symm
    · exact .nothing h.symm
  case imageReadTimeout =>
    simp only [exec, execImageReadTimeout] at h
    split at h <;> simp only [Host.Outcome.next.injEq] at h
    · split at h
      · exact .timeout _ h.symm
      · exact .nothing h.symm
    · exact .nothing h.symm
    · exact .nothing h.symm
  case encoderStep | txAttemptStart | collision | frameConfirmed | frameDiscard | powerFrame | demandFrame | presenceFrame
      | doorFrame | overrideFrame | statusFrame | answerFrame | probeSelect | probeNext | probePeek | probeClear
      | probeBadOperation | controlRestart | controlOvrMasks | controlBadOperation =>
    exact .ofRunning h
  all_goals exact .ofExpiry h

/-- A step is a command on the state less the command, or the passing of one millisecond. -/
theorem step_does {s t : State} (h : step s = .next t) :
    t = tick s ∨ ∃ c pending, exec c { s with pending := pending } = .next t := by
  unfold step at h
  split at h
  · exact .inr ⟨_, _, h⟩
  · split at h
    · exact .inr ⟨_, s.pending, h⟩
    · exact .inl (Host.Outcome.next.inj h).symm

end Sys2Proof.Machine
end

section
/-! The stage table read by roles: what the operations that switch stages on and off leave of a stage (its owner, its class and
whether it is held, IDLE or FAULTY), and where the numbers they work on come from. -/

namespace Sys2Proof.Machine

/-! ### The numbers of stages -/

theorem mem_insertBySince {now : Time} {key : Nat → Option Time} {i j : Nat} {l : List Nat} :
    j ∈ insertBySince now key i l ↔ j = i ∨ j ∈ l := by
  induction l with
  | nil => simp [insertBySince]
  | cons k rest ih =>
    unfold insertBySince
    split
    · simp
    · simp only [List.mem_cons, ih]; tauto

/-- Ordering stage numbers keeps them. -/
theorem mem_sortBySince {now : Time} {key : Nat → Option Time} {j : Nat} {l : List Nat} :
    j ∈ sortBySince now key l ↔ j ∈ l := by
  induction l with
  | nil => rfl
  | cons i rest ih => simp [sortBySince, mem_insertBySince, ih]

@[simp] theorem mem_bySince {s : State} {j : Nat} {l : List Nat} : j ∈ s.bySince l ↔ j ∈ l := mem_sortBySince

theorem mem_stageIndexes {p : Stage → Bool} {j : Nat} {l : List Stage} (i : Nat) :
    j ∈ stageIndexes p i l ↔ i ≤ j ∧ ∃ st, l[j - i]? = some st ∧ p st = true := by
  induction l generalizing i with
  | nil => simp [stageIndexes]
  | cons st rest ih =>
    have hrest : ∀ st', (i + 1 ≤ j ∧ rest[j - (i + 1)]? = some st') ↔ (i < j ∧ (st :: rest)[j - i]? = some st') := by
      intro st'
      by_cases hj : i < j
      · have : j - i = (j - (i + 1)) + 1 := by omega
        simp [hj, this, Nat.succ_le_of_lt hj]
      · simp [hj]
    have key : j ∈ stageIndexes p (i + 1) rest ↔ i < j ∧ ∃ st', (st :: rest)[j - i]? = some st' ∧ p st' = true := by
      rw [ih (i + 1)]
      constructor
      · rintro ⟨hj, st', hs, hp⟩
        exact ⟨((hrest st').1 ⟨hj, hs⟩).1, st', ((hrest st').1 ⟨hj, hs⟩).2, hp⟩
      · rintro ⟨hj, st', hs, hp⟩
        exact ⟨((hrest st').2 ⟨hj, hs⟩).1, st', ((hrest st').2 ⟨hj, hs⟩).2, hp⟩
    unfold stageIndexes
    split
    · next hp =>
      rw [List.mem_cons, key]
      constructor
      · rintro (rfl | ⟨hj, h⟩)
        · exact ⟨Nat.le_refl _, st, by simp, hp⟩
        · exact ⟨Nat.le_of_lt hj, h⟩
      · rintro ⟨hj, h⟩
        rcases Nat.lt_or_eq_of_le hj with hj | rfl
        · exact .inr ⟨hj, h⟩
        · exact .inl rfl
    · next hp =>
      rw [key]
      constructor
      · rintro ⟨hj, h⟩; exact ⟨Nat.le_of_lt hj, h⟩
      · rintro ⟨hj, st', h, hp'⟩
        rcases Nat.lt_or_eq_of_le hj with hj | rfl
        · exact ⟨hj, st', h, hp'⟩
        · simp only [Nat.sub_self, List.getElem?_cons_zero, Option.some.injEq] at h
          exact absurd (h ▸ hp') hp

/-- The numbers of the stages that satisfy `p` are those that name such a stage. -/
theorem mem_stagesWith {s : State} {p : Stage → Bool} {j : Nat} :
    j ∈ s.stagesWith p ↔ ∃ st, s.stage? j = some st ∧ p st = true := by
  simp [State.stagesWith, State.stage?, mem_stageIndexes]

/-- A cut takes some of the stages it is offered. -/
theorem mem_of_mem_cutVictims {sizeOf : Nat → Nat} {limit n j : Nat} {l : List Nat}
    (h : j ∈ cutVictims sizeOf limit n l) : j ∈ l := by
  induction l generalizing n with
  | nil => cases h
  | cons i rest ih =>
    unfold cutVictims at h
    split at h
    · cases h
    · rcases List.mem_cons.mp h with rfl | h
      · exact List.mem_cons_self ..
      · exact List.mem_cons_of_mem _ (ih h)

/-! ### Roles -/

/-- What the hand-offs, the claims and the conditions read of a stage: its owner, its class, and whether it is held, IDLE or
FAULTY. -/
def Stage.role (st : Stage) : Owner × Option Cls × Bool × Bool × Bool :=
  (st.owner, st.cls, st.isHeld, st.state == .idle, st.state == .faulty)

/-- The roles of the stage table. -/
def State.roles (s : State) : List (Owner × Option Cls × Bool × Bool × Bool) := s.stages.map Stage.role

theorem refeedback_eq (now : Time) (was st : Stage) : ∃ v, refeedback now was st = { st with feedback := v } := by
  unfold refeedback
  split
  · exact ⟨_, rfl⟩
  · split
    · exact ⟨_, rfl⟩
    · split
      · exact ⟨_, rfl⟩
      · exact ⟨_, rfl⟩

@[simp] theorem refeedback_role (now : Time) (was st : Stage) : (refeedback now was st).role = st.role := by
  obtain ⟨v, h⟩ := refeedback_eq now was st; rw [h]; rfl

@[simp] theorem refeedback_state (now : Time) (was st : Stage) : (refeedback now was st).state = st.state := by
  obtain ⟨v, h⟩ := refeedback_eq now was st; rw [h]

@[simp] theorem refeedback_cls (now : Time) (was st : Stage) : (refeedback now was st).cls = st.cls := by
  obtain ⟨v, h⟩ := refeedback_eq now was st; rw [h]

@[simp] theorem refeedback_owner (now : Time) (was st : Stage) : (refeedback now was st).owner = st.owner := by
  obtain ⟨v, h⟩ := refeedback_eq now was st; rw [h]

/-- The stage at an index after a change at an index. -/
theorem stage?_modStage (i j : Nat) (g : Stage → Stage) (s : State) :
    (modStage i g s).stage? j =
      if i = j then (s.stage? j).map (fun st => refeedback s.clock st (g st)) else s.stage? j := by
  simp only [modStage, State.stage?, List.getElem?_modify]
  split <;> simp

theorem roles_getElem? (s : State) (i : Nat) : s.roles[i]? = (s.stage? i).map Stage.role := by
  simp [State.roles, State.stage?]

/-- Stage tables are alike in their roles where every stage is. -/
theorem roles_eq_iff {s t : State} : t.roles = s.roles ↔ ∀ i, (t.stage? i).map Stage.role = (s.stage? i).map Stage.role := by
  simp only [← roles_getElem?]
  exact ⟨fun h i => by rw [h], List.ext_getElem?⟩

/-- A change that keeps the role of the stage at an index keeps the roles. -/
theorem modStage_roles {i : Nat} {g : Stage → Stage} {s : State} (h : ∀ st, s.stage? i = some st → (g st).role = st.role) :
    (modStage i g s).roles = s.roles := by
  refine roles_eq_iff.2 fun j => ?_
  rw [stage?_modStage]
  split
  · next hij =>
    subst hij
    cases hs : s.stage? i with
    | none => rfl
    | some st => simp [h st hs]
  · rfl

/-! ### What the roles decide -/

theorem Stage.isHeld_of_role {st st' : Stage} (h : st.role = st'.role) : st.isHeld = st'.isHeld :=
  congrArg (fun r => r.2.2.1) h

/-- The stage at an index where the roles are those of another table. -/
theorem stage?_of_roles {s t : State} (h : t.roles = s.roles) {i : Nat} {st : Stage} (hs : t.stage? i = some st) :
    ∃ st', s.stage? i = some st' ∧ st'.role = st.role := by
  have := roles_eq_iff.1 h i
  rw [hs] at this
  cases hs' : s.stage? i with
  | none => rw [hs'] at this; cases this
  | some st' => rw [hs'] at this; exact ⟨st', rfl, (Option.some.inj this).symm⟩

theorem mem_stages_iff {s : State} {st : Stage} : st ∈ s.stages ↔ ∃ i, s.stage? i = some st := List.mem_iff_getElem?

/-- The number of stages that a test of the role selects. -/
theorem countRole_eq {s t : State} (h : t.roles = s.roles) (p : Owner × Option Cls × Bool × Bool × Bool → Bool) :
    (t.stages.filter (fun st => p st.role)).length = (s.stages.filter (fun st => p st.role)).length := by
  have count : ∀ l : List Stage, (l.filter (fun st => p st.role)).length = ((l.map Stage.role).filter p).length := fun l => by
    rw [List.filter_map, List.length_map]; rfl
  rw [count, count]
  exact congrArg (fun l => (l.filter p).length) h

theorem heldCount_of_roles {s t : State} (h : t.roles = s.roles) (o : Owner) (c : Cls) : t.heldCount o c = s.heldCount o c :=
  countRole_eq h (fun r => r.1 == o && r.2.2.1 && r.2.1 == some c)

/-! ### FAULTY stages -/

/-- Each stage's owner, and whether the stage is FAULTY. -/
def State.faults (s : State) : List (Owner × Bool) := s.stages.map (fun st => (st.owner, st.state == .faulty))

theorem faults_of_roles {s t : State} (h : t.roles = s.roles) : t.faults = s.faults := by
  have key : ∀ u : State, u.faults = u.roles.map (fun r => (r.1, r.2.2.2.2)) := fun u => by
    simp [State.faults, State.roles, Stage.role]
  rw [key, key, h]

theorem faults_getElem? (s : State) (i : Nat) :
    s.faults[i]? = (s.stage? i).map (fun st => (st.owner, st.state == .faulty)) := by
  simp [State.faults, State.stage?]

theorem goodCount_of_faults {s t : State} (h : t.faults = s.faults) (o : Owner) : t.goodCount o = s.goodCount o := by
  have key : ∀ u : State, u.goodCount o = (u.faults.filter (fun p => p.1 == o && !p.2)).length := fun u => by
    unfold State.goodCount State.faults
    rw [List.filter_map, List.length_map]; rfl
  rw [key, key, h]

theorem anyFaulty_of_faults {s t : State} (h : t.faults = s.faults) :
    t.stages.any (fun st => st.state == .faulty) = s.stages.any (fun st => st.state == .faulty) := by
  have key : ∀ u : State, u.stages.any (fun st => st.state == .faulty) = u.faults.any (·.2) := fun u => by
    simp only [State.faults, List.any_map]; rfl
  rw [key, key, h]

/-- A change of a stage that leaves its owner and its being FAULTY. -/
theorem modStage_faults {i : Nat} {g : Stage → Stage} {s : State}
    (h : ∀ st, s.stage? i = some st → (g st).owner = st.owner ∧ ((g st).state = .faulty ↔ st.state = .faulty)) :
    (modStage i g s).faults = s.faults := by
  refine List.ext_getElem? fun j => ?_
  rw [faults_getElem?, faults_getElem?, stage?_modStage]
  split
  · next hij =>
    subst hij
    cases hs : s.stage? i with
    | none => rfl
    | some st =>
      obtain ⟨ho, hf⟩ := h st hs
      simp [ho, beq_eq_beq.2 hf]
  · rfl

/-- No queue holds the number of a FAULTY stage. -/
def State.QueueClean (s : State) : Prop := ∀ c, ∀ i ∈ s.queue.get c, ∀ st, s.stage? i = some st → st.state ≠ .faulty

theorem State.QueueSound.clean {s : State} (h : s.QueueSound) : s.QueueClean := by
  intro c i hi st hs hf
  obtain ⟨st', hs', hq, -⟩ := (((h c).2 i).1 hi)
  rw [hs] at hs'
  cases hs'
  rw [hf] at hq
  cases hq

/-- A stage at an index is FAULTY as long as the faults stand. -/
theorem faulty_of_faults {s t : State} (h : t.faults = s.faults) {i : Nat} {st : Stage} (hs : t.stage? i = some st)
    (hf : st.state = .faulty) : ∃ st', s.stage? i = some st' ∧ st'.state = .faulty := by
  have he : (t.stage? i).map (fun st => (st.owner, st.state == .faulty))
      = (s.stage? i).map (fun st => (st.owner, st.state == .faulty)) := by
    rw [← faults_getElem?, ← faults_getElem?, h]
  rw [hs] at he
  cases hs' : s.stage? i with
  | none => rw [hs'] at he; cases he
  | some st' =>
    rw [hs'] at he
    refine ⟨st', rfl, ?_⟩
    have := congrArg Prod.snd (Option.some.inj he)
    simpa [hf] using this.symm

/-- The queue stays clean where the faults stand and what joins it names no FAULTY stage. -/
theorem State.QueueClean.of_faults {s t : State} (h : s.QueueClean) (hf : t.faults = s.faults)
    (hq : ∀ c, ∀ i ∈ t.queue.get c, i ∈ s.queue.get c ∨ ∀ st, s.stage? i = some st → st.state ≠ .faulty) : t.QueueClean := by
  intro c i hi st hs hfst
  obtain ⟨st', hs', hf'⟩ := faulty_of_faults hf hs hfst
  rcases hq c i hi with hi | hi
  · exact h c i hi st' hs' hf'
  · exact hi st' hs' hf'

end Sys2Proof.Machine
end

section
/-! The operations of the stage controller by what they keep: taking off, suspending, resuming and admitting keep every role; filling and
converting keep which stages are FAULTY; a withdrawal does so on a clean queue. -/

namespace Sys2Proof.Machine

/-! ### The queue by class -/

theorem PerClass_get_set {α : Type} (p : PerClass α) (c c' : Cls) (v : α) :
    (p.set c v).get c' = if c' = c then v else p.get c' := by
  cases c <;> cases c' <;> rfl

theorem PerClass_get_map {α β : Type} (f : α → β) (p : PerClass α) (c : Cls) : (p.map f).get c = f (p.get c) := by
  cases c <;> rfl

theorem mem_queueFront {c c' : Cls} {l : List Nat} {i : Nat} {s : State} :
    i ∈ (queueFront c l s).queue.get c' ↔ (c' = c ∧ i ∈ l) ∨ i ∈ s.queue.get c' := by
  simp only [queueFront, PerClass_get_set]
  split
  · next h => subst h; simp
  · next h => simp [h]

theorem mem_queueBack {c c' : Cls} {i j : Nat} {s : State} :
    j ∈ (queueBack c i s).queue.get c' ↔ (c' = c ∧ j = i) ∨ j ∈ s.queue.get c' := by
  simp only [queueBack, PerClass_get_set]
  split
  · next h => subst h; simp [or_comm]
  · next h => simp [h]

theorem mem_queueAt {c c' : Cls} {n i j : Nat} {s : State} :
    j ∈ (queueAt c n i s).queue.get c' ↔ (c' = c ∧ j = i) ∨ j ∈ s.queue.get c' := by
  simp only [queueAt, PerClass_get_set]
  split
  · next h =>
    subst h
    have : j ∈ s.queue.get c' ↔ j ∈ (s.queue.get c').take n ∨ j ∈ (s.queue.get c').drop n := by
      rw [← List.mem_append, List.take_append_drop]
    simp only [List.mem_append, List.mem_cons, this, true_and]
    tauto
  · next h => simp [h]

theorem mem_unqueue {c : Cls} {i j : Nat} {s : State} :
    j ∈ (unqueue i s).queue.get c ↔ j ∈ s.queue.get c ∧ j ≠ i := by
  simp [unqueue, PerClass_get_map]

/-! ### Operations that keep every role -/

/-- Every stage keeps its role, and a clean queue stays clean. -/
structure RolesKept (s t : State) : Prop where
  roles : t.roles = s.roles
  clean : s.QueueClean → t.QueueClean

theorem RolesKept.refl (s : State) : RolesKept s s := ⟨rfl, id⟩

theorem RolesKept.trans {s t u : State} (h₁ : RolesKept s t) (h₂ : RolesKept t u) : RolesKept s u :=
  ⟨h₂.roles.trans h₁.roles, fun h => h₂.clean (h₁.clean h)⟩

/-- A state with the same stage table and queue. -/
theorem RolesKept.of_eq {s t : State} (hs : t.stages = s.stages) (hq : t.queue = s.queue) : RolesKept s t :=
  ⟨by simp only [State.roles, hs], fun h c i hi st hst => h c i (hq ▸ hi) st (by simpa only [State.stage?, hs] using hst)⟩

/-- What keeps the roles after a change of neither the stage table nor the queue. -/
theorem RolesKept.after {s t u : State} (h : RolesKept t u) (hs : t.stages = s.stages) (hq : t.queue = s.queue) :
    RolesKept s u := (RolesKept.of_eq hs hq).trans h

theorem CondOnly.rolesKept {s t : State} (h : CondOnly s t) : RolesKept s t := .of_eq h.stages_eq h.queue_eq

theorem LinkOnly.rolesKept {s t : State} (h : LinkOnly s t) : RolesKept s t := h.toCondOnly.rolesKept

/-- The roles stand, and what joins the queue is held. -/
theorem RolesKept.of_held {s t : State} (hr : t.roles = s.roles)
    (hq : ∀ c, ∀ i ∈ t.queue.get c, i ∈ s.queue.get c ∨ ∀ st, s.stage? i = some st → st.isHeld = true) : RolesKept s t := by
  refine ⟨hr, fun h => h.of_faults (faults_of_roles hr) fun c i hi => (hq c i hi).imp_right fun hh st hs hf => ?_⟩
  have := hh st hs
  simp [Stage.isHeld, Stage.heating, hf] at this

theorem Stage.isHeld_iff (st : Stage) :
    st.isHeld = true ↔ st.state = .queued ∨ st.state = .energized ∨ st.state = .suspended := by
  simp [Stage.isHeld, Stage.heating]

theorem Stage.heating_iff (st : Stage) : st.heating = true ↔ st.state = .energized ∨ st.state = .suspended := by
  simp [Stage.heating]

theorem Stage.isHeld_of_heating {st : Stage} (h : st.heating = true) : st.isHeld = true := by
  simp [Stage.isHeld, h]

/-- A held stage that stays held, with its owner and class, keeps its role. -/
theorem Stage.role_of_held {st st' : Stage} (h : st.isHeld = true) (h' : st'.isHeld = true) (ho : st'.owner = st.owner)
    (hc : st'.cls = st.cls) : st'.role = st.role := by
  have idle : ∀ x : Stage, x.isHeld = true → (x.state == .idle) = false ∧ (x.state == .faulty) = false := fun x hx => by
    rcases (Stage.isHeld_iff x).1 hx with hx | hx | hx <;> simp [hx]
  simp [Stage.role, ho, hc, h, h', idle st h, idle st' h']

/-- A change of a held stage that stays held with its owner and class. -/
theorem modStage_held {i : Nat} {g : Stage → Stage} {s : State}
    (h : ∀ st, s.stage? i = some st → st.isHeld = true ∧ (g st).isHeld = true ∧ (g st).owner = st.owner
      ∧ (g st).cls = st.cls) : RolesKept s (modStage i g s) :=
  .of_held (modStage_roles fun st hs =>
    Stage.role_of_held (h st hs).1 (h st hs).2.1 (h st hs).2.2.1 (h st hs).2.2.2) fun _ _ hi => .inl hi

/-- The numbers in a list name held stages. -/
def State.Holds (s : State) (l : List Nat) : Prop := ∀ i ∈ l, ∀ st, s.stage? i = some st → st.isHeld = true

theorem State.Holds.of_roles {s t : State} {l : List Nat} (h : s.Holds l) (hr : t.roles = s.roles) : t.Holds l := by
  intro i hi st hs
  obtain ⟨st', hs', hrole⟩ := stage?_of_roles hr hs
  rw [← Stage.isHeld_of_role hrole]
  exact h i hi st' hs'

/-- A change of several held stages that stay held. -/
theorem foldl_modStage_held {g : Stage → Stage} (hg : ∀ st, st.isHeld = true → (g st).isHeld = true ∧ (g st).owner = st.owner
    ∧ (g st).cls = st.cls) : ∀ (l : List Nat) (s : State), s.Holds l → RolesKept s (l.foldl (fun s i => modStage i g s) s)
  | [], s, _ => .refl s
  | i :: l, s, h => by
    have h1 : RolesKept s (modStage i g s) := modStage_held fun st hs =>
      ⟨h i (List.mem_cons_self ..) st hs, hg st (h i (List.mem_cons_self ..) st hs)⟩
    refine h1.trans (foldl_modStage_held hg l _ ?_)
    exact State.Holds.of_roles (fun j hj => h j (List.mem_cons_of_mem _ hj)) h1.roles

/-- Taking held stages off keeps every role. -/
theorem takeOff_roles {victims : List Nat} {s : State} (h : s.Holds victims) : RolesKept s (takeOff victims s) := by
  have h1 : RolesKept s (victims.foldl (fun s i => modStage i Stage.toQueued s) s) :=
    foldl_modStage_held (g := Stage.toQueued) (fun st _ => ⟨by simp [Stage.toQueued, Stage.isHeld], rfl, rfl⟩) victims s h
  have fronts : ∀ (group : Cls → List Nat) (l : List Cls) (s : State), (∀ c, s.Holds (group c)) →
      RolesKept s (l.foldl (fun s c => queueFront c (group c) s) s) := by
    intro group l
    induction l with
    | nil => intro s _; exact .refl s
    | cons c l ih =>
      intro s hs
      have hq : RolesKept s (queueFront c (group c) s) := .of_held rfl fun c' i hi => by
        rcases mem_queueFront.1 hi with ⟨-, hi⟩ | hi
        · exact .inr (hs c i hi)
        · exact .inl hi
      exact hq.trans (ih _ fun c => (hs c).of_roles hq.roles)
  refine h1.trans (fronts _ _ _ fun c => State.Holds.of_roles (fun i hi => ?_) h1.roles)
  exact h i (by simpa using (Bool.and_eq_true_iff.1 (List.mem_filter.1 hi).2).1)

theorem holds_stagesWith {s : State} {p : Stage → Bool} (h : ∀ st, p st = true → st.isHeld = true) :
    s.Holds (s.stagesWith p) := by
  intro i hi st hs
  obtain ⟨st', hs', hp⟩ := mem_stagesWith.1 hi
  rw [hs] at hs'
  cases hs'
  exact h st hp

theorem cut_roles (c : Cls) (s : State) : RolesKept s (cut c s) := by
  refine takeOff_roles fun i hi => ?_
  rcases List.mem_append.1 (mem_of_mem_cutVictims hi) with hi | hi
  · exact holds_stagesWith (fun st hp => (Stage.isHeld_iff st).2 (by simp at hp; simp [hp.1])) i (mem_bySince.1 hi)
  · exact holds_stagesWith (fun st hp => (Stage.isHeld_iff st).2 (by simp at hp; simp [hp.1])) i (mem_bySince.1 hi)

theorem shedStages_roles (s : State) : RolesKept s (shedStages s) :=
  takeOff_roles (holds_stagesWith fun _ h => Stage.isHeld_of_heating h)

theorem blowerLoss_roles (f : FanId) (s : State) : RolesKept s (blowerLoss f s) :=
  takeOff_roles (holds_stagesWith fun _ h => Stage.isHeld_of_heating (Bool.and_eq_true_iff.1 h).1)

theorem suspendAll_roles (s : State) : RolesKept s (suspendAll s) := by
  have fold : ∀ (l : List Nat) (s : State), s.Holds l → RolesKept s (l.foldl (fun s i => modStage i (fun st =>
      { st with state := .suspended, slice := .stopped, suspendedAt := some s.clock }) s) s) := by
    intro l
    induction l with
    | nil => intro s _; exact .refl s
    | cons i l ih =>
      intro s h
      have h1 : RolesKept s (modStage i (fun st =>
          { st with state := .suspended, slice := .stopped, suspendedAt := some s.clock }) s) :=
        modStage_held fun st hs => ⟨h i (List.mem_cons_self ..) st hs, by simp [Stage.isHeld, Stage.heating], rfl, rfl⟩
      exact h1.trans (ih _ (State.Holds.of_roles (fun j hj => h j (List.mem_cons_of_mem _ hj)) h1.roles))
  exact fold _ s (holds_stagesWith fun st h => (Stage.isHeld_iff st).2 (by simp at h; simp [h]))

theorem resume_roles {i : Nat} {s : State} (h : ∀ st, s.stage? i = some st → st.isHeld = true) : RolesKept s (resume i s) :=
  (modStage_held (g := Stage.resumed s.clock s.sliceMs) fun st hs =>
    ⟨h st hs, by simp [Stage.resumed, Stage.isHeld, Stage.heating], rfl, rfl⟩).trans (.of_eq rfl rfl)

theorem unqueue_roles (i : Nat) (s : State) : RolesKept s (unqueue i s) :=
  .of_held rfl fun _ _ hj => .inl (mem_unqueue.1 hj).1

theorem admitStage_roles {i : Nat} {s : State} (h : ∀ st, s.stage? i = some st → st.isHeld = true) :
    RolesKept s (admitStage i s) :=
  ((unqueue_roles i s).trans (modStage_held (g := Stage.admitted s.clock s.sliceMs) fun st hs =>
    ⟨h st hs, by simp [Stage.admitted, Stage.isHeld, Stage.heating], rfl, rfl⟩)).trans (.of_eq rfl rfl)

theorem firstSuspended_held {s : State} {i : Nat} (h : s.firstSuspended = some i) :
    ∃ st, s.stage? i = some st ∧ st.state = .suspended := by
  obtain ⟨c, -, hc⟩ := List.mem_flatMap.1 (List.mem_of_mem_head? h)
  obtain ⟨st, hs, hp⟩ := mem_stagesWith.1 (mem_bySince.1 hc)
  exact ⟨st, hs, by simp at hp; exact hp.1⟩

theorem firstAdmissible_queued {s : State} {i : Nat} (h : s.firstAdmissible = some i) :
    ∃ st, s.stage? i = some st ∧ st.state = .queued := by
  obtain ⟨c, -, hc⟩ := List.mem_flatMap.1 (List.mem_of_mem_head? h)
  have hp := (List.mem_filter.1 hc).2
  unfold State.admissible at hp
  split at hp
  · next st hs => exact ⟨st, hs, by simp at hp; exact hp.1.1.1⟩
  · cases hp

theorem admissionAttempt_roles (s : State) : RolesKept s (admissionAttempt s) := by
  unfold admissionAttempt
  split
  · split
    · next i hi =>
      obtain ⟨st, hs, hst⟩ := firstSuspended_held hi
      exact resume_roles fun st' hs' => by rw [hs] at hs'; cases hs'; exact (Stage.isHeld_iff st).2 (by simp [hst])
    · split
      · next i hi =>
        obtain ⟨st, hs, hst⟩ := firstAdmissible_queued hi
        exact admitStage_roles fun st' hs' => by rw [hs] at hs'; cases hs'; exact (Stage.isHeld_iff st).2 (by simp [hst])
      · exact .refl s
  · exact .refl s

theorem payAttempt_roles (s : State) : RolesKept s (payAttempt s) := by
  unfold payAttempt
  split
  · exact RolesKept.trans (t := noteDraw { s with attemptDue := false }) (.of_eq rfl rfl) (admissionAttempt_roles _)
  · exact .refl s

theorem finish_roles (s : State) : RolesKept s (finish s) :=
  (payAttempt_roles s).trans (.of_eq rfl rfl)

theorem lowerIntents_roles (s : State) : RolesKept s (lowerIntents s) := by
  have cuts : ∀ (p q : PerClass Nat) (l : List Cls) (s : State),
      RolesKept s (l.foldl (fun s c => if p.get c < q.get c then cut c s else s) s) := by
    intro p q l
    induction l with
    | nil => exact fun s => .refl s
    | cons c l ih =>
      intro s
      refine RolesKept.trans (t := if p.get c < q.get c then cut c s else s) ?_ (ih _)
      split
      · exact cut_roles c s
      · exact .refl s
  unfold lowerIntents
  dsimp only
  split
  · exact (cuts _ _ _ _).after rfl rfl
  · exact ((cuts _ _ _ _).trans (demandDue_only _).rolesKept).after rfl rfl

theorem raiseIntents_roles (s : State) : RolesKept s (raiseIntents s) := by
  unfold raiseIntents
  dsimp only
  split
  · exact .refl s
  · exact (demandDue_only _).rolesKept.after rfl rfl

theorem recheck_roles (c : Condition) (s : State) : RolesKept s (recheck c s) :=
  (recheck_only c s).rolesKept

theorem recompute_roles (s : State) : RolesKept s (recompute s) := by
  unfold recompute
  dsimp only
  refine RolesKept.trans (RolesKept.trans ?_ (lowerIntents_roles _)) (raiseIntents_roles _)
  split
  · exact .of_eq rfl rfl
  · exact (recheck_roles _ _).after rfl rfl

theorem reformClaims_roles (s : State) : RolesKept s (reformClaims s) := by
  have h : RolesKept s (recompute (demandDue (modOwn (fun e => { e with claims := s.claimsNow }) s))) :=
    ((demandDue_only _).rolesKept.trans (recompute_roles _)).after rfl rfl
  unfold reformClaims
  dsimp only
  split
  · exact .refl s
  · split
    · exact h
    · exact h.trans (recheck_roles _ _)

theorem modFan_roles (f : FanId) (g : Blower → Blower) (s : State) : RolesKept s (s.modFan f g) := .of_eq rfl rfl

theorem commandFan_roles (f : FanId) (level : Nat) (s : State) : RolesKept s (commandFan f level s) := by
  unfold commandFan
  split
  · exact .refl s
  · dsimp only
    split
    · exact .refl s
    · split
      · split <;> exact .of_eq rfl rfl
      · split
        · have h : RolesKept s (recheck .blowerFailed
              ((s.modFan f (fun b => { b with level := level })).modFan f Blower.stop)) :=
            (recheck_roles _ _).after rfl rfl
          split
          · exact h.trans (blowerLoss_roles f _)
          · exact h
        · exact .of_eq rfl rfl

theorem rechooseZoneFan_roles (z : Fin 4) (s : State) : RolesKept s (rechooseZoneFan z s) := by
  unfold rechooseZoneFan
  split
  · exact commandFan_roles _ _ s
  · exact .refl s

theorem handDemand_roles (z : Fin 4) (u : Nat) (s : State) : RolesKept s (handDemand z u s) :=
  (modFan_roles _ _ s).trans (rechooseZoneFan_roles z _)

/-! ### Operations that keep which stages are FAULTY -/

/-- The FAULTY stages stand, and a clean queue stays clean. -/
structure FaultsKept (s t : State) : Prop where
  faults : t.faults = s.faults
  clean : s.QueueClean → t.QueueClean

theorem RolesKept.toFaults {s t : State} (h : RolesKept s t) : FaultsKept s t := ⟨faults_of_roles h.roles, h.clean⟩

/-- A state with the same stage table and queue. -/
theorem FaultsKept.of_eq {s t : State} (hs : t.stages = s.stages) (hq : t.queue = s.queue) : FaultsKept s t :=
  (RolesKept.of_eq hs hq).toFaults

theorem FaultsKept.refl (s : State) : FaultsKept s s := ⟨rfl, id⟩

theorem FaultsKept.trans {s t u : State} (h₁ : FaultsKept s t) (h₂ : FaultsKept t u) : FaultsKept s u :=
  ⟨h₂.faults.trans h₁.faults, fun h => h₂.clean (h₁.clean h)⟩

/-- A change that neither makes nor ends a fault. -/
theorem modStage_faultsKept {i : Nat} {g : Stage → Stage} {s : State}
    (h : ∀ st, s.stage? i = some st → (g st).owner = st.owner ∧ ((g st).state = .faulty ↔ st.state = .faulty)) :
    FaultsKept s (modStage i g s) :=
  ⟨modStage_faults h, fun hc => hc.of_faults (modStage_faults h) fun _ _ hi => .inl hi⟩

theorem leastWorn_some {o : Owner} {l : List Stage} {i j w : Nat} {best : Option (Nat × Nat)}
    (h : leastWorn o i l best = some (j, w)) :
    best = some (j, w) ∨ i ≤ j ∧ ∃ st, l[j - i]? = some st ∧ st.owner = o ∧ st.state = .idle := by
  induction l generalizing i best with
  | nil => exact .inl h
  | cons st rest ih =>
    have later : (i + 1 ≤ j ∧ ∃ st', rest[j - (i + 1)]? = some st' ∧ st'.owner = o ∧ st'.state = .idle) →
        i ≤ j ∧ ∃ st', (st :: rest)[j - i]? = some st' ∧ st'.owner = o ∧ st'.state = .idle := by
      rintro ⟨hj, st', hs, hp⟩
      have : j - i = (j - (i + 1)) + 1 := by omega
      exact ⟨by omega, st', by simpa [this] using hs, hp⟩
    rcases ih h with hb | hb
    · split at hb
      · next hp =>
        have here : best = some (j, w) ∨ j = i := by
          unfold lessWorn at hb
          split at hb
          · exact .inr (congrArg Prod.fst (Option.some.inj hb)).symm
          · split at hb
            · exact .inr (congrArg Prod.fst (Option.some.inj hb)).symm
            · exact .inl hb
        rcases here with hb | rfl
        · exact .inl hb
        · exact .inr ⟨Nat.le_refl _, st, by simp, by simpa using hp⟩
      · exact .inl hb
    · exact .inr (later hb)

/-- The stage that is queued next is an IDLE one of the owner. -/
theorem nextIdle_some {s : State} {o : Owner} {i : Nat} (h : s.nextIdle o = some i) :
    ∃ st, s.stage? i = some st ∧ st.owner = o ∧ st.state = .idle := by
  obtain ⟨⟨j, w⟩, hl, hj⟩ := Option.map_eq_some_iff.1 h
  cases hj
  rcases leastWorn_some hl with hb | ⟨-, st, hs, hp⟩
  · cases hb
  · exact ⟨st, by simpa [State.stage?] using hs, hp⟩

theorem oweAttempt_roles (s : State) : RolesKept s (oweAttempt s) := .of_eq rfl rfl

theorem enqueue_faults {c : Cls} {p : Place} {i : Nat} {s : State} (h : ∀ st, s.stage? i = some st → st.state = .idle) :
    FaultsKept s (enqueue c p i s) := by
  have hm : (modStage i (fun st => { st with state := .queued, cls := some c }) s).faults = s.faults :=
    modStage_faults fun st hs => ⟨rfl, by simp [h st hs]⟩
  have hq : ∀ t : State, t.stages = (modStage i (fun st => { st with state := .queued, cls := some c }) s).stages →
      (∀ c', ∀ j ∈ t.queue.get c', j = i ∨ j ∈ s.queue.get c') → FaultsKept s t := fun t ht hq => by
    have hf : t.faults = s.faults := by rw [← hm]; simp only [State.faults, ht]
    refine ⟨hf, fun hc => hc.of_faults hf fun c' j hj => ?_⟩
    rcases hq c' j hj with rfl | hj
    · exact .inr fun st hs hf => by rw [h st hs] at hf; cases hf
    · exact .inl hj
  unfold enqueue
  refine FaultsKept.trans ?_ (oweAttempt_roles _).toFaults
  cases p with
  | back => exact hq _ rfl fun c' j hj => (mem_queueBack.1 hj).imp_left (·.2)
  | front => exact hq _ rfl fun c' j hj => (mem_queueFront.1 hj).imp_left fun h => List.mem_singleton.1 h.2
  | position n => exact hq _ rfl fun c' j hj => (mem_queueAt.1 hj).imp_left (·.2)

theorem enqueueNext_faults (o : Owner) (c : Cls) (p : Place) (s : State) : FaultsKept s (enqueueNext o c p s) := by
  unfold enqueueNext
  split
  · next i hi =>
    obtain ⟨st, hs, -, hidle⟩ := nextIdle_some hi
    exact enqueue_faults fun st' hs' => by rw [hs] at hs'; cases hs'; exact hidle
  · exact .refl s

theorem fillBack_faults (o : Owner) (c : Cls) : ∀ (k : Nat) (s : State), FaultsKept s (fillBack o c k s)
  | 0, s => .refl s
  | k + 1, s => (enqueueNext_faults o c .back s).trans (fillBack_faults o c k _)

theorem fillTo_faults (o : Owner) (c : Cls) (n : Nat) (s : State) : FaultsKept s (fillTo o c n s) := fillBack_faults o c _ s

theorem refill_faults (o : Owner) (c : Cls) (n : Nat) (first : Option (Cls × Place)) (s : State) :
    FaultsKept s (refill o c n first s) := by
  unfold refill
  split
  · split
    · exact (enqueueNext_faults _ _ _ s).trans (fillTo_faults _ _ _ _)
    · exact fillTo_faults _ _ _ s
  · exact fillTo_faults _ _ _ s

theorem convertInPlace_faults : ∀ (k : Nat) (l : List Nat) (s : State), FaultsKept s (convertInPlace k l s).2
  | 0, _, s => .refl s
  | _ + 1, [], s => .refl s
  | k + 1, i :: rest, s => by
    unfold convertInPlace
    split
    · exact (modStage_faultsKept (g := fun st => { st with cls := some .zone }) fun st _ => ⟨rfl, Iff.rfl⟩).trans (convertInPlace_faults k rest _)
    · exact .refl s

/-! ### Withdrawals on a clean queue -/

/-- The numbers in a list name no FAULTY stage. -/
def State.Sound (s : State) (l : List Nat) : Prop := ∀ i ∈ l, ∀ st, s.stage? i = some st → st.state ≠ .faulty

theorem State.Sound.of_faults {s t : State} {l : List Nat} (h : s.Sound l) (hf : t.faults = s.faults) : t.Sound l := by
  intro i hi st hs hst
  obtain ⟨st', hs', hst'⟩ := faulty_of_faults hf hs hst
  exact h i hi st' hs' hst'

theorem convertQueued_faults {i : Nat} {s : State} (h : ∀ st, s.stage? i = some st → st.state ≠ .faulty) :
    FaultsKept s (convertQueued i s) := by
  have hf : (convertQueued i s).faults = s.faults := modStage_faults (s := s) fun st _ => ⟨rfl, Iff.rfl⟩
  refine ⟨hf, fun hc => hc.of_faults hf fun c j hj => ?_⟩
  rcases mem_queueBack.1 hj with ⟨-, rfl⟩ | hj
  · exact .inr h
  · exact .inl (mem_unqueue.1 hj).1

theorem foldl_faults {g : State → Nat → State}
    (hg : ∀ (s : State) (i : Nat), (∀ st, s.stage? i = some st → st.state ≠ .faulty) → FaultsKept s (g s i)) :
    ∀ (l : List Nat) (s : State), s.Sound l → FaultsKept s (l.foldl g s)
  | [], s, _ => .refl s
  | i :: l, s, h => by
    have h1 := hg s i (h i (List.mem_cons_self ..))
    exact h1.trans (foldl_faults hg l _
      (State.Sound.of_faults (fun j hj => h j (List.mem_cons_of_mem _ hj)) h1.faults))

theorem convert_faults (o : Owner) (k : Nat) (s : State) : FaultsKept s (convert o k s) := by
  unfold convert
  dsimp only
  refine (convertInPlace_faults k _ s).trans (foldl_faults (fun s i h => convertQueued_faults h) _ _ ?_)
  intro i hi st hs
  have hp := (List.mem_filter.1 (List.mem_of_mem_take hi)).2
  rw [hs] at hp
  simp at hp
  simp [hp.2]

theorem withdraw_faults {i : Nat} {s : State} (h : ∀ st, s.stage? i = some st → st.state ≠ .faulty) :
    FaultsKept s (withdraw i s) := by
  have hm : FaultsKept s (unqueue i (modStage i Stage.toIdle s)) :=
    (modStage_faultsKept (g := Stage.toIdle) fun st hs => ⟨rfl, by simp [Stage.toIdle, h st hs]⟩).trans (unqueue_roles i _).toFaults
  unfold withdraw
  dsimp only
  split <;> split
  · exact hm.trans (oweAttempt_roles _).toFaults
  · exact hm
  · exact hm.trans (oweAttempt_roles _).toFaults
  · exact hm

/-- The stages R52 withdraws are not FAULTY, where the queue is clean. -/
theorem sound_withdrawOrder {s : State} (h : s.QueueClean) (o : Owner) (c : Cls) : s.Sound (s.withdrawOrder o c) := by
  intro i hi st hs
  simp only [State.withdrawOrder, List.mem_append, List.mem_filter, List.mem_reverse, mem_bySince, mem_stagesWith] at hi
  rcases hi with (⟨hi, -⟩ | ⟨st', hs', hp⟩) | ⟨st', hs', hp⟩
  · exact h c i hi st hs
  · rw [hs] at hs'; cases hs'; simp at hp; simp [hp.1]
  · rw [hs] at hs'; cases hs'; simp at hp; simp [hp.1]

theorem withdrawTo_faults {s : State} (h : s.QueueClean) (o : Owner) (c : Cls) (n : Nat) :
    FaultsKept s (withdrawTo o c n s) :=
  foldl_faults (fun _ _ h => withdraw_faults h) _ _ fun i hi => sound_withdrawOrder h o c i (List.mem_of_mem_take hi)

theorem handOffSingle_faults {s : State} (h : s.QueueClean) (o : Owner) (c : Cls) (n : Nat) :
    FaultsKept s (handOffSingle o c n s) :=
  (withdrawTo_faults h o c _).trans (fillTo_faults o c _ _)

theorem zoneFalls_faults {s : State} (h : s.QueueClean) (z : Fin 4) (n m : Nat) : FaultsKept s (zoneFalls z n m s) := by
  have h1 := withdrawTo_faults h (.zone z) .zone n
  exact h1.trans (withdrawTo_faults (h1.clean h) _ _ _)

theorem handOffZone_faults {s : State} (h : s.QueueClean) (z : Fin 4) (n m : Nat) : FaultsKept s (handOffZone z n m s) := by
  have h1 := convert_faults (.zone z) (n - s.heldCount (.zone z) .zone) s
  have h2 := h1.trans (withdrawTo_faults (h1.clean h) (.zone z) .zone n)
  have h3 := h2.trans (fillTo_faults (.zone z) .zone n _)
  have h4 := h3.trans (withdrawTo_faults (h3.clean h) (.zone z) .absorb m)
  exact (h4.trans (fillTo_faults _ _ _ _)).trans (fillTo_faults _ _ _ _)

end Sys2Proof.Machine
end

section
/-! What one command keeps between its parts, as one relation: how the zones move, and which claims and conditions still follow their
inputs. A part that changes an input owes the re-forming or the recheck that comes later in the same command. -/

namespace Sys2Proof.Machine

/-! ### Flags -/

theorem Condition.bit_lt (c : Condition) : c.bit < 16 := by cases c <;> decide

theorem Condition.bit_injective {c c' : Condition} (h : c.bit = c'.bit) : c = c' := by
  cases c <;> cases c' <;> first | rfl | cases h

theorem Condition.exists_bit {i : Nat} (h : i < 16) : ∃ c : Condition, c.bit = i := by
  have : ∀ j : Fin 16, ∃ c ∈ Condition.all, c.bit = j.val := by decide
  obtain ⟨c, -, hc⟩ := this ⟨i, h⟩
  exact ⟨c, hc⟩

theorem flagSet_mask (c c' : Condition) : flagSet c.mask c' = decide (c' = c) := by
  have hm : c.mask = BitVec.twoPow 16 c.bit := by simp [Condition.mask, BitVec.twoPow]
  rw [flagSet, hm, BitVec.getLsbD_twoPow]
  simp only [c.bit_lt, decide_true, Bool.true_and]
  exact decide_eq_decide.2 ⟨fun h => (Condition.bit_injective h).symm, fun h => by rw [h]⟩

theorem flagSet_withFlag (w : BitVec 16) (c c' : Condition) :
    flagSet (withFlag w c) c' = (decide (c' = c) || flagSet w c') := by
  rw [withFlag, flagSet, BitVec.getLsbD_or, ← flagSet_mask, Bool.or_comm]; rfl

theorem flagSet_withoutFlag (w : BitVec 16) (c c' : Condition) :
    flagSet (withoutFlag w c) c' = (!decide (c' = c) && flagSet w c') := by
  rw [withoutFlag, flagSet, BitVec.getLsbD_and, BitVec.getLsbD_not, ← flagSet_mask, Bool.and_comm]
  simp [flagSet, c'.bit_lt]

/-- Every current flag is latched, flag by flag. -/
theorem latchesHold_iff {s : State} :
    s.LatchesHold ↔ ∀ c, flagSet s.cond.current c = true → flagSet s.cond.latched c = true := by
  unfold State.LatchesHold
  constructor
  · intro h c hc
    have := congrArg (fun w => w.getLsbD c.bit) h
    simpa [flagSet, c.bit_lt, show s.cond.current.getLsbD c.bit = true from hc] using this
  · intro h
    refine BitVec.eq_of_getLsbD_eq fun i hi => ?_
    obtain ⟨c, rfl⟩ := Condition.exists_bit hi
    have := h c
    unfold flagSet at this
    cases hc : s.cond.current.getLsbD c.bit <;> simp_all

/-! ### What a recheck does (R167) -/

theorem queueSingle_window (f : Frame) (s : State) : (queueSingle f s).link.window = s.link.window := by
  unfold queueSingle; split <;> rfl

theorem queueStatus_window (s : State) : (queueStatus s).link.window = s.link.window := by
  unfold queueStatus; split
  · rfl
  · exact queueSingle_window _ s

theorem demandDue_window (s : State) : (demandDue s).link.window = s.link.window := by
  unfold demandDue
  split
  · rfl
  · split
    · rfl
    · split <;> rfl

theorem latch_window (c : Condition) (s : State) : (latch c s).link.window = s.link.window := by
  unfold latch; split
  · rfl
  · exact queueStatus_window _

theorem raiseCondition_window (c : Condition) (s : State) : (raiseCondition c s).link.window = s.link.window := by
  unfold raiseCondition; split
  · rfl
  · exact latch_window c _

theorem recheck_window (c : Condition) (s : State) : (recheck c s).link.window = s.link.window := by
  unfold recheck; split
  · exact raiseCondition_window c s
  · rfl

@[simp] theorem latch_current (c : Condition) (s : State) : (latch c s).cond.current = s.cond.current := by
  rcases latch_cond c s with h | ⟨h, -⟩ <;> rw [h]

theorem latch_latched (c : Condition) (s : State) (c' : Condition) :
    flagSet (latch c s).cond.latched c' = (decide (c' = c) || flagSet s.cond.latched c') := by
  rcases latch_cond c s with h | ⟨h, hl⟩
  · rw [h]; exact flagSet_withFlag _ _ _
  · rw [h]
    by_cases hc : c' = c
    · subst hc; simp [hl]
    · simp [hc]

/-- After a recheck the condition's current flag says whether its cause holds, and the other flags stand. -/
theorem recheck_current (c : Condition) (s : State) (c' : Condition) :
    flagSet (recheck c s).cond.current c' = if c' = c then conditionHolds s c else flagSet s.cond.current c' := by
  unfold recheck
  split
  · next hh =>
    unfold raiseCondition
    split
    · next hc =>
      split
      · next he => rw [he, hc, hh]
      · rfl
    · simp only [latch_current, refreshList_cond, flagSet_withFlag]
      split
      · next he => simp [he, hh]
      · next he => simp [he]
  · next hh =>
    simp only [lowerCondition, refreshList_cond, flagSet_withoutFlag]
    split
    · next he => simp only [he, decide_true, Bool.not_true, Bool.false_and]; simpa using hh
    · next he => simp [he]

theorem recheck_latchesHold (c : Condition) {s : State} (h : s.LatchesHold) : (recheck c s).LatchesHold := by
  rw [latchesHold_iff] at h ⊢
  intro c' hc'
  unfold recheck at hc' ⊢
  split at hc'
  · next hh =>
    rw [if_pos hh]
    unfold raiseCondition at hc' ⊢
    split at hc'
    · next hc => rw [if_pos hc]; exact h c' hc'
    · next hc =>
      rw [if_neg hc, latch_latched]
      simp only [latch_current, refreshList_cond, flagSet_withFlag] at hc' ⊢
      rcases Bool.or_eq_true_iff.1 hc' with hd | hd
      · simp [hd]
      · simp [h c' hd]
  · next hh =>
    rw [if_neg hh]
    simp only [lowerCondition, refreshList_cond, flagSet_withoutFlag] at hc' ⊢
    exact h c' (Bool.and_eq_true_iff.1 hc').2

/-! ### How a zone moves -/

/-- The moves of a zone's context between two resets: scans, the hold timer, control expiries on a row of the zone table, OFF, the cap of ECO,
the fall of N_avail, the pending offset, and the events on its draft list. -/
inductive ZoneMove (table : List ZoneCfg) : Zone → Zone → Prop
  | stay (r : Zone) : ZoneMove table r r
  | next {a b c : Zone} : ZoneMove table a b → ZoneMove table b c → ZoneMove table a c
  | scan (now : Time) (reply : Reply) (r : Zone) : ZoneMove table r (r.scan now reply)
  | held (r : Zone) :
      ZoneMove table r { r with hold := .stopped, state := if r.state = .holding then .fallback else r.state }
  | control (s : State) (z : Fin 4) {g : ZoneCfg} (hg : g ∈ table) (r : Zone) : ZoneMove table r (s.controlled z g r)
  | off (r : Zone) : ZoneMove table r { r with state := .off, wanted := 0, offer := 0, demand := 0, limited := false }
  | cap (r : Zone) : ZoneMove table r { r with wanted := ecoCap true r.avail r.wanted }
  | fall (eco : Bool) (r : Zone) : ZoneMove table r (r.availFalls eco)
  | offset (x : Int) (r : Zone) : ZoneMove table r { r with pendingOffset := x }
  | opened (contribution : Draft → Nat) (d : Draft) (r : Zone) :
      ZoneMove table r { r with drafts := draftOpened contribution d r.drafts }
  | closed (now : Time) (station : Station) (door : Fin 3) (total : Nat) (r : Zone) :
      ZoneMove table r { r with drafts := draftClosed now station door total r.drafts }
  | lost (now : Time) (station : Station) (r : Zone) : ZoneMove table r { r with drafts := draftLost now station r.drafts }

/-- Each zone of one list moves to the zone in its place in the other. -/
def ZonesMove (table : List ZoneCfg) (l l' : List Zone) : Prop := List.Forall₂ (ZoneMove table) l l'

theorem ZonesMove.refl (table : List ZoneCfg) (l : List Zone) : ZonesMove table l l :=
  List.forall₂_same.2 fun r _ => .stay r

theorem ZonesMove.trans {table : List ZoneCfg} {l₁ l₂ l₃ : List Zone} (h₁ : ZonesMove table l₁ l₂)
    (h₂ : ZonesMove table l₂ l₃) : ZonesMove table l₁ l₃ := by
  induction h₁ generalizing l₃ with
  | nil => cases h₂; exact .nil
  | cons h _ ih =>
    cases h₂ with
    | cons h' t' => exact .cons (h.next h') (ih t')

/-- A change of one zone that is a move of it. -/
theorem ZonesMove.modify {table : List ZoneCfg} {g : Zone → Zone} :
    ∀ {l : List Zone} {i : Nat}, (∀ r, l[i]? = some r → ZoneMove table r (g r)) → ZonesMove table l (l.modify i g)
  | [], i, _ => by rw [List.modify_nil]; exact .nil
  | r :: l, 0, h => by rw [List.modify_zero_cons]; exact .cons (h r rfl) (ZonesMove.refl table l)
  | r :: l, i + 1, h => by
    rw [List.modify_succ_cons]
    exact .cons (.stay r) (ZonesMove.modify fun r' hr' => h r' (by simpa using hr'))

/-- A change of every zone that is a move of each. -/
theorem ZonesMove.map {table : List ZoneCfg} {g : Zone → Zone} (h : ∀ r, ZoneMove table r (g r)) :
    ∀ l : List Zone, ZonesMove table l (l.map g)
  | [] => .nil
  | r :: l => .cons (h r) (ZonesMove.map h l)

/-- Events on the draft lists, zone by zone. -/
theorem ZonesMove.drafts {table : List ZoneCfg} {g : Nat → List Draft → List Draft}
    (h : ∀ n r, ZoneMove table r { r with drafts := g n r.drafts }) :
    ∀ (i : Nat) (l : List Zone), ZonesMove table l (draftsFrom g i l)
  | _, [] => .nil
  | i, r :: l => .cons (h i r) (ZonesMove.drafts h (i + 1) l)

/-! ### What the claims and the conditions read -/

/-- What claims and conditions read of a zone. -/
def Zone.counts (r : Zone) : Nat × Nat := (r.wanted, r.offer)

/-- What claims and conditions read of a door. -/
def Door.facts (r : Door) : DoorState × Curtain × Option Bool := (r.state, r.curtain, r.filter.level)

/-- What claims and conditions read of the defrost record. -/
def Defrost.facts (d : Defrost) : DefrostState × Nat × Nat := (d.state, d.cabRun, d.screenRun)

/-- The own claims are those that their inputs give (R24). -/
def State.Claimed (s : State) : Prop := s.ownEntry.claims = s.claimsNow

/-- A condition is current exactly while its cause holds. -/
def State.Follows (s : State) (c : Condition) : Prop := flagSet s.cond.current c = conditionHolds s c

theorem zoneQuanta_congr (count : Zone → Nat) : ∀ {l l' : List Zone} (gs : List ZoneCfg), l'.map count = l.map count →
    zoneQuanta count l' gs = zoneQuanta count l gs
  | [], [], _, _ => rfl
  | [], _ :: _, _, h => by cases h
  | _ :: _, [], _, h => by cases h
  | r :: l, r' :: l', [], _ => rfl
  | r :: l, r' :: l', g :: gs, h => by
    obtain ⟨hr, hl⟩ := List.cons_eq_cons.1 h
    simp only [zoneQuanta, hr, zoneQuanta_congr count gs hl]

theorem curtainCount_congr {s t : State} (hc : t.config = s.config)
    (hd : t.doors.map (fun r => r.curtain.isWanted) = s.doors.map (fun r => r.curtain.isWanted)) (d : Fin 3) :
    t.curtainCount d = s.curtainCount d := by
  have hdoor : (t.door? d).map (fun r => r.curtain.isWanted) = (s.door? d).map (fun r => r.curtain.isWanted) := by
    simpa [State.door?] using congrArg (fun l => l[d.val]?) hd
  have hg : t.doorCfg? d = s.doorCfg? d := by simp only [State.doorCfg?, hc]
  unfold State.curtainCount
  rw [hg]
  cases ht : t.door? d <;> cases hs : s.door? d <;> simp only [ht, hs, Option.map_some, Option.map_none] at hdoor
  · rfl
  · cases hdoor
  · cases hdoor
  · cases s.doorCfg? d with
    | none => rfl
    | some g => simp only [Option.some.inj hdoor]

/-- The claims rest on the sharing state, VENT_ONLY, the zones' counts, the curtains wanted, the defrost state, the configuration and the
stages of curtains and defrost that are not FAULTY. -/
theorem claimsNow_congr_good {s t : State} (hc : t.config = s.config) (hsh : t.alloc.sharing = s.alloc.sharing)
    (hv : t.inUse.flags.ventOnly = s.inUse.flags.ventOnly) (hz : t.zones.map Zone.counts = s.zones.map Zone.counts)
    (hd : t.doors.map (fun r => r.curtain.isWanted) = s.doors.map (fun r => r.curtain.isWanted))
    (hdf : t.defrost.map Defrost.state = s.defrost.map Defrost.state)
    (hgc : ∀ d, t.goodCount (.curtain d) = s.goodCount (.curtain d))
    (hgd : s.defrost ≠ none → t.goodCount .defrost = s.goodCount .defrost) : t.claimsNow = s.claimsNow := by
  have hw : t.zones.map (·.wanted) = s.zones.map (·.wanted) := by
    simpa [Zone.counts, Function.comp_def] using congrArg (List.map Prod.fst) hz
  have ho : t.zones.map (·.offer) = s.zones.map (·.offer) := by
    simpa [Zone.counts, Function.comp_def] using congrArg (List.map Prod.snd) hz
  have hq : ∀ d, t.curtainQuanta d = s.curtainQuanta d := fun d => by
    unfold State.curtainQuanta
    rw [curtainCount_congr hc hd d, hgc, State.doorCfg?, hc]; rfl
  have hn : t.defrostNeed = s.defrostNeed := by
    unfold State.defrostNeed
    rw [hc]
    cases ht : t.defrost <;> cases hs : s.defrost <;> simp only [ht, hs, Option.map_some, Option.map_none] at hdf
    · rfl
    · cases hdf
    · cases hdf
    · simp only [Option.some.inj hdf, hgd (by simp [hs])]
  unfold State.claimsNow
  rw [hsh, hv, hc, hn, hq 0, hq 1, hq 2, zoneQuanta_congr (·.wanted) _ hw, zoneQuanta_congr (·.offer) _ ho]

/-- The claims stand where the faults do with their other inputs. -/
theorem claimsNow_congr {s t : State} (hc : t.config = s.config) (hsh : t.alloc.sharing = s.alloc.sharing)
    (hv : t.inUse.flags.ventOnly = s.inUse.flags.ventOnly) (hz : t.zones.map Zone.counts = s.zones.map Zone.counts)
    (hd : t.doors.map (fun r => r.curtain.isWanted) = s.doors.map (fun r => r.curtain.isWanted))
    (hdf : t.defrost.map Defrost.state = s.defrost.map Defrost.state) (hf : t.faults = s.faults) :
    t.claimsNow = s.claimsNow :=
  claimsNow_congr_good hc hsh hv hz hd hdf (fun _ => goodCount_of_faults hf _) (fun _ => goodCount_of_faults hf _)

/-! ### The relation -/

/-- What a part of a command may still owe: the re-forming of the claims, or the recheck of a condition. -/
inductive Debt where
  | claims
  | cause (c : Condition)
  deriving DecidableEq

/-- What a part of a command keeps: the phase, the configuration, the straps; zones that move, latches that hold, doors that no sample has set
CLOSED, a clean queue; and where they are not owed, claims and conditions that follow their inputs. -/
structure Keeps (owed : List Debt) (s t : State) : Prop where
  phase : t.phase = s.phase
  config : t.config = s.config
  straps : t.straps = s.straps
  zones : ZonesMove s.config.zones s.zones t.zones
  latches : s.LatchesHold → t.LatchesHold
  sampled : s.UnsampledClosed → t.UnsampledClosed
  clean : s.QueueClean → t.QueueClean
  claims : Debt.claims ∉ owed → s.Claimed → t.Claimed
  follows : ∀ c, Debt.cause c ∉ owed → s.UnsampledClosed → s.QueueClean → s.Follows c → t.Follows c

namespace Keeps

variable {owed : List Debt} {s t u : State}

theorem refl (owed : List Debt) (s : State) : Keeps owed s s :=
  ⟨rfl, rfl, rfl, .refl _ _, id, id, id, fun _ h => h, fun _ _ _ _ h => h⟩

theorem trans (h₁ : Keeps owed s t) (h₂ : Keeps owed t u) : Keeps owed s u where
  phase := h₂.phase.trans h₁.phase
  config := h₂.config.trans h₁.config
  straps := h₂.straps.trans h₁.straps
  zones := h₁.zones.trans (h₁.config ▸ h₂.zones)
  latches h := h₂.latches (h₁.latches h)
  sampled h := h₂.sampled (h₁.sampled h)
  clean h := h₂.clean (h₁.clean h)
  claims hx h := h₂.claims hx (h₁.claims hx h)
  follows c hx hs hq h := h₂.follows c hx (h₁.sampled hs) (h₁.clean hq) (h₁.follows c hx hs hq h)

/-- More may be owed. -/
theorem mono {more : List Debt} (h : Keeps owed s t) (hsub : owed ⊆ more) : Keeps more s t :=
  { h with claims := fun hx => h.claims fun hm => hx (hsub hm), follows := fun c hx => h.follows c fun hm => hx (hsub hm) }

/-- A part that owes nothing after one that owes something. -/
theorem andThen (h₁ : Keeps owed s t) (h₂ : Keeps [] t u) : Keeps owed s u := h₁.trans (h₂.mono (List.nil_subset _))

/-- A part that owes something after one that owes nothing. -/
theorem before (h₁ : Keeps [] s t) (h₂ : Keeps owed t u) : Keeps owed s u := (h₁.mono (List.nil_subset _)).trans h₂

end Keeps

/-- Nothing that claims, conditions or zones rest on is changed, and no latch is cleared. -/
structure Plain (s t : State) : Prop where
  phase : t.phase = s.phase := by rfl
  config : t.config = s.config := by rfl
  straps : t.straps = s.straps := by rfl
  zones : t.zones = s.zones := by rfl
  doors : t.doors.map Door.facts = s.doors.map Door.facts := by rfl
  defrost : t.defrost.map Defrost.facts = s.defrost.map Defrost.facts := by rfl
  retrying : t.fans.map Blower.retrying = s.fans.map Blower.retrying := by rfl
  lost : t.damper.lost = s.damper.lost := by rfl
  sharing : t.alloc.sharing = s.alloc.sharing := by rfl
  allocation : t.alloc.allocation = s.alloc.allocation := by rfl
  accepted : t.view.accepted = s.view.accepted := by rfl
  outsideRun : t.view.outsideRun = s.view.outsideRun := by rfl
  claims : t.ownEntry.claims = s.ownEntry.claims := by rfl
  vent : t.inUse.flags.ventOnly = s.inUse.flags.ventOnly := by rfl
  window : t.link.window = s.link.window := by rfl
  current : t.cond.current = s.cond.current := by rfl
  latched : ∀ c, flagSet s.cond.latched c = true → flagSet t.cond.latched c = true := by exact fun _ h => h
  stages : FaultsKept s t := by exact FaultsKept.of_eq rfl rfl

namespace Plain

variable {s t u : State}

theorem refl (s : State) : Plain s s := {}

theorem trans (h₁ : Plain s t) (h₂ : Plain t u) : Plain s u where
  phase := h₂.phase.trans h₁.phase
  config := h₂.config.trans h₁.config
  straps := h₂.straps.trans h₁.straps
  zones := h₂.zones.trans h₁.zones
  doors := h₂.doors.trans h₁.doors
  defrost := h₂.defrost.trans h₁.defrost
  retrying := h₂.retrying.trans h₁.retrying
  lost := h₂.lost.trans h₁.lost
  sharing := h₂.sharing.trans h₁.sharing
  allocation := h₂.allocation.trans h₁.allocation
  accepted := h₂.accepted.trans h₁.accepted
  outsideRun := h₂.outsideRun.trans h₁.outsideRun
  claims := h₂.claims.trans h₁.claims
  vent := h₂.vent.trans h₁.vent
  window := h₂.window.trans h₁.window
  current := h₂.current.trans h₁.current
  latched c h := h₂.latched c (h₁.latched c h)
  stages := h₁.stages.trans h₂.stages

/-- The link controller's record changes, but for the error window. -/
theorem ofLink (h : LinkOnly s t) (hw : t.link.window = s.link.window) : Plain s t := by
  obtain ⟨l, rfl⟩ := h
  exact { window := hw }

/-- The stage table and the queue change, but for the faults. -/
theorem ofStages (h : StageOnly s t) (hf : FaultsKept s t) : Plain s t := by
  obtain ⟨st, q, a, rfl⟩ := h
  exact { stages := hf }

/-- The damper moves without losing its position. -/
theorem ofDamper (h : DamperOnly s t) (hl : t.damper.lost = s.damper.lost) : Plain s t := by
  obtain ⟨d, rfl⟩ := h
  exact { lost := hl }

theorem anyStuck (h : Plain s t) : t.doors.any (fun d => d.state == .stuck) = s.doors.any (fun d => d.state == .stuck) := by
  have key : ∀ u : State, u.doors.any (fun d => d.state == .stuck) = (u.doors.map Door.facts).any (fun f => f.1 == .stuck) :=
    fun u => by simp only [List.any_map]; rfl
  rw [key, key, h.doors]

theorem anyRetrying (h : Plain s t) : t.fans.any (fun b => b.retrying) = s.fans.any (fun b => b.retrying) := by
  have key : ∀ u : State, u.fans.any (fun b => b.retrying) = (u.fans.map Blower.retrying).any id :=
    fun u => by simp only [List.any_map]; rfl
  rw [key, key, h.retrying]

/-- Every cause stands. -/
theorem conditionHolds_eq (h : Plain s t) (c : Condition) : conditionHolds t c = conditionHolds s c := by
  cases c with
  | doorStuck => exact h.anyStuck
  | blowerFailed => exact h.anyRetrying
  | stageFaulty => exact anyFaulty_of_faults h.stages.faults
  | screenSensor =>
    have hd := h.defrost
    cases ht : t.defrost <;> cases hs : s.defrost <;>
      simp only [ht, hs, Option.map_some, Option.map_none, reduceCtorEq, Option.some.injEq] at hd
    · simp only [conditionHolds, ht, hs]
    · simp only [Defrost.facts, Prod.mk.injEq] at hd
      simp only [conditionHolds, ht, hs, hd.2.1, hd.2.2]
  | _ => simp only [conditionHolds, h.zones, h.config, h.straps, h.lost, h.sharing, h.allocation, h.accepted, h.outsideRun,
      h.claims, h.window]

theorem claimsNow_eq (h : Plain s t) : t.claimsNow = s.claimsNow := by
  refine claimsNow_congr h.config h.sharing h.vent (by rw [h.zones]) ?_ ?_ h.stages.faults
  · have key : ∀ u : State, u.doors.map (fun r => r.curtain.isWanted) = (u.doors.map Door.facts).map (fun f => f.2.1.isWanted) :=
      fun u => by rw [List.map_map]; rfl
    rw [key, key, h.doors]
  · have key : ∀ u : State, u.defrost.map Defrost.state = (u.defrost.map Defrost.facts).map Prod.fst :=
      fun u => by rw [Option.map_map]; rfl
    rw [key, key, h.defrost]

theorem unsampled (h : Plain s t) (hs : s.UnsampledClosed) : t.UnsampledClosed := by
  intro r hr hl
  have hm : r.facts ∈ s.doors.map Door.facts := h.doors ▸ List.mem_map_of_mem hr
  obtain ⟨r', hr', hf⟩ := List.mem_map.1 hm
  simp only [Door.facts, Prod.mk.injEq] at hf
  rw [← hf.1]
  exact hs r' hr' (hf.2.2.trans hl)

theorem keeps (h : Plain s t) : Keeps [] s t where
  phase := h.phase
  config := h.config
  straps := h.straps
  zones := by rw [h.zones]; exact .refl _ _
  latches hl := by
    rw [latchesHold_iff] at hl ⊢
    intro c hc
    exact h.latched c (hl c (h.current ▸ hc))
  sampled := h.unsampled
  clean := h.stages.clean
  claims _ hc := by unfold State.Claimed; rw [h.claims, h.claimsNow_eq]; exact hc
  follows c _ _ _ hc := by unfold State.Follows; rw [h.current, h.conditionHolds_eq]; exact hc

end Plain

/-! ### Paying what is owed -/

/-- A recheck changes no cause. -/
theorem recheck_conditionHolds (c : Condition) (s : State) (c' : Condition) :
    conditionHolds (recheck c s) c' = conditionHolds s c' := by
  have hw := recheck_window c s
  obtain ⟨l, w, h⟩ := recheck_only c s
  rw [h] at hw ⊢
  cases c' with
  | linkNoise => exact congrArg (fun w => decide (8 < w.length)) hw
  | _ => rfl

/-- A recheck keeps everything, and its condition then follows its cause. -/
theorem recheck_keeps (c : Condition) (s : State) : Keeps [] s (recheck c s) := by
  have hfollow : ∀ c', s.Follows c' → (recheck c s).Follows c' := fun c' h => by
    unfold State.Follows
    rw [recheck_current, recheck_conditionHolds]
    split
    · next he => rw [he]
    · exact h
  have honly := recheck_only c s
  have hroles := (recheck_roles c s).toFaults
  refine ⟨honly.phase_eq, honly.config_eq, honly.straps_eq, ?_, recheck_latchesHold c, ?_, hroles.clean, fun _ h => ?_,
    fun c' _ _ _ => hfollow c'⟩
  · rw [honly.zones_eq]; exact .refl _ _
  · unfold State.UnsampledClosed; rw [honly.doors_eq]; exact id
  · have hn : (recheck c s).claimsNow = s.claimsNow := claimsNow_congr honly.config_eq (by rw [honly.alloc_eq])
      (by rw [honly.inUse_eq]) (by rw [honly.zones_eq]) (by rw [honly.doors_eq]) (by rw [honly.defrost_eq]) hroles.faults
    unfold State.Claimed State.ownEntry State.entry
    rw [hn, honly.view_eq, honly.straps_eq]
    exact h

theorem recheck_follows (c : Condition) (s : State) : (recheck c s).Follows c := by
  unfold State.Follows
  rw [recheck_current, recheck_conditionHolds, if_pos rfl]

/-- A recheck pays for its condition. -/
theorem Keeps.recheck {owed : List Debt} {s t : State} {c : Condition} (h : Keeps (.cause c :: owed) s t) :
    Keeps owed s (recheck c t) := by
  have h' := h.andThen (recheck_keeps c t)
  refine { h' with claims := fun hx => h'.claims (by simpa using hx), follows := fun c' hx => ?_ }
  by_cases hc : c' = c
  · subst hc; exact fun _ _ _ => recheck_follows c' t
  · exact h'.follows c' (by simpa [hc] using hx)

end Sys2Proof.Machine
end

section
/-! The operations that change nothing that claims, conditions or zones rest on: the transmit list, the intents, the damper's drive, the admission
attempt and what closes a step. -/

namespace Sys2Proof.Machine

/-! ### The transmit list -/

theorem queueSingle_plain (f : Frame) (s : State) : Plain s (queueSingle f s) :=
  .ofLink (queueSingle_only f s) (queueSingle_window f s)

theorem refreshList_plain (s : State) : Plain s (refreshList s) := {}

theorem demandDue_plain (s : State) : Plain s (demandDue s) := .ofLink (demandDue_only s) (demandDue_window s)

theorem withdrawOverride_plain (s : State) : Plain s (withdrawOverride s) := {}

theorem startSpacing_plain (f : Frame) (s : State) : Plain s (startSpacing f s) := by
  unfold startSpacing
  split
  · exact {}
  · exact .refl s

/-- A latch sets no current flag. -/
theorem latch_plain (c : Condition) (s : State) : Plain s (latch c s) := by
  have hw := latch_window c s
  have hc := latch_current c s
  have hl := latch_latched c s
  obtain ⟨l, w, h⟩ := latch_only c s
  rw [h] at hw hc hl ⊢
  exact { window := hw, current := hc, latched := fun c' hc' => by rw [hl, hc', Bool.or_true] }

theorem queueDoor_plain (b : DoorBody) (s : State) : Plain s (queueDoor b s) := by
  unfold queueDoor
  dsimp only
  split
  · exact {}
  · split
    · exact {}
    · split
      · exact Plain.trans (t := s.withList _) {} (latch_plain _ _)
      · exact .refl s

/-! ### The own entry -/

theorem ownEntry_modEntry_own (s : State) (g : Entry → Entry) :
    (s.modEntry s.straps.station g).ownEntry = g s.ownEntry := entry_modEntry_same s s.straps.station g

theorem ownEntry_modEntry_peer (s : State) {i : Station} (g : Entry → Entry) (h : i ≠ s.straps.station) :
    (s.modEntry i g).ownEntry = s.ownEntry := entry_modEntry_other s g (Ne.symm h)

theorem modEntry_own_plain {g : Entry → Entry} (h : ∀ e, (g e).claims = e.claims) (s : State) :
    Plain s (s.modEntry s.straps.station g) :=
  { claims := (congrArg Entry.claims (ownEntry_modEntry_own s g)).trans (h _) }

theorem modEntry_peer_plain {i : Station} (g : Entry → Entry) {s : State} (h : i ≠ s.straps.station) :
    Plain s (s.modEntry i g) :=
  { claims := congrArg Entry.claims (ownEntry_modEntry_peer s g h) }

theorem modOwn_plain {g : Entry → Entry} (h : ∀ e, (g e).claims = e.claims) (s : State) : Plain s (modOwn g s) :=
  (modEntry_own_plain h s).trans (refreshList_plain _)

theorem noteDraw_plain (s : State) : Plain s (noteDraw s) :=
  (modEntry_own_plain (g := fun e => { e with draw := capNat 255 s.drawNow }) (fun _ => rfl) s).trans (refreshList_plain _)

/-! ### The intents -/

theorem setAnnounced_plain (p : PerClass Nat) (s : State) : Plain s (setAnnounced p s) :=
  Plain.trans (t := { s with alloc := { s.alloc with announced := p } }) {} (modOwn_plain (g := fun e => { e with intents := p }) (fun _ => rfl) _)

theorem setUsable_plain (p : PerClass Nat) (s : State) : Plain s (setUsable p s) := {}

theorem cut_plain (c : Cls) (s : State) : Plain s (cut c s) := .ofStages (cut_only c s) (cut_roles c s).toFaults

theorem lowerIntents_plain (s : State) : Plain s (lowerIntents s) := by
  have cuts : ∀ (p q : PerClass Nat) (l : List Cls) (s : State),
      Plain s (l.foldl (fun s c => if p.get c < q.get c then cut c s else s) s) := by
    intro p q l
    induction l with
    | nil => exact fun s => .refl s
    | cons c l ih =>
      intro s
      refine Plain.trans (t := if p.get c < q.get c then cut c s else s) ?_ (ih _)
      split
      · exact cut_plain c s
      · exact .refl s
  unfold lowerIntents
  dsimp only
  split
  · exact (setUsable_plain _ s).trans (cuts _ _ _ _)
  · exact (((setAnnounced_plain _ s).trans (setUsable_plain _ _)).trans (cuts _ _ _ _)).trans (demandDue_plain _)

theorem raiseIntents_plain (s : State) : Plain s (raiseIntents s) := by
  have pend : ∀ u : State, Plain u { u with alloc := { u.alloc with raisePending := true, holdOff := .stopped } } :=
    fun _ => {}
  unfold raiseIntents
  dsimp only
  split
  · exact .refl s
  · exact ((setAnnounced_plain _ s).trans (pend _)).trans (demandDue_plain _)

theorem shed_plain (s : State) : Plain s (shed s) := by
  have clear : ∀ u : State, Plain u { u with alloc := { u.alloc with holdOff := .stopped, raisePending := false } } :=
    fun _ => {}
  have usable : Plain s (setUsable (.const 0) (shedStages s)) :=
    (Plain.ofStages (shedStages_only s) (shedStages_roles s).toFaults).trans (setUsable_plain _ _)
  unfold shed
  dsimp only
  refine (Plain.trans ?_ (clear _)).trans (raiseIntents_plain _)
  split
  · exact usable
  · exact (usable.trans (setAnnounced_plain _ _)).trans (demandDue_plain _)

/-! ### The stage controller -/

theorem oweAttempt_plain (s : State) : Plain s (oweAttempt s) := {}

theorem blowerLoss_plain (f : FanId) (s : State) : Plain s (blowerLoss f s) :=
  .ofStages (blowerLoss_only f s) (blowerLoss_roles f s).toFaults

theorem suspendAll_plain (s : State) : Plain s (suspendAll s) :=
  .ofStages (suspendAll_only s) (suspendAll_roles s).toFaults

theorem refill_plain (o : Owner) (c : Cls) (n : Nat) (first : Option (Cls × Place)) (s : State) :
    Plain s (refill o c n first s) := .ofStages (refill_only o c n first s) (refill_faults o c n first s)

theorem admissionAttempt_plain (s : State) : Plain s (admissionAttempt s) := by
  have h := (admissionAttempt_roles s).toFaults
  have pace : ∀ u : State, Plain u (startPacing u) := fun _ => {}
  have paced : ∀ u v : State, StageOnly u v → FaultsKept u (startPacing v) → Plain u (startPacing v) := by
    rintro u v ⟨st, q, a, rfl⟩ hf
    exact { stages := hf }
  unfold admissionAttempt at h ⊢
  split at h
  · next hc =>
    rw [if_pos hc]
    split at h
    · exact paced _ _ (modStage_only _ _ _) h
    · split at h
      · exact paced _ _ ((unqueue_only _ _).trans (modStage_only _ _ _)) h
      · exact .refl s
  · next hc => rw [if_neg hc]; exact .refl s

theorem payAttempt_plain (s : State) : Plain s (payAttempt s) := by
  unfold payAttempt
  split
  · exact (Plain.trans (t := { s with attemptDue := false }) {} (noteDraw_plain _)).trans (admissionAttempt_plain _)
  · exact .refl s

/-- What closes a step changes nothing that claims, conditions or zones rest on. -/
theorem finish_plain (s : State) : Plain s (finish s) :=
  ((payAttempt_plain s).trans (noteDraw_plain _)).trans {}

theorem sliceExpiry_plain (i : Nat) (s : State) : Plain s (sliceExpiry i s) := by
  have change : ∀ (g : Stage → Stage) (u : State), (∀ st, (g st).owner = st.owner ∧ ((g st).state = .faulty ↔ st.state = .faulty)) →
      Plain u (modStage i g u) := fun g u h => .ofStages (modStage_only i g u) (modStage_faultsKept fun st _ => h st)
  have h1 := change (fun st => { st with slice := .stopped }) s fun _ => ⟨rfl, Iff.rfl⟩
  unfold sliceExpiry
  dsimp only
  split
  · exact .refl s
  · next st hs =>
    split
    · next c hst hc =>
      split
      · have held : ∀ st', (modStage i (fun st => { st with slice := .stopped }) s).stage? i = some st' → st'.state = .energized := by
          intro st' hs'
          rw [stage?_modStage, if_pos rfl, hs] at hs'
          simp only [Option.map_some, Option.some.injEq] at hs'
          rw [← hs', refeedback_state]
          exact hst
        have h2 : RolesKept (modStage i (fun st => { st with slice := .stopped }) s)
            (queueBack c i (modStage i Stage.toQueued (modStage i (fun st => { st with slice := .stopped }) s))) := by
          refine .of_held (modStage_roles fun st' hs' => ?_) fun c' j hj => ?_
          · exact Stage.role_of_held (by simp [Stage.isHeld, Stage.heating, held st' hs']) rfl rfl rfl
          · rcases mem_queueBack.1 hj with ⟨-, rfl⟩ | hj
            · exact .inr fun st' hs' => by simp [Stage.isHeld, Stage.heating, held st' hs']
            · exact .inl hj
        exact (h1.trans (.ofStages ((modStage_only _ _ _).trans (queueBack_only _ _ _)) h2.toFaults)).trans (oweAttempt_plain _)
      · exact h1.trans (change _ _ fun _ => ⟨rfl, Iff.rfl⟩)
    · exact h1

theorem sampleStages_faults (reset now : Time) (level : BitVec 44) :
    ∀ (i : Nat) (l : List Stage), (sampleStages reset now level i l).map (fun st => (st.owner, st.state == .faulty))
      = l.map (fun st => (st.owner, st.state == .faulty))
  | _, [] => rfl
  | i, st :: l => by
    obtain ⟨v, h, -⟩ := sampleFeedback_only reset now (level.getLsbD i) st
    simp only [sampleStages, List.map_cons, sampleStages_faults reset now level (i + 1) l, h]

/-! ### The damper -/

theorem setMotor_lost (m : Motor) (s : State) : (setMotor m s).damper.lost = s.damper.lost := by
  unfold setMotor; split <;> rfl

theorem trackMotor_lost (s : State) : (trackMotor s).damper.lost = s.damper.lost := by
  unfold trackMotor; split
  · exact setMotor_lost _ s
  · rfl

theorem keepStall_lost (before : Timer) (s : State) : (keepStall before s).damper.lost = s.damper.lost := by
  unfold keepStall; split <;> rfl

theorem retarget_lost (s : State) : (retarget s).damper.lost = s.damper.lost := by
  unfold retarget
  split
  · rfl
  · rw [keepStall_lost, trackMotor_lost]; rfl

theorem retarget_plain (s : State) : Plain s (retarget s) := .ofDamper (retarget_only s) (retarget_lost s)

theorem trackMotor_plain (s : State) : Plain s (trackMotor s) := .ofDamper (trackMotor_only s) (trackMotor_lost s)

theorem noticeDamper_plain (s : State) : Plain s (noticeDamper s) := by
  unfold noticeDamper
  split
  · exact .refl s
  · exact Plain.trans (t := s.modDamper (fun d => { d with doorOpen := s.anyDoorOpen })) {} (retarget_plain _)

theorem encoderStep_plain (m : EncoderMove) (s : State) : Plain s (encoderStep m s) := by
  have motion : Plain s (motionEvent s) := by
    unfold motionEvent
    split
    · exact .refl s
    · exact {}
  unfold encoderStep
  split
  · exact .refl s
  · dsimp only
    split
    · exact motion.trans (Plain.trans {} (trackMotor_plain _))
    · exact motion

theorem restExpiry_plain (s : State) : Plain s (restExpiry s) := by
  unfold restExpiry
  dsimp only
  split <;> exact {}

/-! ### Fans and defrost records that keep their facts -/

theorem modFan_plain (f : FanId) {g : Blower → Blower} (h : ∀ b, (g b).retrying = b.retrying) (s : State) :
    Plain s (s.modFan f g) := by
  refine { retrying := ?_ }
  simp only [State.modFan_fans, List.map_map]
  refine List.map_congr_left fun b _ => ?_
  simp only [Function.comp_apply]
  split
  · exact h b
  · rfl

theorem modDefrost_plain {g : Defrost → Defrost} (h : ∀ d, (g d).facts = d.facts) (s : State) : Plain s (s.modDefrost g) := by
  refine { defrost := ?_ }
  simp only [State.modDefrost_defrost, Option.map_map]
  exact congrArg (fun k => s.defrost.map k) (funext h)

theorem retryExpiry_plain (f : FanId) (s : State) : Plain s (retryExpiry f s) :=
  modFan_plain f (fun b => by split <;> rfl) s

theorem countPulse_plain (f : FanId) (s : State) : Plain s (countPulse f s) := modFan_plain f (fun _ => by rfl) s

theorem sampleTach_plain (tachs : BitVec 8) (s : State) (f : FanId) : Plain s (sampleTach tachs s f) := by
  unfold sampleTach
  split
  · dsimp only
    split
    · exact (modFan_plain f (fun _ => by rfl) s).trans (countPulse_plain f _)
    · exact modFan_plain f (fun _ => by rfl) s
  · exact .refl s

theorem Plain.foldl {α : Type} {g : State → α → State} (h : ∀ s a, Plain s (g s a)) :
    ∀ (l : List α) (s : State), Plain s (l.foldl g s)
  | [], s => .refl s
  | a :: l, s => (h s a).trans (Plain.foldl h l (g s a))

theorem sweep_facts (now : Time) (old : DefrostState) (d : Defrost) : (d.sweep now old).facts = d.facts := by
  unfold Defrost.sweep
  split
  · rfl
  · split <;> rfl

theorem fogTest_plain (s : State) : Plain s (fogTest s) := modDefrost_plain (fun _ => by rfl) s

theorem boostFalls_plain (s : State) : Plain s (s.modDefrost Defrost.boostFalls) := modDefrost_plain (fun _ => by rfl) s

theorem louvreStep_plain (s : State) : Plain s (louvreStep s) :=
  modDefrost_plain (fun d => by unfold Defrost.sweepStep; split <;> rfl) s

/-! ### The state in use, the view and the link -/

theorem enterHolding_plain (s : State) : Plain s (enterHolding s) := {}

theorem holdInUse_plain (s : State) : Plain s (holdInUse s) := by
  unfold holdInUse
  split
  · exact enterHolding_plain s
  · exact enterHolding_plain s
  · exact .refl s
  · exact .refl s

theorem sourceLost_plain (i : Station) (s : State) : Plain s (sourceLost i s) := by
  unfold sourceLost
  split
  · exact enterHolding_plain s
  · exact .refl s

theorem overrideSilence_plain (s : State) : Plain s (overrideSilence s) := by
  unfold overrideSilence
  dsimp only
  split
  · exact Plain.trans {} (enterHolding_plain _)
  · exact {}

theorem formAgreement_plain (s : State) : Plain s (formAgreement s) := by
  unfold formAgreement
  split <;> exact {}

theorem demandConfirmation_plain (p : PerClass Byte) (s : State) : Plain s (demandConfirmation p s) := by
  have h : ∀ a : Alloc, ∀ c : Bool, (if c then { a with demandConfirmed := true, raisePending := false, holdOff := s.timer 400 }
      else { a with demandConfirmed := true } : Alloc).sharing = a.sharing
      ∧ (if c then { a with demandConfirmed := true, raisePending := false, holdOff := s.timer 400 }
      else { a with demandConfirmed := true } : Alloc).allocation = a.allocation := fun a c => by cases c <;> exact ⟨rfl, rfl⟩
  exact { sharing := (h _ _).1, allocation := (h _ _).2 }

theorem holdOffExpiry_plain (s : State) : Plain s (holdOffExpiry s) := by
  unfold holdOffExpiry
  dsimp only
  split
  · exact Plain.trans {} (oweAttempt_plain _)
  · exact {}

theorem listenEnd_plain (s : State) : Plain s (listenEnd s) := by
  have start : Plain s (s.modLink fun l => { l with
      listen := .stopped, warmListen := false, presence := s.timer 1000, override := s.timer 1000, status := s.timer 5000 }) :=
    {}
  unfold listenEnd
  dsimp only
  refine Plain.trans ?_ (queueSingle_plain _ _)
  split
  · exact ((start.trans (queueSingle_plain _ _)).trans (queueSingle_plain _ _)).trans (queueSingle_plain _ _)
  · exact (start.trans (queueSingle_plain _ _)).trans (queueSingle_plain _ _)

theorem attemptStart_plain (n : Nat) (d : Bool) (s : State) : Plain s (attemptStart n d s) := by
  unfold attemptStart
  split
  · exact .refl s
  · split
    · exact .refl s
    · dsimp only
      split <;> exact {}

theorem attemptFailed_plain (s : State) : Plain s (attemptFailed s) := by
  unfold attemptFailed
  split
  · exact .refl s
  · dsimp only
    split
    · exact {}
    · split
      · exact {}
      · split
        · exact Plain.trans {} (startSpacing_plain _ _)
        · exact {}

theorem confirmHead_plain (s : State) : Plain s (confirmHead s) := by
  unfold confirmHead
  split
  · exact .refl s
  · exact Plain.trans {} (startSpacing_plain _ _)

theorem spacingExpiry_plain (s : State) : Plain s (spacingExpiry s) := by
  unfold spacingExpiry
  dsimp only
  split
  · exact Plain.trans {} (queueSingle_plain _ _)
  · exact {}

theorem overrideExpiry_plain (s : State) : Plain s (overrideExpiry s) := by
  unfold overrideExpiry
  dsimp only
  split
  · exact Plain.trans {} (queueSingle_plain _ _)
  · exact {}

theorem selectCursor_plain (i : Station) (c n : Byte) (s : State) : Plain s (selectCursor i c n s) := by
  unfold selectCursor
  split
  · exact {}
  · exact queueSingle_plain _ s

theorem refuse_plain (i : Station) (s : State) : Plain s (refuse i s) := queueSingle_plain _ s

theorem readCursor_plain (advance : Bool) (i : Station) (s : State) : Plain s (readCursor advance i s) := by
  unfold readCursor
  split
  · exact refuse_plain i s
  · dsimp only
    split
    · split
      · exact (queueSingle_plain _ s).trans {}
      · exact queueSingle_plain _ s
    · exact queueSingle_plain _ s

end Sys2Proof.Machine
end

section
/-! The parts of a command that change what claims, conditions or zones rest on, each with what it owes, and the operations that pay for it. -/

namespace Sys2Proof.Machine

/-! ### One record changes -/

/-- A change of records: zones that move, and the claims' inputs and the conditions' causes that are not owed stand. -/
structure Touches (owed : List Debt) (s t : State) : Prop where
  phase : t.phase = s.phase := by rfl
  config : t.config = s.config := by rfl
  straps : t.straps = s.straps := by rfl
  current : t.cond.current = s.cond.current := by rfl
  latched : ∀ c, flagSet s.cond.latched c = true → flagSet t.cond.latched c = true := by exact fun _ h => h
  zones : ZonesMove s.config.zones s.zones t.zones := by exact .refl _ _
  sampled : s.UnsampledClosed → t.UnsampledClosed := by exact fun h => h
  clean : s.QueueClean → t.QueueClean := by exact fun h => h
  claims : Debt.claims ∉ owed → t.ownEntry.claims = s.ownEntry.claims ∧ t.claimsNow = s.claimsNow := by
    exact fun _ => ⟨rfl, rfl⟩
  causes : ∀ c, Debt.cause c ∉ owed → s.UnsampledClosed → s.QueueClean → conditionHolds t c = conditionHolds s c

theorem Touches.keeps {owed : List Debt} {s t : State} (h : Touches owed s t) : Keeps owed s t where
  phase := h.phase
  config := h.config
  straps := h.straps
  zones := h.zones
  latches hl := by
    rw [latchesHold_iff] at hl ⊢
    intro c hc
    exact h.latched c (hl c (h.current ▸ hc))
  sampled := h.sampled
  clean := h.clean
  claims hx hc := by
    obtain ⟨ho, hn⟩ := h.claims hx
    unfold State.Claimed
    rw [ho, hn]
    exact hc
  follows c hx hs hq hc := by
    unfold State.Follows
    rw [h.current, h.causes c hx hs hq]
    exact hc

theorem map_modify_eq {α β : Type} {f : α → β} {g : α → α} : ∀ {l : List α} {i : Nat}, (∀ a, l[i]? = some a → f (g a) = f a) →
    (l.modify i g).map f = l.map f
  | [], i, _ => by rw [List.modify_nil]
  | a :: l, 0, h => by rw [List.modify_zero_cons, List.map_cons, List.map_cons, h a rfl]
  | a :: l, i + 1, h => by
    rw [List.modify_succ_cons, List.map_cons, List.map_cons, map_modify_eq fun b hb => h b (by simpa using hb)]

theorem mem_modify {α : Type} {g : α → α} : ∀ {l : List α} {i : Nat} {a : α}, a ∈ l.modify i g →
    a ∈ l ∨ ∃ b, l[i]? = some b ∧ a = g b
  | [], i, a, h => by rw [List.modify_nil] at h; cases h
  | b :: l, 0, a, h => by
    rw [List.modify_zero_cons] at h
    rcases List.mem_cons.1 h with rfl | h
    · exact .inr ⟨b, rfl, rfl⟩
    · exact .inl (List.mem_cons_of_mem _ h)
  | b :: l, i + 1, a, h => by
    rw [List.modify_succ_cons] at h
    rcases List.mem_cons.1 h with rfl | h
    · exact .inl (List.mem_cons_self ..)
    · exact (mem_modify h).imp (List.mem_cons_of_mem _) fun ⟨c, hc, he⟩ => ⟨c, by simpa using hc, he⟩

/-- What ZONE_SENSOR reads of the zones. -/
theorem anySensor_congr {l l' : List Zone} (h : l'.map (fun r => (r.state, r.badRun)) = l.map (fun r => (r.state, r.badRun))) :
    l'.any (fun z => z.state == .holding || z.state == .fallback || (z.state == .off && z.badRun == 3))
      = l.any (fun z => z.state == .holding || z.state == .fallback || (z.state == .off && z.badRun == 3)) := by
  have key : ∀ u : List Zone, u.any (fun z => z.state == .holding || z.state == .fallback || (z.state == .off && z.badRun == 3))
      = (u.map (fun r => (r.state, r.badRun))).any (fun p => p.1 == .holding || p.1 == .fallback || (p.1 == .off && p.2 == 3)) :=
    fun u => by rw [List.any_map]; rfl
  rw [key, key, h]

/-- The zones move: what is owed where counts, or states and bad-scan runs, change. -/
theorem zones_keeps {owed : List Debt} {s : State} {l : List Zone} (hm : ZonesMove s.config.zones s.zones l)
    (hc : Debt.claims ∈ owed ∨ l.map Zone.counts = s.zones.map Zone.counts)
    (hs : Debt.cause .zoneSensor ∈ owed
      ∨ l.map (fun r => (r.state, r.badRun)) = s.zones.map (fun r => (r.state, r.badRun))) :
    Keeps owed s { s with zones := l } :=
  Touches.keeps {
    zones := hm
    claims := fun hx => ⟨rfl, claimsNow_congr rfl rfl rfl (hc.resolve_left hx) rfl rfl rfl⟩
    causes := fun c hx _ _ => by
      cases c with
      | zoneSensor => exact anySensor_congr (hs.resolve_left hx)
      | _ => rfl }

/-- A zone moves. -/
theorem modZone_keeps {owed : List Debt} {s : State} {z : Fin 4} {g : Zone → Zone}
    (hm : ∀ r, s.zone? z = some r → ZoneMove s.config.zones r (g r))
    (hc : Debt.claims ∈ owed ∨ ∀ r, s.zone? z = some r → (g r).counts = r.counts)
    (hs : Debt.cause .zoneSensor ∈ owed ∨ ∀ r, s.zone? z = some r → (g r).state = r.state ∧ (g r).badRun = r.badRun) :
    Keeps owed s (s.modZone z g) :=
  zones_keeps (ZonesMove.modify hm) (hc.imp_right map_modify_eq)
    (hs.imp_right fun h => map_modify_eq fun r hr => Prod.ext (h r hr).1 (h r hr).2)

/-- Events on the draft lists owe nothing. -/
theorem mapDrafts_keeps {s : State} {g : Nat → List Draft → List Draft}
    (h : ∀ n r, ZoneMove s.config.zones r { r with drafts := g n r.drafts }) : Keeps [] s (s.mapDrafts g) := by
  have same : ∀ {β : Type} (f : Zone → β), (∀ (r : Zone) l, f { r with drafts := l } = f r) →
      ∀ (i : Nat) (l : List Zone), (draftsFrom g i l).map f = l.map f := by
    intro β f hf i l
    induction l generalizing i with
    | nil => rfl
    | cons r l ih => simp only [draftsFrom, List.map_cons, hf, ih]
  exact zones_keeps (ZonesMove.drafts h 0 s.zones) (.inr (same Zone.counts (fun _ _ => rfl) 0 s.zones))
    (.inr (same (fun r => (r.state, r.badRun)) (fun _ _ => rfl) 0 s.zones))

/-- A door's record changes. -/
theorem modDoor_keeps {owed : List Debt} {s : State} {d : Fin 3} {g : Door → Door}
    (hu : ∀ r, s.door? d = some r → (r.filter.level = none → r.state = .closed) →
      (g r).filter.level = none → (g r).state = .closed)
    (hc : Debt.claims ∈ owed ∨ ∀ r, s.door? d = some r → (g r).curtain.isWanted = r.curtain.isWanted)
    (hs : Debt.cause .doorStuck ∈ owed ∨ ∀ r, s.door? d = some r → (r.filter.level = none → r.state = .closed) →
      ((g r).state = .stuck ↔ r.state = .stuck)) :
    Keeps owed s (s.modDoor d g) := by
  have hmem : s.UnsampledClosed → ∀ r, s.door? d = some r → (r.filter.level = none → r.state = .closed) :=
    fun h r hr => h r (List.mem_of_getElem? hr)
  refine Touches.keeps {
    sampled := fun h r hr hl => ?_
    claims := fun hx => ⟨rfl, claimsNow_congr rfl rfl rfl rfl (map_modify_eq (hc.resolve_left hx)) rfl rfl⟩
    causes := fun c hx h _ => ?_ }
  · rcases mem_modify hr with hr | ⟨r', hr', rfl⟩
    · exact h r hr hl
    · exact hu r' hr' (hmem h r' hr') hl
  · cases c with
    | doorStuck =>
      have key : ∀ u : List Door, u.any (fun r => r.state == .stuck) = (u.map (fun r => r.state == .stuck)).any id :=
        fun u => by rw [List.any_map]; rfl
      simp only [conditionHolds, State.modDoor_doors]
      rw [key, key, map_modify_eq (f := fun r : Door => r.state == .stuck) (g := g)
        fun r hr => beq_eq_beq.2 (hs.resolve_left hx r hr (hmem h r hr))]
    | _ => rfl

/-- The defrost record changes. -/
theorem modDefrost_keeps {owed : List Debt} {s : State} {g : Defrost → Defrost}
    (hc : Debt.claims ∈ owed ∨ ∀ d, (g d).state = d.state)
    (hs : Debt.cause .screenSensor ∈ owed ∨ ∀ d, (g d).cabRun = d.cabRun ∧ (g d).screenRun = d.screenRun) :
    Keeps owed s (s.modDefrost g) := by
  refine Touches.keeps {
    claims := fun hx => ⟨rfl, claimsNow_congr rfl rfl rfl rfl rfl ?_ rfl⟩
    causes := fun c hx _ _ => ?_ }
  · rw [State.modDefrost_defrost, Option.map_map]
    exact congrArg (fun k => s.defrost.map k) (funext (hc.resolve_left hx))
  · cases c with
    | screenSensor =>
      have h := hs.resolve_left hx
      simp only [conditionHolds, State.modDefrost_defrost]
      cases s.defrost with
      | none => rfl
      | some d => simp only [Option.map_some, (h d).1, (h d).2]
    | _ => rfl

/-- The fans change, and BLOWER_FAILED is owed. -/
theorem modFan_keeps (f : FanId) (g : Blower → Blower) (s : State) : Keeps [.cause .blowerFailed] s (s.modFan f g) :=
  Touches.keeps { causes := fun c hx _ _ => by cases c <;> first | rfl | exact absurd (List.mem_singleton.2 rfl) hx }

/-- The damper changes, and DAMPER_STALLED is owed. -/
theorem modDamper_keeps (g : Damper → Damper) (s : State) : Keeps [.cause .damperStalled] s (s.modDamper g) :=
  Touches.keeps { causes := fun c hx _ _ => by cases c <;> first | rfl | exact absurd (List.mem_singleton.2 rfl) hx }

/-- The error window changes, and LINK_NOISE is owed. -/
theorem modLink_keeps (g : Link → Link) (s : State) : Keeps [.cause .linkNoise] s (s.modLink g) :=
  Touches.keeps { causes := fun c hx _ _ => by cases c <;> first | rfl | exact absurd (List.mem_singleton.2 rfl) hx }

/-- The own outside sensor's run changes, and OUTSIDE_SENSOR is owed. -/
theorem outsideRun_keeps (n : Nat) (s : State) :
    Keeps [.cause .outsideSensor] s (s.modView (fun v => { v with outsideRun := n })) :=
  Touches.keeps { causes := fun c hx _ _ => by cases c <;> first | rfl | exact absurd (List.mem_singleton.2 rfl) hx }

/-- The accepted cab station changes, and ROLE_CONFLICT is owed. -/
theorem accepted_keeps (new : Option Station) (s : State) :
    Keeps [.cause .roleConflict] s { s with view := { s.view with accepted := new } } :=
  Touches.keeps { causes := fun c hx _ _ => by cases c <;> first | rfl | exact absurd (List.mem_singleton.2 rfl) hx }

/-- The state in use is replaced, and the claims are owed where VENT_ONLY changes. -/
theorem inUse_keeps {owed : List Debt} {new : InUse} {s : State}
    (h : Debt.claims ∈ owed ∨ new.flags.ventOnly = s.inUse.flags.ventOnly) : Keeps owed s { s with inUse := new } :=
  Touches.keeps {
    claims := fun hx => ⟨rfl, claimsNow_congr rfl rfl (h.resolve_left hx) rfl rfl rfl rfl⟩
    causes := fun c _ _ _ => by cases c <;> rfl }

/-- The sharing state changes, and its three conditions are owed; the claims are owed where ISOLATED comes or goes. -/
theorem sharing_keeps {owed : List Debt} {new : Sharing} {s : State}
    (h : Debt.claims ∈ owed ∨ (new = .isolated ↔ s.alloc.sharing = .isolated)) :
    Keeps (.cause .powerSilent :: .cause .txFailed :: .cause .duplicateStation :: owed) s
      (s.modAlloc (fun a => { a with sharing := new })) := by
  refine Touches.keeps {
    claims := fun hx => ⟨rfl, ?_⟩
    causes := fun c hx _ _ => by cases c <;> first | rfl | exact absurd (by simp) hx }
  have hiff := h.resolve_left fun hm => hx (by simp [hm])
  by_cases hi : s.alloc.sharing = .isolated
  · simp only [State.claimsNow, State.modAlloc_alloc, hi, hiff.2 hi, if_true]
  · simp only [State.claimsNow, State.modAlloc_alloc, hi, mt hiff.1 hi, if_false]; rfl

/-- The own allocation changes, and DEFROST_SHORT is owed where its SAFETY share does. -/
theorem allocation_keeps {owed : List Debt} {share : PerClass Nat} {s : State}
    (h : Debt.cause .defrostShort ∈ owed ∨ share.safety = s.alloc.allocation.safety) :
    Keeps owed s { s with alloc := { s.alloc with allocation := share } } :=
  Touches.keeps {
    causes := fun c hx _ _ => by
      cases c with
      | defrostShort =>
        exact congrArg (fun n => s.straps.cab && decide (n < s.ownEntry.claims.safety)) (h.resolve_left hx)
      | _ => rfl }

/-- A hand-off to the stages: the claims are owed where it could end a fault, which it does not on a clean queue. -/
theorem handOff_keeps {s t : State} (h : StageOnly s t) (hf : s.QueueClean → FaultsKept s t) : Keeps [.claims] s t := by
  obtain ⟨st, q, a, rfl⟩ := h
  exact Touches.keeps {
    clean := fun hc => (hf hc).clean hc
    claims := fun hx => absurd (List.mem_singleton.2 rfl) hx
    causes := fun c _ _ hc => by
      cases c with
      | stageFaulty => exact anyFaulty_of_faults (hf hc).faults
      | _ => rfl }

/-! ### The allocation and the claims -/

theorem recompute_keeps (s : State) : Keeps [] s (recompute s) := by
  unfold recompute
  dsimp only
  refine Keeps.andThen (Keeps.andThen ?_ (lowerIntents_plain _).keeps) (raiseIntents_plain _).keeps
  split
  · next h => exact allocation_keeps (.inr h)
  · exact (allocation_keeps (.inl (List.mem_singleton.2 rfl))).recheck

/-- The own entry's claims are written: they are then those of the inputs, and DEFROST_SHORT is owed where the SAFETY claim changes. -/
theorem writeClaims_keeps {owed : List Debt} {s : State}
    (h : Debt.cause .defrostShort ∈ owed ∨ s.claimsNow.safety = s.ownEntry.claims.safety) :
    Keeps owed s (modOwn (fun e => { e with claims := s.claimsNow }) s) ∧
      (modOwn (fun e => { e with claims := s.claimsNow }) s).Claimed := by
  have hown : (modOwn (fun e => { e with claims := s.claimsNow }) s).ownEntry = { s.ownEntry with claims := s.claimsNow } :=
    ownEntry_modEntry_own s (fun e => { e with claims := s.claimsNow })
  have hclaims : (modOwn (fun e => { e with claims := s.claimsNow }) s).Claimed := congrArg Entry.claims hown
  have htouch : Touches (.claims :: owed) s (modOwn (fun e => { e with claims := s.claimsNow }) s) := {
    claims := fun hx => absurd (List.mem_cons_self ..) hx
    causes := fun c hx _ _ => by
      cases c with
      | defrostShort =>
        have hs : s.claimsNow.safety = s.ownEntry.claims.safety := h.resolve_left fun hm => hx (List.mem_cons_of_mem _ hm)
        simp only [conditionHolds, hown, hs]; rfl
      | _ => rfl }
  exact ⟨{ htouch.keeps with
    claims := fun _ _ => hclaims
    follows := fun c hx => htouch.keeps.follows c (by simpa using hx) }, hclaims⟩

/-- The re-forming of the claims keeps everything, and the claims then are those of their inputs (R24). -/
theorem reformClaims_keeps (s : State) : Keeps [] s (reformClaims s) ∧ (reformClaims s).Claimed := by
  have announce : ∀ {owed : List Debt}, (Debt.cause .defrostShort ∈ owed ∨ s.claimsNow.safety = s.ownEntry.claims.safety) →
      Keeps owed s (recompute (demandDue (modOwn (fun e => { e with claims := s.claimsNow }) s))) ∧
        (recompute (demandDue (modOwn (fun e => { e with claims := s.claimsNow }) s))).Claimed := fun h => by
    obtain ⟨hk, hc⟩ := writeClaims_keeps h
    have hd := (demandDue_plain (modOwn (fun e => { e with claims := s.claimsNow }) s)).keeps
    have hr := recompute_keeps (demandDue (modOwn (fun e => { e with claims := s.claimsNow }) s))
    exact ⟨(hk.andThen hd).andThen hr, hr.claims List.not_mem_nil (hd.claims List.not_mem_nil hc)⟩
  unfold reformClaims
  dsimp only
  split
  · next h => exact ⟨.refl _ s, h.symm⟩
  · split
    · next h => exact announce (.inr h)
    · obtain ⟨hk, hc⟩ := announce (owed := [.cause .defrostShort]) (.inl (List.mem_singleton.2 rfl))
      exact ⟨hk.recheck, (recheck_keeps _ _).claims List.not_mem_nil hc⟩

/-- The re-forming pays for the claims. -/
theorem Keeps.reform {owed : List Debt} {s t : State} (h : Keeps (.claims :: owed) s t) : Keeps owed s (reformClaims t) := by
  obtain ⟨hk, hc⟩ := reformClaims_keeps t
  have h' := h.andThen hk
  exact { h' with claims := fun _ _ => hc, follows := fun c hx => h'.follows c (by simpa using hx) }

/-! ### The fans -/

theorem commandFan_keeps (f : FanId) (level : Nat) (s : State) : Keeps [] s (commandFan f level s) := by
  have setLevel := (modFan_plain f (g := fun b => { b with level := level }) (fun _ => rfl) s).keeps
  unfold commandFan
  split
  · exact .refl _ s
  · dsimp only
    split
    · exact .refl _ s
    · split
      · split
        · exact setLevel.andThen (modFan_plain f (g := Blower.starting s.clock) (fun _ => rfl) _).keeps
        · exact setLevel
        · exact setLevel
        · exact setLevel
      · split
        · have stopped := (setLevel.before (modFan_keeps f Blower.stop _)).recheck
          split
          · exact stopped.andThen (blowerLoss_plain f _).keeps
          · exact stopped
        · exact setLevel

theorem rechooseZoneFan_keeps (z : Fin 4) (s : State) : Keeps [] s (rechooseZoneFan z s) := by
  unfold rechooseZoneFan
  split
  · exact commandFan_keeps _ _ s
  · exact .refl _ s

theorem rechooseZoneFans_keeps (s : State) : Keeps [] s (rechooseZoneFans s) :=
  (((rechooseZoneFan_keeps 0 s).andThen (rechooseZoneFan_keeps 1 _)).andThen (rechooseZoneFan_keeps 2 _)).andThen
    (rechooseZoneFan_keeps 3 _)

theorem handDemand_keeps (z : Fin 4) (u : Nat) (s : State) : Keeps [] s (handDemand z u s) :=
  (modFan_plain (.zone z) (g := fun b => { b with demandLevel := demandLevelAfter b.demandLevel u }) (fun _ => rfl) s).keeps.andThen
    (rechooseZoneFan_keeps z _)

theorem failFan_keeps (f : FanId) (s : State) : Keeps [] s (failFan f s) := by
  have h := (modFan_keeps f (Blower.fail s.clock) s).recheck
  unfold failFan
  dsimp only
  split
  · exact h.andThen (blowerLoss_plain f _).keeps
  · exact h

theorem proveFan_keeps (f : FanId) (s : State) : Keeps [] s (proveFan f s) :=
  (modFan_keeps f _ s).recheck.andThen (oweAttempt_plain _).keeps

theorem examineFan_keeps (f : FanId) (s : State) : Keeps [] s (examineFan f s) := by
  unfold examineFan
  dsimp only
  refine Keeps.andThen ?_ (modFan_plain f (fun _ => by rfl) _).keeps
  split
  · split
    · split
      · exact proveFan_keeps f s
      · exact .refl _ s
    · split
      · exact .refl _ s
      · exact failFan_keeps f s
    · exact .refl _ s
    · exact .refl _ s
  · exact .refl _ s

theorem Keeps.foldl {α : Type} {g : State → α → State} (h : ∀ s a, Keeps [] s (g s a)) :
    ∀ (l : List α) (s : State), Keeps [] s (l.foldl g s)
  | [], s => .refl _ s
  | a :: l, s => (h s a).trans (Keeps.foldl h l (g s a))

theorem windowExpiry_keeps (s : State) : Keeps [] s (windowExpiry s) :=
  Keeps.andThen (t := { s with windowTimer := s.windowTimer.next 500 }) (Plain.keeps {})
    (Keeps.foldl (fun s b => examineFan_keeps b.fan s) s.fans _)

theorem startExpiry_keeps (f : FanId) (s : State) : Keeps [] s (startExpiry f s) := by
  have h := (modFan_plain f (g := fun b => { b with start := .stopped }) (fun _ => rfl) s).keeps
  unfold startExpiry
  dsimp only
  split
  · split
    · exact h.andThen (failFan_keeps f _)
    · exact h
  · exact h

/-! ### Curtains and doors -/

theorem handOffSingle_keeps (o : Owner) (c : Cls) (n : Nat) (s : State) : Keeps [.claims] s (handOffSingle o c n s) :=
  handOff_keeps (handOffSingle_only o c n s) fun h => handOffSingle_faults h o c n

/-- The hand-off of a curtain pays for the claims. -/
theorem Keeps.handCurtain {s t : State} {d : Fin 3} (h : Keeps [.claims] s t) : Keeps [] s (handCurtain d t) :=
  ((h.trans (handOffSingle_keeps _ _ _ t)).andThen (commandFan_keeps _ _ _)).reform

theorem setCurtain_keeps (d : Fin 3) (c : Curtain) (timer : Timer) (s : State) : Keeps [] s (setCurtain d c timer s) := by
  unfold setCurtain
  split
  · next r g hr hg =>
    split
    · exact .refl _ s
    · have move : ∀ owed, (Debt.claims ∈ owed ∨ r.curtain.isWanted = c.isWanted) →
          Keeps owed s (s.modDoor d (fun r => { r with curtain := c, runOn := timer })) := fun owed h =>
        modDoor_keeps (fun _ _ hu => hu) (h.imp_right fun h r' hr' => by rw [hr] at hr'; cases hr'; exact h.symm)
          (.inr fun _ _ _ => Iff.rfl)
      dsimp only
      split
      · next h => exact move [] (.inr h)
      · exact (move [.claims] (.inl (List.mem_singleton.2 rfl))).handCurtain
  · exact .refl _ s

theorem barCurtain_keeps (d : Fin 3) (s : State) : Keeps [] s (barCurtain d s) := by
  unfold barCurtain
  split
  · split
    · exact setCurtain_keeps _ _ _ s
    · exact .refl _ s
  · exact .refl _ s

theorem ventCurtain_keeps (d : Fin 3) (s : State) : Keeps [] s (ventCurtain d s) := by
  unfold ventCurtain
  split
  · split
    · exact setCurtain_keeps _ _ _ s
    · exact setCurtain_keeps _ _ _ s
    · exact .refl _ s
    · exact .refl _ s
  · exact .refl _ s

theorem ventCurtains_keeps (s : State) : Keeps [] s (ventCurtains s) :=
  ((ventCurtain_keeps 0 s).andThen (ventCurtain_keeps 1 _)).andThen (ventCurtain_keeps 2 _)

theorem layoverCurtain_keeps (d : Fin 3) (s : State) : Keeps [] s (layoverCurtain d s) := by
  unfold layoverCurtain
  split
  · split
    · exact barCurtain_keeps _ s
    · exact .refl _ s
  · exact .refl _ s

theorem layoverCurtains_keeps (s : State) : Keeps [] s (layoverCurtains s) :=
  ((layoverCurtain_keeps 0 s).andThen (layoverCurtain_keeps 1 _)).andThen (layoverCurtain_keeps 2 _)

theorem curtainOpened_keeps (d : Fin 3) (c : Curtain) (s : State) : Keeps [] s (curtainOpened d c s) := by
  unfold curtainOpened
  split
  · exact setCurtain_keeps _ _ _ s
  · split
    · exact setCurtain_keeps _ _ _ s
    · exact setCurtain_keeps _ _ _ s
    · exact .refl _ s
    · exact .refl _ s

theorem curtainClosed_keeps (d : Fin 3) (c : Curtain) (n : Nat) (s : State) : Keeps [] s (curtainClosed d c n s) := by
  unfold curtainClosed
  split
  · split
    · exact setCurtain_keeps _ _ _ s
    · exact setCurtain_keeps _ _ _ s
  · exact setCurtain_keeps _ _ _ s
  · exact .refl _ s
  · exact .refl _ s

theorem announceDoor_plain (d : Fin 3) (g : DoorCfg) (o : Bool) (w : Nat) (s : State) : Plain s (announceDoor d g o w s) :=
  queueDoor_plain _ s

theorem localOpened_keeps (d : Fin 3) (g : DoorCfg) (s : State) : Keeps [] s (localOpened d g s) :=
  mapDrafts_keeps fun n r => by
    dsimp only
    split
    · exact .stay r
    · exact .opened _ _ r

theorem localClosed_keeps (d : Fin 3) (g : DoorCfg) (s : State) : Keeps [] s (localClosed d g s) :=
  mapDrafts_keeps fun _ r => .closed _ _ _ _ r

/-- An accepted open of a door that a sample has set. -/
theorem acceptedOpen_keeps {d : Fin 3} {s : State} (h : ∀ r, s.door? d = some r → r.filter.level ≠ none) :
    Keeps [] s (acceptedOpen d s) := by
  unfold acceptedOpen
  split
  · next r g hr hg =>
    split
    · next hst =>
      have opens : Keeps [] s (s.modDoor d (fun r => { r.opening s.clock with openCount := countUp r.openCount })) := by
        refine modDoor_keeps (fun r' hr' _ hl => absurd hl (h r' hr')) (.inr fun _ _ => rfl) (.inr fun r' hr' _ => ?_)
        rw [hr] at hr'
        cases hr'
        rw [hst]
        exact ⟨fun h => (by cases h), fun h => (by cases h)⟩
      exact (((opens.andThen (localOpened_keeps d g _)).andThen (curtainOpened_keeps d _ _)).andThen
        (announceDoor_plain d g _ _ _).keeps).andThen (noticeDamper_plain _).keeps
    · exact .refl _ s
  · exact .refl _ s

theorem acceptedClose_keeps (d : Fin 3) (s : State) : Keeps [] s (acceptedClose d s) := by
  unfold acceptedClose
  split
  · next r g hr hg =>
    have closes : ∀ owed, (Debt.cause .doorStuck ∈ owed ∨ r.state = .opened) →
        Keeps owed s (localClosed d g (s.modDoor d Door.closing)) := fun owed h => by
      refine (modDoor_keeps (g := Door.closing) (fun _ _ _ _ => rfl) (.inr fun _ _ => rfl) ?_).andThen (localClosed_keeps d g _)
      refine h.imp_right fun hst r' hr' _ => ?_
      rw [hr] at hr'
      cases hr'
      rw [hst]
      exact ⟨fun h => (by cases h), fun h => (by cases h)⟩
    dsimp only
    split
    · next hst =>
      exact (((closes [] (.inr hst)).andThen (curtainClosed_keeps d _ _ _)).andThen
        (announceDoor_plain d g _ _ _).keeps).andThen (noticeDamper_plain _).keeps
    · exact (((closes [.cause .doorStuck] (.inl (List.mem_singleton.2 rfl))).andThen
        (announceDoor_plain d g _ _ _).keeps).andThen (setCurtain_keeps d _ _ _)).recheck
    · exact .refl _ s
  · exact .refl _ s

theorem modDoor_modDoor (s : State) (d : Fin 3) (f g : Door → Door) :
    (s.modDoor d f).modDoor d g = s.modDoor d (fun r => g (f r)) := by
  simp only [State.modDoor, List.modify_modify_eq, Function.comp_def]

theorem door?_modDoor_same (s : State) (d : Fin 3) (g : Door → Door) : (s.modDoor d g).door? d = (s.door? d).map g := by
  simp [State.door?, State.modDoor]

theorem sample_level (f : Filter) (n : Nat) (level : Bool) : (f.sample n level).1.level ≠ none := by
  unfold Filter.sample
  split
  · exact fun h => (by cases h)
  · split
    · exact fun h => (by cases h)
    · split <;> exact fun h => (by cases h)

theorem sampleDoor_keeps (d : Fin 3) (level : Bool) (s : State) : Keeps [] s (sampleDoor d level s) := by
  unfold sampleDoor
  split
  · next r g hr hg =>
    have hlevel := sample_level r.filter g.filter level
    dsimp only
    split
    · next hnone =>
      refine Keeps.andThen ?_ (noticeDamper_plain _).keeps
      rw [modDoor_modDoor]
      refine modDoor_keeps (fun _ _ _ hl => absurd hl ?_) (.inr fun _ _ => ?_) (.inr fun r' hr' hu => ?_)
      · cases level <;> exact hlevel
      · cases level <;> rfl
      · rw [hr] at hr'
        cases hr'
        rw [hu hnone]
        cases level <;> exact ⟨fun h => (by cases h), fun h => (by cases h)⟩
    · have sampled : Keeps [] s (s.modDoor d (fun r' => { r' with filter := (r.filter.sample g.filter level).1 })) :=
        modDoor_keeps (fun _ _ _ hl => absurd hl hlevel) (.inr fun _ _ => rfl) (.inr fun _ _ _ => Iff.rfl)
      split
      · refine sampled.andThen (acceptedOpen_keeps fun r' hr' => ?_)
        rw [door?_modDoor_same, hr] at hr'
        cases hr'
        exact hlevel
      · exact sampled.andThen (acceptedClose_keeps d _)
      · exact sampled
  · exact .refl _ s

theorem stuckExpiry_keeps (d : Fin 3) (s : State) : Keeps [] s (stuckExpiry d s) := by
  have stop : Keeps [] s (s.modDoor d (fun r => { r with stuck := .stopped })) :=
    modDoor_keeps (fun _ _ hu => hu) (.inr fun _ _ => rfl) (.inr fun _ _ _ => Iff.rfl)
  unfold stuckExpiry
  split
  · next r g hr hg =>
    dsimp only
    split
    · next hst =>
      have sticks : Keeps [.cause .doorStuck] s ((s.modDoor d (fun r => { r with stuck := .stopped })).modDoor d
          (fun r => { r with state := .stuck, layoverMark := .stopped })) := by
        rw [modDoor_modDoor]
        refine modDoor_keeps (fun r' hr' hu hl => ?_) (.inr fun _ _ => rfl) (.inl (List.mem_singleton.2 rfl))
        rw [hr] at hr'
        cases hr'
        rw [hst] at hu
        cases hu hl
      exact (((sticks.andThen (setCurtain_keeps d _ _ _)).andThen (announceDoor_plain d g _ _ _).keeps).andThen
        (noticeDamper_plain _).keeps).recheck
    · exact stop
  · exact .refl _ s

theorem layoverMarkExpiry_keeps (d : Fin 3) (s : State) : Keeps [] s (layoverMarkExpiry d s) := by
  have stop : Keeps [] s (s.modDoor d (fun r => { r with layoverMark := .stopped })) :=
    modDoor_keeps (fun _ _ hu => hu) (.inr fun _ _ => rfl) (.inr fun _ _ _ => Iff.rfl)
  unfold layoverMarkExpiry
  dsimp only
  split
  · exact stop.andThen (barCurtain_keeps d _)
  · exact stop

theorem runOnExpiry_keeps (d : Fin 3) (s : State) : Keeps [] s (runOnExpiry d s) := by
  unfold runOnExpiry
  split
  · split
    · exact setCurtain_keeps d _ _ s
    · exact modDoor_keeps (fun _ _ hu => hu) (.inr fun _ _ => rfl) (.inr fun _ _ _ => Iff.rfl)
  · exact .refl _ s

end Sys2Proof.Machine
end

section
/-! Each command keeps its zones moving and its claims and conditions following: the zone regulator, the sharing states, the defrost
controller, the overrides, the view, the inputs and the service responder. -/

namespace Sys2Proof.Machine

/-! ### Zones -/

theorem zone?_modZone_same (s : State) (z : Fin 4) (g : Zone → Zone) : (s.modZone z g).zone? z = (s.zone? z).map g := by
  simp [State.zone?, State.modZone]

theorem handOffZone_keeps (z : Fin 4) (n m : Nat) (s : State) : Keeps [.claims] s (handOffZone z n m s) :=
  handOff_keeps (handOffZone_only z n m s) fun h => handOffZone_faults h z n m

theorem holdExpiry_keeps (z : Fin 4) (s : State) : Keeps [] s (holdExpiry z s) :=
  Keeps.recheck (modZone_keeps (fun r _ => .held r) (.inr fun _ _ => rfl) (.inl (List.mem_singleton.2 rfl)))

theorem scan_counts (now : Time) (reply : Reply) (r : Zone) : (r.scan now reply).counts = r.counts := by
  unfold Zone.scan Zone.validScan Zone.badScan
  split
  · rfl
  · split
    · rfl
    · split <;> rfl

theorem scanZone_keeps (q : ScanReplies) (z : Fin 4) (s : State) : Keeps [] s (scanZone q z s) := by
  unfold scanZone
  split
  · exact Keeps.recheck (modZone_keeps (fun r _ => .scan _ _ r) (.inr fun r _ => scan_counts _ _ r)
      (.inl (List.mem_singleton.2 rfl)))
  · exact .refl _ s

theorem controlExpiry_keeps (z : Fin 4) (s : State) : Keeps [] s (controlExpiry z s) := by
  unfold controlExpiry
  split
  · next r g hr hg =>
    have moves : ∀ owed, (Debt.claims ∈ owed ∨ (s.controlled z g r).counts = r.counts) →
        Keeps owed s (recheck .zoneSensor (s.modZone z (fun _ => s.controlled z g r))) := fun owed h =>
      Keeps.recheck (modZone_keeps
        (fun r' hr' => by rw [hr] at hr'; cases hr'; exact .control s z (List.mem_of_getElem? hg) r)
        (h.imp (List.mem_cons_of_mem _) fun h r' hr' => by rw [hr] at hr'; cases hr'; exact h)
        (.inl (List.mem_cons_self ..)))
    have handed : Keeps [] s (handOff z r (s.controlled z g r)
        (recheck .zoneSensor (s.modZone z (fun _ => s.controlled z g r)))) := by
      unfold handOff
      split
      · next h => exact moves [] (.inr (Prod.ext h.1.symm h.2.symm))
      · exact ((moves [.claims] (.inl (List.mem_singleton.2 rfl))).trans (handOffZone_keeps _ _ _ _)).reform
    unfold afterControl
    dsimp only
    split
    · exact handed
    · exact handed.andThen (handDemand_keeps z _ _)
  · exact .refl _ s

theorem enterOff_keeps (z : Fin 4) (s : State) : Keeps [.claims, .cause .zoneSensor] s (enterOff z s) := by
  unfold enterOff
  split
  · split
    · exact .refl _ s
    · exact ((modZone_keeps (fun r _ => .off r) (.inl (by simp)) (.inl (by simp))).andThen
        (modFan_plain (.zone z) (g := fun b => { b with demandLevel := 1 }) (fun _ => rfl) _).keeps).trans
        ((handOffZone_keeps z 0 0 _).mono (by simp))
  · exact .refl _ s

/-- The zones' entry into OFF owes the claims. -/
theorem enterOffAll_keeps (s : State) : Keeps [.claims] s (enterOffAll s) := by
  have h := (((enterOff_keeps 0 s).trans (enterOff_keeps 1 _)).trans (enterOff_keeps 2 _)).trans (enterOff_keeps 3 _)
  exact (h.mono (by simp)).recheck

theorem capZone_keeps (z : Fin 4) (s : State) : Keeps [] s (capZone z s) := by
  unfold capZone
  split
  · next r hr =>
    have caps : Keeps [.claims] s (s.modZone z (fun r' => { r' with wanted := ecoCap true r.avail r.wanted })) :=
      modZone_keeps (fun r' hr' => by rw [hr] at hr'; cases hr'; exact .cap r) (.inl (List.mem_singleton.2 rfl))
        (.inr fun _ _ => ⟨rfl, rfl⟩)
    dsimp only
    split
    · exact .refl _ s
    · exact Keeps.reform (caps.trans (handOffZone_keeps _ _ _ _))
  · exact .refl _ s

theorem capZones_keeps (s : State) : Keeps [] s (capZones s) :=
  (((capZone_keeps 0 s).andThen (capZone_keeps 1 _)).andThen (capZone_keeps 2 _)).andThen (capZone_keeps 3 _)

theorem availFall_keeps (z : Fin 4) (s : State) : Keeps [] s (availFall z s) := by
  unfold availFall
  split
  · next r hr =>
    have falls : ∀ owed, (Debt.claims ∈ owed ∨ (r.availFalls s.inUse.flags.eco).counts = r.counts) →
        Keeps owed s (s.modZone z (fun _ => r.availFalls s.inUse.flags.eco)) := fun owed h =>
      modZone_keeps (fun r' hr' => by rw [hr] at hr'; cases hr'; exact .fall _ r)
        (h.imp_right fun h r' hr' => by rw [hr] at hr'; cases hr'; exact h)
        (.inr fun r' hr' => by rw [hr] at hr'; cases hr'; exact ⟨rfl, rfl⟩)
    dsimp only
    split
    · next h => exact falls [] (.inr (Prod.ext h.1 h.2))
    · exact Keeps.reform ((falls [.claims] (.inl (List.mem_singleton.2 rfl))).trans
        (handOff_keeps (zoneFalls_only z _ _ _) fun h => zoneFalls_faults h z _ _))
  · exact .refl _ s

theorem writeOffsets_keeps (x : Int) (s : State) : Keeps [] s (writeOffsets x s) :=
  zones_keeps (ZonesMove.map (fun r => .offset x r) s.zones)
    (.inr (by rw [List.map_map]; rfl)) (.inr (by rw [List.map_map]; rfl))

/-! ### Sharing states -/

/-- A sharing state is entered; the claims are owed where ISOLATED comes or goes. -/
theorem enterSharing_keeps {owed : List Debt} {new : Sharing} {s : State}
    (h : Debt.claims ∈ owed ∨ (new = .isolated ↔ s.alloc.sharing = .isolated)) : Keeps owed s (enterSharing new s) := by
  have rechecked := ((sharing_keeps h).recheck.recheck).recheck
  have owes : Keeps owed s (if new = .active then oweAttempt (recheck .duplicateStation (recheck .txFailed (recheck .powerSilent
      (s.modAlloc (fun a => { a with sharing := new }))))) else recheck .duplicateStation (recheck .txFailed
      (recheck .powerSilent (s.modAlloc (fun a => { a with sharing := new }))))) := by
    split
    · exact rechecked.andThen (oweAttempt_plain _).keeps
    · exact rechecked
  unfold enterSharing
  dsimp only
  split
  · exact owes.andThen (rechooseZoneFans_keeps _)
  · exact owes

theorem stopGap_plain (s : State) : Plain s (stopGap s) := {}

theorem enterSilent_keeps {s : State} (h : s.alloc.sharing ≠ .isolated) : Keeps [] s (enterSilent s) :=
  ((stopGap_plain s).keeps.andThen (enterSharing_keeps (.inr ⟨fun h => (by cases h), fun hi => absurd hi h⟩))).andThen
    (shed_plain _).keeps

theorem enterMuted_keeps {s : State} (h : s.alloc.sharing ≠ .isolated) : Keeps [] s (enterMuted s) :=
  ((stopGap_plain s).keeps.andThen (enterSharing_keeps (.inr ⟨fun h => (by cases h), fun hi => absurd hi h⟩))).andThen
    (shed_plain _).keeps

theorem enterActive_keeps {s : State} (h : s.alloc.sharing ≠ .isolated) : Keeps [] s (enterSharing .active s) :=
  enterSharing_keeps (.inr ⟨fun h => (by cases h), fun hi => absurd hi h⟩)

theorem enterIsolated_keeps (s : State) : Keeps [] s (enterIsolated s) :=
  (Keeps.reform ((stopGap_plain s).keeps.before (enterSharing_keeps (.inl (List.mem_singleton.2 rfl))))).andThen
    (shed_plain _).keeps

theorem enterGapHold_keeps {s : State} (h : s.alloc.sharing ≠ .isolated) : Keeps [] s (enterGapHold s) := by
  have hold : ∀ u : State, Plain u (u.modAlloc (fun a => { a with gap := s.timer 3000 })) := fun _ => {}
  exact ((enterSharing_keeps (.inr ⟨fun h => (by cases h), fun hi => absurd hi h⟩)).andThen (hold _).keeps).andThen
    (suspendAll_plain _).keeps

theorem joinExit_keeps (s : State) : Keeps [] s (joinExit s) := by
  unfold joinExit
  split
  · next h =>
    have hj : s.alloc.sharing ≠ .isolated := by rw [h.1]; exact fun h => (by cases h)
    split
    · exact enterSilent_keeps hj
    · exact enterActive_keeps hj
  · exact .refl _ s

theorem powerOnSharing_keeps (a b : Line) (s : State) : Keeps [] s (powerOnSharing a b s) := by
  have sheds : ∀ (p : Prop) [Decidable p], Plain s (if p then shed s else s) := fun p _ => by
    split
    · exact shed_plain s
    · exact .refl s
  unfold powerOnSharing
  dsimp only
  split
  · exact .refl _ s
  · exact (sheds _).keeps
  · exact (sheds _).keeps.andThen (joinExit_keeps _)
  · next h =>
    refine (sheds _).keeps.andThen (enterActive_keeps ?_)
    rw [(sheds _).sharing, h]
    exact fun h => (by cases h)
  · next h =>
    split
    · exact enterGapHold_keeps (by rw [h]; exact fun h => (by cases h))
    · exact (sheds _).keeps
  · next h =>
    have hg : (stopGap s).alloc.sharing ≠ .isolated := by rw [(stopGap_plain s).sharing, h]; exact fun h => (by cases h)
    split
    · exact (stopGap_plain s).keeps.andThen (enterActive_keeps hg)
    · refine ((stopGap_plain s).trans (shed_plain _)).keeps.andThen (enterActive_keeps ?_)
      rw [(shed_plain _).sharing]
      exact hg
    · exact .refl _ s
    · exact .refl _ s

theorem takePower_keeps (b : PowerBody) (s : State) : Keeps [] s (takePower b s) := by
  have heard : Plain s (s.modAlloc (fun a => { a with silence := s.timer 500, powerHeard := true })) := {}
  have figures : ∀ (n m : Nat) (l : Line) (u : State),
      Plain u (u.modAlloc (fun a => { a with budget := n, surplus := m, line := l })) := fun _ _ _ _ => {}
  unfold takePower
  split
  · exact .refl _ s
  · next line _ =>
    have taken := heard.keeps.andThen (powerOnSharing_keeps s.alloc.line line _)
    dsimp only
    split
    · exact taken.andThen (figures _ _ _ _).keeps
    · exact (taken.andThen (figures _ _ _ _).keeps).andThen (recompute_keeps _)

theorem silenceExpiry_keeps (s : State) : Keeps [] s (silenceExpiry s) := by
  have silent : Plain s (s.modAlloc (fun a => { a with silence := .expired, budget := 0, surplus := 0, line := .none })) := {}
  have h := silent.keeps.andThen (recompute_keeps _)
  unfold silenceExpiry
  dsimp only
  split
  · next hs => exact h.andThen (enterSilent_keeps (by rw [hs]; exact fun h => (by cases h)))
  · next hs => exact h.andThen (enterSilent_keeps (by rw [hs]; exact fun h => (by cases h)))
  all_goals exact h

theorem gapExpiry_keeps (s : State) : Keeps [] s (gapExpiry s) := by
  unfold gapExpiry
  split
  · next hs =>
    refine ((stopGap_plain s).trans (shed_plain _)).keeps.andThen (enterActive_keeps ?_)
    rw [(shed_plain _).sharing, (stopGap_plain s).sharing, hs]
    exact fun h => (by cases h)
  · exact (stopGap_plain s).keeps

theorem mutedExit_keeps (s : State) : Keeps [] s (mutedExit s) := by
  unfold mutedExit
  split
  · next h =>
    have hm : s.alloc.sharing ≠ .isolated := by rw [h]; exact fun h => (by cases h)
    split
    · split
      · exact enterSilent_keeps hm
      · exact enterActive_keeps hm
    · exact enterSharing_keeps (.inr ⟨fun h => (by cases h), fun hi => absurd hi hm⟩)
  · exact .refl _ s

theorem confirmation_keeps (f : Frame) (s : State) : Keeps [] s (confirmation f s) := by
  unfold confirmation
  dsimp only
  refine Keeps.andThen (Keeps.andThen ?_ (mutedExit_keeps _)) (joinExit_keeps _)
  split
  · exact (demandConfirmation_plain _ s).keeps
  · exact .refl _ s

theorem failureExpiry_keeps (s : State) : Keeps [] s (failureExpiry s) := by
  have h : Plain s (s.modLink (fun l => { l with failure := .expired })) := {}
  unfold failureExpiry transmitFailure
  split
  case _ hs => exact h.keeps.andThen (enterMuted_keeps (by rw [hs]; exact fun h => (by cases h)))
  case _ hs => exact h.keeps.andThen (enterMuted_keeps (by rw [hs]; exact fun h => (by cases h)))
  case _ hs => exact h.keeps.andThen (enterMuted_keeps (by rw [hs]; exact fun h => (by cases h)))
  case _ hs => exact h.keeps.andThen (enterMuted_keeps (by rw [hs]; exact fun h => (by cases h)))
  all_goals exact h.keeps

/-! ### Defrost -/

theorem defrostEnter_keeps (new : DefrostState) (s : State) : Keeps [] s (defrostEnter new s) := by
  unfold defrostEnter
  split
  · exact .refl _ s
  · next d _ =>
    dsimp only
    split
    · exact .refl _ s
    · have moves : Keeps [.claims] s (s.modDefrost (fun d => { d with state := new })) :=
        modDefrost_keeps (.inl (List.mem_singleton.2 rfl)) (.inr fun _ => ⟨rfl, rfl⟩)
      exact (Keeps.reform ((moves.trans (handOffSingle_keeps _ _ _ _)).andThen (commandFan_keeps _ _ _))).andThen
        (modDefrost_plain (fun d' => sweep_facts s.clock d.state d') _).keeps

theorem defrostCheck_keeps (s : State) : Keeps [] s (defrostCheck s) := by
  have tested : Plain s (fogTest (s.modDefrost (fun d => { d with check := d.check.next 5000 }))) :=
    (modDefrost_plain (g := fun d => { d with check := d.check.next 5000 }) (fun _ => rfl) s).trans (fogTest_plain _)
  have counted : ∀ (n : Nat) (u : State), Plain u (u.modDefrost (fun d => { d with clearCount := n })) := fun n u =>
    modDefrost_plain (g := fun d => { d with clearCount := n }) (fun _ => rfl) u
  unfold defrostCheck
  split
  · exact .refl _ s
  · dsimp only
    split
    · split
      · exact tested.keeps.andThen (defrostEnter_keeps _ _)
      · exact tested.keeps
    · split
      · split
        · exact (tested.keeps.andThen (defrostEnter_keeps _ _)).andThen (counted 0 _).keeps
        · exact (tested.trans (modDefrost_plain (fun _ => by rfl) _)).keeps
      · exact (tested.trans (counted 0 _)).keeps
    · exact tested.keeps

theorem boostEnter_keeps (s : State) : Keeps [] s (boostEnter s) :=
  (modDefrost_plain (fun _ => by rfl) s).keeps.andThen (defrostEnter_keeps _ _)

theorem boostExit_keeps (s : State) : Keeps [] s (boostExit s) := by
  unfold boostExit
  split
  · exact .refl _ s
  · dsimp only
    split
    · exact ((modDefrost_plain (fun _ => by rfl) s).trans (fogTest_plain _)).keeps.andThen (defrostEnter_keeps _ _)
    · exact .refl _ s

/-! ### Overrides -/

/-- The adoption pays for the claims that a change of VENT_ONLY owes. -/
theorem adopt_keeps {old : InUse} {s₀ s : State} (h : Keeps [.claims] s₀ s)
    (hsame : old.flags.ventOnly = s.inUse.flags.ventOnly → Keeps [] s₀ s) : Keeps [] s₀ (adopt old s) := by
  unfold adopt
  dsimp only
  have h1 : Keeps [] s (if old.offsets.ofCar s.straps.car = s.inUse.offsets.ofCar s.straps.car then s
      else writeOffsets (s.inUse.offsets.ofCar s.straps.car) s) := by
    split
    · exact .refl _ s
    · exact writeOffsets_keeps _ s
  generalize (if old.offsets.ofCar s.straps.car = s.inUse.offsets.ofCar s.straps.car then s
      else writeOffsets (s.inUse.offsets.ofCar s.straps.car) s) = s1 at h1 ⊢
  have h2 : Keeps [] s₀ (if (s.inUse.flags.ventOnly && !old.flags.ventOnly) = true then ventGained s1
      else if (old.flags.ventOnly && !s.inUse.flags.ventOnly) = true then ventLost s1 else s1) := by
    split
    · exact ((Keeps.reform (((h.andThen h1).trans (enterOffAll_keeps s1)).andThen (ventCurtains_keeps _))).andThen
        (rechooseZoneFans_keeps _)).andThen (retarget_plain _).keeps
    · next hg =>
      split
      · exact ((Keeps.reform (h.andThen h1)).andThen (rechooseZoneFans_keeps _)).andThen (retarget_plain _).keeps
      · next hl =>
        refine (hsame ?_).andThen h1
        cases ho : old.flags.ventOnly <;> cases hn : s.inUse.flags.ventOnly <;> simp_all
  generalize (if (s.inUse.flags.ventOnly && !old.flags.ventOnly) = true then ventGained s1
      else if (old.flags.ventOnly && !s.inUse.flags.ventOnly) = true then ventLost s1 else s1) = s2 at h2 ⊢
  have h3 : Keeps [] s2 (if (s.inUse.flags.eco && !old.flags.eco) = true then capZones s2 else s2) := by
    split
    · exact capZones_keeps s2
    · exact .refl _ s2
  generalize (if (s.inUse.flags.eco && !old.flags.eco) = true then capZones s2 else s2) = s3 at h3 ⊢
  have h4 : Keeps [] s3 (if (s.inUse.flags.layover && !old.flags.layover) = true then layoverCurtains s3 else s3) := by
    split
    · exact layoverCurtains_keeps s3
    · exact .refl _ s3
  split
  · exact (h2.andThen h3).andThen h4
  · exact ((h2.andThen h3).andThen h4).andThen (retarget_plain _).keeps

theorem setInUse_keeps (new : InUse) (s : State) : Keeps [] s (setInUse new s) :=
  adopt_keeps (inUse_keeps (.inl (List.mem_singleton.2 rfl))) fun h => inUse_keeps (.inr h.symm)

theorem takeWord_keeps (s : State) : Keeps [] s (takeWord s) := by
  unfold takeWord
  split
  · exact setInUse_keeps _ s
  · exact .refl _ s

theorem handWord_keeps (f : Frame) (s : State) : Keeps [] s (handWord f s) := by
  unfold handWord
  split
  · dsimp only
    split
    · exact takeWord_keeps s
    · exact (takeWord_keeps s).andThen (queueSingle_plain _ _).keeps
  · exact .refl _ s

theorem changeWord_keeps (g : OvrWord → OvrWord) (s : State) : Keeps [] s (changeWord g s) := by
  unfold changeWord
  split
  · exact .refl _ s
  · next w _ =>
    have written : ∀ w', Plain s { s with word := some w' } := fun _ => {}
    dsimp only
    refine Keeps.andThen ?_ (handWord_keeps _ _)
    split
    · exact (written _).keeps
    · split
      · exact (written _).keeps.andThen (boostEnter_keeps _)
      · exact (written _).keeps.andThen (boostExit_keeps _)

theorem layoverExpiry_keeps (s : State) : Keeps [] s (layoverExpiry s) :=
  Keeps.andThen (t := s.modWord (fun w => { w with layover := .stopped })) (Plain.keeps {}) (changeWord_keeps _ _)

theorem boostExpiry_keeps (s : State) : Keeps [] s (boostExpiry s) :=
  (modDefrost_plain (fun _ => by rfl) s).keeps.andThen (changeWord_keeps _ _)

theorem boostFall_keeps (s : State) : Keeps [] s (boostFall s) :=
  (boostFalls_plain s).keeps.andThen (handWord_keeps _ _)

theorem acceptedChanged_keeps (new : Option Station) (s : State) : Keeps [] s (acceptedChanged new s) := by
  have h := accepted_keeps new s
  unfold acceptedChanged
  dsimp only
  split
  · exact Keeps.recheck ((h.andThen (takeWord_keeps _)).andThen (queueSingle_plain _ _).keeps)
  · refine Keeps.recheck ?_
    have held := h.andThen (holdInUse_plain { s with view := { s.view with accepted := new } }).keeps
    split
    · exact held.andThen (withdrawOverride_plain _).keeps
    · exact held

theorem takeOverride_keeps (i : Station) (b : OverrideBody) (s : State) : Keeps [] s (takeOverride i b s) := by
  unfold takeOverride
  split
  · exact setInUse_keeps _ s
  · exact .refl _ s

/-! ### The view -/

theorem reevaluate_keeps (s : State) : Keeps [] s (reevaluate s) := by
  unfold reevaluate
  split
  · exact .refl _ s
  · exact acceptedChanged_keeps _ s

theorem entryChanged_keeps (a b : Entry) (s : State) : Keeps [] s (entryChanged a b s) := by
  unfold entryChanged
  dsimp only
  have h : Keeps [] s (if a.state = b.state ∧ a.claims = b.claims ∧ a.intents = b.intents then s else recompute s) := by
    split
    · exact .refl _ s
    · exact recompute_keeps s
  split
  · exact h
  · exact h.andThen (reevaluate_keeps _)

theorem hear_keeps {i : Station} (f : Frame) {s : State} (h : i ≠ s.straps.station) : Keeps [] s (hear i f s) :=
  (modEntry_peer_plain _ h).keeps.andThen (entryChanged_keeps _ _ _)

theorem duplicate_keeps (s : State) : Keeps [] s (duplicate s) := by
  unfold duplicate
  split
  · exact .refl _ s
  · exact enterIsolated_keeps s

theorem receive_keeps {further : State → State} (h : ∀ s, Keeps [] s (further s)) (i : Station) (f : Frame) (s : State) :
    Keeps [] s (receive i f further s) := by
  unfold receive
  split
  · exact duplicate_keeps s
  · next hi =>
    split
    · exact .refl _ s
    · exact (hear_keeps f hi).andThen (h _)

theorem receivePower_keeps (i : Station) (b : PowerBody) (s : State) : Keeps [] s (receivePower i b s) := by
  unfold receivePower
  split
  · exact duplicate_keeps s
  · next hi =>
    split
    · exact takePower_keeps b s
    · exact (hear_keeps _ hi).andThen (latch_plain _ _).keeps

theorem peerDoor_keeps (i : Station) (b : DoorBody) (s : State) : Keeps [] s (peerDoor i b s) := by
  unfold peerDoor
  split
  · exact .refl _ s
  · split
    · exact mapDrafts_keeps fun _ r => .opened _ _ r
    · split
      · exact mapDrafts_keeps fun _ r => .closed _ _ _ _ r
      · exact .refl _ s

theorem ageStation_keeps (i : Station) (s : State) : Keeps [] s (ageStation i s) := by
  unfold ageStation
  split
  · exact .refl _ s
  · next hi =>
    dsimp only
    split
    · exact .refl _ s
    · have aged : Keeps [] s (entryChanged (s.entry i) ((s.entry i).aged s.clock)
          (s.modEntry i (fun _ => (s.entry i).aged s.clock))) :=
        (modEntry_peer_plain _ hi).keeps.andThen (entryChanged_keeps _ _ _)
      have decayed := aged.andThen (mapDrafts_keeps (g := fun _ l => draftLost
        (entryChanged (s.entry i) ((s.entry i).aged s.clock) (s.modEntry i (fun _ => (s.entry i).aged s.clock))).clock i l)
        fun _ r => .lost _ _ r)
      split
      · split
        · exact decayed.andThen (sourceLost_plain i _).keeps
        · exact decayed
      · exact aged

theorem ageingExpiry_keeps (s : State) : Keeps [] s (ageingExpiry s) := by
  have start : Plain s (s.modView (fun v => { v with ageing := v.ageing.next 200 })) := {}
  exact ((start.keeps.andThen (Keeps.foldl (fun s i => ageStation_keeps i s) _ _)).andThen (formAgreement_plain _).keeps).andThen
    (demandDue_plain _).keeps

/-! ### The link and the inputs -/

theorem attemptConfirmed_keeps (s : State) : Keeps [] s (attemptConfirmed s) := by
  have ended : Plain s (s.modLink (fun l => { l with attempt := none })) := {}
  have restarted : ∀ u : State, Plain u (restartFailure u) := fun _ => {}
  unfold attemptConfirmed
  split
  · exact .refl _ s
  · dsimp only
    split
    · exact (ended.trans (restarted _)).keeps.andThen (confirmation_keeps _ _)
    · exact ((ended.trans (confirmHead_plain _)).trans (restarted _)).keeps.andThen (confirmation_keeps _ _)

theorem scanOutside_keeps (r : Reply) (s : State) : Keeps [] s (scanOutside r s) := by
  unfold scanOutside
  split
  · refine Keeps.recheck ?_
    split
    · exact (modOwn_plain (fun _ => by rfl) s).keeps.before (outsideRun_keeps 0 _)
    · dsimp only
      split
      · exact (outsideRun_keeps _ s).andThen (modOwn_plain (fun _ => by rfl) _).keeps
      · exact outsideRun_keeps _ s
  · exact .refl _ s

theorem cabScan_state (r : CabReply) (d : Defrost) : (d.cabScan r).state = d.state := by
  unfold Defrost.cabScan
  split <;> rfl

theorem screenScan_state (r : Reply) (d : Defrost) : (d.screenScan r).state = d.state := by
  unfold Defrost.screenScan
  split <;> rfl

theorem scanWindscreen_keeps (cab : CabReply) (screen : Reply) (s : State) : Keeps [] s (scanWindscreen cab screen s) := by
  unfold scanWindscreen
  split
  · exact Keeps.recheck (modDefrost_keeps (.inr fun d => by rw [screenScan_state, cabScan_state])
      (.inl (List.mem_singleton.2 rfl)))
  · exact .refl _ s

theorem scanExpiry_keeps (q : ScanReplies) (s : State) : Keeps [] s (scanExpiry q s) := by
  have start : Plain s { s with scanTimer := s.scanTimer.next 500 } := {}
  exact (((((start.keeps.andThen (scanZone_keeps q 0 _)).andThen (scanZone_keeps q 1 _)).andThen (scanZone_keeps q 2 _)).andThen
    (scanZone_keeps q 3 _)).andThen (scanOutside_keeps _ _)).andThen (scanWindscreen_keeps _ _ _)

theorem sampleKey_keeps (keys : BitVec 8) (s : State) (k : Nat) : Keeps [] s (sampleKey keys s k) := by
  have sampled : ∀ l, Plain s { s with keys := l } := fun _ => {}
  unfold sampleKey
  split
  · dsimp only
    split
    · exact (sampled _).keeps.andThen (changeWord_keeps _ _)
    · exact (sampled _).keeps
  · exact .refl _ s

theorem sampleExpiry_keeps (p : Pins) (s : State) : Keeps [] s (sampleExpiry p s) := by
  have start : Plain s { s with sampleTimer := s.sampleTimer.next 10 } := {}
  have feedback : ∀ u : State, Plain u { u with stages := sampleStages s.sampleSet u.clock p.feedback 0 u.stages } := fun u => by
    have hf := sampleStages_faults s.sampleSet u.clock p.feedback 0 u.stages
    exact { stages := ⟨hf, fun hc => hc.of_faults hf fun _ _ hi => .inl hi⟩ }
  exact (((((start.keeps.andThen (sampleDoor_keeps 0 _ _)).andThen (sampleDoor_keeps 1 _ _)).andThen
    (sampleDoor_keeps 2 _ _)).andThen (Keeps.foldl (sampleKey_keeps p.keys) _ _)).andThen
    (Plain.foldl (sampleTach_plain p.tachs) _ _).keeps).andThen (feedback _).keeps

theorem stallExpiry_keeps (s : State) : Keeps [] s (stallExpiry s) := by
  unfold stallExpiry
  split
  · exact (modDamper_keeps _ s).recheck
  · exact ((modDamper_keeps _ s).andThen (trackMotor_plain _).keeps).recheck
  · exact Plain.keeps {}

/-! ### The contactor fault -/

/-- A stage that becomes FAULTY leaves the queue; the claims are owed where it serves a curtain or the defrost controller. -/
theorem fault_keeps {owed : List Debt} {i : Nat} {st : Stage} {s : State} (hs : s.stage? i = some st)
    (h : Debt.claims ∈ owed ∨ (∃ z, st.owner = .zone z) ∨ st.owner = .defrost ∧ s.defrost = none) :
    Keeps (.cause .stageFaulty :: owed) s (unqueue i { s with stages := s.stages.set i st.toFaulty }) := by
  have good : ∀ o, st.owner ≠ o → (unqueue i { s with stages := s.stages.set i st.toFaulty }).goodCount o = s.goodCount o := by
    intro o ho
    have hset : ∀ l : List Stage, ∀ j, l[j]? = some st →
        ((l.set j st.toFaulty).filter (fun st => st.owner == o && !(st.state == .faulty))).length
          = (l.filter (fun st => st.owner == o && !(st.state == .faulty))).length := by
      intro l
      induction l with
      | nil => intro j hj; cases hj
      | cons a l ih =>
        intro j hj
        cases j with
        | zero =>
          simp only [List.getElem?_cons_zero, Option.some.injEq] at hj
          have hf : (st.toFaulty.owner == o) = false := beq_false_of_ne ho
          have ha : (a.owner == o) = false := beq_false_of_ne (by rw [hj]; exact ho)
          simp only [List.set_cons_zero, List.filter_cons, hf, ha, Bool.false_and, if_false, Bool.false_eq_true]
        | succ j =>
          simp only [List.getElem?_cons_succ] at hj
          simp only [List.set_cons_succ, List.filter_cons]
          split
          · simp only [List.length_cons, ih j hj]
          · exact ih j hj
    exact hset s.stages i hs
  refine Touches.keeps {
    clean := fun hc c j hj st' hs' => ?_
    claims := fun hx => ⟨rfl, ?_⟩
    causes := fun c hx _ _ => by cases c <;> first | rfl | exact absurd (List.mem_cons_self ..) hx }
  · obtain ⟨hj, hne⟩ := mem_unqueue.1 hj
    refine hc c j hj st' ?_
    simpa [State.stage?, unqueue, Ne.symm hne] using hs'
  · refine claimsNow_congr_good rfl rfl rfl rfl rfl rfl (fun d => good _ fun ho => ?_) fun hd => good _ fun ho => ?_
    · rcases h with h | ⟨z, hz⟩ | ⟨hd, -⟩
      · exact hx (List.mem_cons_of_mem _ h)
      · rw [hz] at ho; cases ho
      · rw [hd] at ho; cases ho
    · rcases h with h | ⟨z, hz⟩ | ⟨-, hn⟩
      · exact hx (List.mem_cons_of_mem _ h)
      · rw [hz] at ho; cases ho
      · exact hd hn

theorem feedbackFault_keeps (i : Nat) (s : State) : Keeps [] s (feedbackFault i s) := by
  unfold feedbackFault
  split
  · exact .refl _ s
  · next st hs =>
    split
    · exact (Plain.ofStages (modStage_only i (fun st => { st with feedback := .disagree .expired }) s)
        (modStage_faultsKept fun _ _ => ⟨rfl, Iff.rfl⟩)).keeps
    · dsimp only
      have owes : ∀ (p : Prop) [Decidable p] (u : State), Plain u (if p then oweAttempt u else u) := fun p _ u => by
        split
        · exact oweAttempt_plain u
        · exact .refl u
      refine Keeps.andThen ?_ (owes _ _).keeps
      have faulty : ∀ owed, _ → Keeps owed s (recheck .stageFaulty (unqueue i { s with stages := s.stages.set i st.toFaulty })) :=
        fun owed h => (fault_keeps (owed := owed) hs h).recheck
      cases ho : st.owner with
      | zone z =>
        have told := (faulty [] (.inr (.inl ⟨z, ho⟩))).andThen (availFall_keeps z _)
        unfold refillOwner tellOwner
        dsimp only
        split
        · exact (told.andThen (refill_plain _ _ _ _ _).keeps).andThen (refill_plain _ _ _ _ _).keeps
        · exact told
      | curtain d =>
        exact Keeps.reform ((faulty [.claims] (.inl (List.mem_singleton.2 rfl))).andThen (refill_plain _ _ _ _ _).keeps)
      | defrost =>
        unfold refillOwner tellOwner
        dsimp only
        have hdef : (recheck .stageFaulty (unqueue i { s with stages := s.stages.set i st.toFaulty })).defrost = s.defrost :=
          (recheck_only _ _).defrost_eq
        split
        · exact Keeps.reform ((faulty [.claims] (.inl (List.mem_singleton.2 rfl))).andThen (refill_plain _ _ _ _ _).keeps)
        · next hn => exact faulty [] (.inr (.inr ⟨ho, hdef.symm.trans hn⟩))

/-! ### The service responder -/

theorem forMe_keeps {effect : State → State} (h : ∀ s, Keeps [] s (effect s)) (m : Byte) (s : State) :
    Keeps [] s (forMe m effect s) := by
  unfold forMe
  split
  · exact h s
  · exact .refl _ s

/-- A CLEAR keeps the latch of every condition that is current. -/
theorem clearLatches_keeps (i : Station) (s : State) : Keeps [] s (clearLatches i s) := by
  have cleared : Keeps [] s { s with cond := { s.cond with latched := s.cond.latched &&& s.cond.current } } :=
    { phase := rfl, config := rfl, straps := rfl, zones := .refl _ _, sampled := id, clean := fun h => h,
      claims := fun _ h => h
      follows := fun c _ _ _ h => by unfold State.Follows at h ⊢; rw [h]; cases c <;> rfl
      latches := fun h => by
        rw [latchesHold_iff] at h ⊢
        intro c hc
        have hl := h c hc
        simp only [flagSet, BitVec.getLsbD_and, Bool.and_eq_true] at hc hl ⊢
        exact ⟨hl, hc⟩ }
  exact cleared.andThen (queueSingle_plain _ _).keeps

theorem applyMasks_keeps (i : Station) (a b : Byte) (s : State) : Keeps [] s (applyMasks i a b s) := by
  unfold applyMasks
  split
  · exact changeWord_keeps _ s
  · exact (refuse_plain i s).keeps

/-! ### Every command -/

/-- Every command but a restart keeps what `Keeps` says, and owes nothing at its end. -/
theorem effectOf_keeps {c : Instr} (h : ∀ i m a b, c ≠ .controlRestart i m a b) (s : State) : Keeps [] s (effectOf c s) := by
  cases c with
  | controlRestart i m a b => exact absurd rfl (h i m a b)
  | powerOnReset => exact .refl _ s
  | imageReadDone _ => exact .refl _ s
  | imageReadTimeout => exact .refl _ s
  | resetPinRelease _ => exact .refl _ s
  | joinListenEnd => exact (listenEnd_plain s).keeps
  | controlPeriodExpiry z => exact controlExpiry_keeps z s
  | sensorScan q => exact scanExpiry_keeps q s
  | holdTimerExpiry z => exact holdExpiry_keeps z s
  | inputSample p => exact sampleExpiry_keeps p s
  | stuckTimerExpiry d => exact stuckExpiry_keeps d s
  | layoverMarkExpiry d => exact layoverMarkExpiry_keeps d s
  | runOnExpiry d => exact runOnExpiry_keeps d s
  | feedbackFault i => exact feedbackFault_keeps i.val s
  | pacingExpiry => exact Plain.keeps {}
  | sliceExpiry i => exact (sliceExpiry_plain i.val s).keeps
  | tachWindowExpiry => exact windowExpiry_keeps s
  | startTimerExpiry f => exact startExpiry_keeps f s
  | retryTimerExpiry f => exact (retryExpiry_plain f s).keeps
  | encoderStep m => exact (encoderStep_plain m s).keeps
  | stallTimerExpiry => exact stallExpiry_keeps s
  | restTimerExpiry => exact (restExpiry_plain s).keeps
  | defrostCheck => exact defrostCheck_keeps s
  | boostTimerExpiry => exact boostExpiry_keeps s
  | boostRemainingFall => exact boostFall_keeps s
  | louvreStep => exact (louvreStep_plain s).keeps
  | layoverTimerExpiry => exact layoverExpiry_keeps s
  | layoverMinutesFall => exact changeWord_keeps _ s
  | overrideSilenceExpiry => exact (overrideSilence_plain s).keeps
  | overrideHoldExpiry => exact setInUse_keeps _ s
  | ageingExpiry => exact ageingExpiry_keeps s
  | agreementHoldExpiry => exact Plain.keeps {}
  | silenceExpiry => exact silenceExpiry_keeps s
  | gapTimerExpiry => exact gapExpiry_keeps s
  | holdOffExpiry => exact (holdOffExpiry_plain s).keeps
  | txFailureExpiry => exact failureExpiry_keeps s
  | spacingExpiry => exact (spacingExpiry_plain s).keeps
  | presenceTimerExpiry =>
    exact Keeps.andThen (t := s.modLink (fun l => { l with presence := l.presence.next 1000 })) (Plain.keeps {})
      (queueSingle_plain _ _).keeps
  | overrideTimerExpiry => exact (overrideExpiry_plain s).keeps
  | statusTimerExpiry =>
    exact Keeps.andThen (t := s.modLink (fun l => { l with status := l.status.next 5000 })) (Plain.keeps {})
      (queueSingle_plain _ _).keeps
  | txAttemptStart n d => exact (attemptStart_plain n d s).keeps
  | collision => exact (attemptFailed_plain s).keeps
  | frameConfirmed => exact attemptConfirmed_keeps s
  | frameDiscard r =>
    change Keeps [] s ((if r.isDiscard then discard else id) s)
    split
    · exact (modLink_keeps _ s).recheck
    · exact .refl _ s
  | errorWindowDeparture => exact (modLink_keeps _ s).recheck
  | powerFrame i b => exact receivePower_keeps i b s
  | demandFrame i b => exact receive_keeps (fun s => .refl _ s) i _ s
  | presenceFrame i b => exact receive_keeps (fun s => .refl _ s) i _ s
  | doorFrame i b => exact receive_keeps (peerDoor_keeps i b) i _ s
  | overrideFrame i b => exact receive_keeps (takeOverride_keeps i b) i _ s
  | statusFrame i b => exact receive_keeps (fun s => .refl _ s) i _ s
  | answerFrame i b => exact receive_keeps (fun s => .refl _ s) i _ s
  | probeSelect i m c n => exact receive_keeps (forMe_keeps (fun s => (selectCursor_plain i c n s).keeps) m) i _ s
  | probeNext i m c n => exact receive_keeps (forMe_keeps (fun s => (readCursor_plain true i s).keeps) m) i _ s
  | probePeek i m c n => exact receive_keeps (forMe_keeps (fun s => (readCursor_plain false i s).keeps) m) i _ s
  | probeClear i m c n => exact receive_keeps (forMe_keeps (clearLatches_keeps i) m) i _ s
  | probeBadOperation i m o c n => exact receive_keeps (forMe_keeps (fun s => (refuse_plain i s).keeps) m) i _ s
  | controlOvrMasks i m a b => exact receive_keeps (forMe_keeps (applyMasks_keeps i a b) m) i _ s
  | controlBadOperation i m o a b => exact receive_keeps (forMe_keeps (fun s => (refuse_plain i s).keeps) m) i _ s

end Sys2Proof.Machine
end

section
/-! The reset of the blocks and the step: what a reset leaves, and the three ways a step can go. With them the invariants of claims,
conditions and zones. -/

namespace Sys2Proof.Machine

/-! ### A draft list stays as R33 bounds it -/

/-- Two records stand for one door. -/
def Draft.sameDoor (a b : Draft) : Prop := a.station = b.station ∧ a.door = b.door

theorem Draft.isFor_iff {d : Draft} {station : Station} {door : Fin 3} :
    d.isFor station door = true ↔ d.station = station ∧ d.door = door := by simp [Draft.isFor]

/-- Records changed without their doors stay bounded. -/
theorem draftsBounded.map {l : List Draft} {g : Draft → Draft} (h : draftsBounded l)
    (hg : ∀ d, (g d).station = d.station ∧ (g d).door = d.door) : draftsBounded (l.map g) := by
  refine ⟨by rw [List.length_map]; exact h.1, List.pairwise_map.2 (h.2.imp fun {a b} hab => ?_)⟩
  rw [(hg a).1, (hg a).2, (hg b).1, (hg b).2]
  exact hab

theorem draftsBounded.filter {l : List Draft} (h : draftsBounded l) (p : Draft → Bool) : draftsBounded (l.filter p) :=
  ⟨Nat.le_trans (List.length_filter_le _ _) h.1, h.2.filter _⟩

theorem pairwise_set {l : List Draft} {i : Nat} {x : Draft} (h : l.Pairwise (fun a b => ¬ a.sameDoor b))
    (hx : ∀ d ∈ l, ¬ d.sameDoor x) : (l.set i x).Pairwise (fun a b => ¬ a.sameDoor b) := by
  induction h generalizing i with
  | nil => exact .nil
  | cons hd tl ih =>
    cases i with
    | zero => exact .cons (fun b hb hs => hx b (List.mem_cons_of_mem _ hb) ⟨hs.1.symm, hs.2.symm⟩) tl
    | succ i =>
      refine .cons (fun b hb => ?_) (ih fun d hd => hx d (List.mem_cons_of_mem _ hd))
      rcases List.mem_or_eq_of_mem_set hb with hb | rfl
      · exact hd b hb
      · exact hx _ (List.mem_cons_self ..)

theorem draftOpened_bounded {contribution : Draft → Nat} {x : Draft} {l : List Draft} (h : draftsBounded l) :
    draftsBounded (draftOpened contribution x l) := by
  unfold draftOpened
  split
  · split
    · exact h.filter _
    · exact h.map fun d => by
        split
        · next hf => obtain ⟨hs, hd⟩ := Draft.isFor_iff.1 hf; exact ⟨hs.symm, hd.symm⟩
        · exact ⟨rfl, rfl⟩
  · next hnone =>
    have hx : ∀ d ∈ l, ¬ d.sameDoor x := fun d hd hs => hnone (List.any_eq_true.2 ⟨d, hd, Draft.isFor_iff.2 hs⟩)
    split
    · exact h
    · split
      · next hlen =>
        refine ⟨by simpa using hlen, List.pairwise_append.2 ⟨h.2, List.pairwise_singleton _ _, fun a ha b hb => ?_⟩⟩
        rw [List.mem_singleton.1 hb]
        exact hx a ha
      · unfold replaceSmallest
        split
        · split
          · exact ⟨by rw [List.length_set]; exact h.1, pairwise_set h.2 hx⟩
          · exact h
        · exact h

/-! ### The figures of a zone stay in the ranges of R1 -/

/-- The figures of a zone lie in the ranges of R1. -/
def Zone.inRange (z : Zone) : Prop :=
  z.badRun ≤ 3 ∧ (150 ≤ z.setpoint ∧ z.setpoint ≤ 290) ∧ z.integral ≤ 16000 ∧ z.demand ≤ 1000 ∧ z.wanted + z.offer ≤ z.avail

theorem effectiveSetpoint_bounds (base offset : Int) :
    150 ≤ effectiveSetpoint base offset ∧ effectiveSetpoint base offset ≤ 290 := by
  unfold effectiveSetpoint clampInt
  split
  · omega
  · split <;> omega

theorem integralStep_le (integral ki : Nat) (e : Int) : integralStep integral ki e ≤ 16000 := by
  unfold integralStep clampInt
  split
  · omega
  · split <;> omega

theorem clampDemand_le (u : Int) : clampDemand u ≤ 1000 := by
  unfold clampDemand clampInt
  split
  · omega
  · split <;> omega

theorem hysteresis_le (avail u c : Nat) : hysteresis avail u c ≤ avail := Nat.min_le_left _ _

theorem ecoCap_le (eco : Bool) (avail c : Nat) : ecoCap eco avail c ≤ c := by
  unfold ecoCap
  split
  · exact Nat.min_le_left _ _
  · exact Nat.le_refl _

theorem regulate_bounds (s : State) (z : Fin 4) (g : ZoneCfg) (r : Zone) (sum : Nat) (m : Int) (h : r.integral ≤ 16000) :
    (s.regulate z g r sum m).1 ≤ 16000 ∧ (s.regulate z g r sum m).2 ≤ 1000 := by
  unfold State.regulate
  dsimp only
  refine ⟨?_, clampDemand_le _⟩
  split
  · exact h
  · exact integralStep_le _ _ _

theorem absorbOffer_le (s : State) (r : Zone) (wanted : Nat) (m : Int) : s.absorbOffer r wanted m ≤ r.avail - wanted := by
  unfold State.absorbOffer
  split
  · exact Nat.le_refl _
  · exact Nat.zero_le _

theorem control_inRange {s : State} {z : Fin 4} {g : ZoneCfg} {r : Zone} {sum : Nat} (h : r.inRange) (hg : g.fallback ≤ 1000) :
    (s.control z g r sum).inRange := by
  obtain ⟨hbad, hset, hint, -, -⟩ := h
  have counts : ∀ u : Nat, ecoCap s.inUse.flags.eco r.avail (hysteresis r.avail u r.wanted) ≤ r.avail := fun u =>
    Nat.le_trans (ecoCap_le _ _ _) (hysteresis_le _ _ _)
  unfold State.control
  dsimp only
  cases hm : Zone.regulated { r with limited := s.powerLimited z r.wanted g.size } with
  | some m =>
    obtain ⟨hi, hu⟩ := regulate_bounds s z g { r with limited := s.powerLimited z r.wanted g.size } sum m hint
    refine ⟨hbad, hset, hi, hu, ?_⟩
    have ho := absorbOffer_le s { r with limited := s.powerLimited z r.wanted g.size }
      (ecoCap s.inUse.flags.eco r.avail (hysteresis r.avail
        (s.regulate z g { r with limited := s.powerLimited z r.wanted g.size } sum m).2 r.wanted)) m
    have hc := counts (s.regulate z g { r with limited := s.powerLimited z r.wanted g.size } sum m).2
    dsimp only at ho ⊢
    omega
  | none =>
    refine ⟨hbad, hset, hint, ?_, by simpa using counts _⟩
    dsimp only
    split
    · exact hg
    · exact Nat.zero_le _

theorem transfer_inRange {r : Zone} (base : Int) (h : r.inRange) : (r.transfer base).inRange :=
  ⟨h.1, effectiveSetpoint_bounds _ _, h.2.2⟩

theorem returnStep_inRange {r : Zone} (h : r.inRange) : r.returnStep.inRange := by
  unfold Zone.returnStep
  split
  · exact ⟨h.1, h.2.1, Nat.zero_le _, h.2.2.2⟩
  · exact h

theorem leaveOff_inRange {r : Zone} (vent : Bool) (h : r.inRange) : (r.leaveOff vent).inRange := by
  unfold Zone.leaveOff
  split
  · exact h
  · exact h

theorem controlled_inRange {s : State} {z : Fin 4} {g : ZoneCfg} {r : Zone} (h : r.inRange) (hg : g.fallback ≤ 1000) :
    (s.controlled z g r).inRange := by
  have h1 := transfer_inRange g.base (leaveOff_inRange s.inUse.flags.ventOnly (returnStep_inRange h))
  unfold State.controlled
  dsimp only
  split
  · exact h1
  · exact control_inRange h1 hg

theorem returnStep_drafts (r : Zone) : r.returnStep.drafts = r.drafts := by
  unfold Zone.returnStep
  split <;> rfl

theorem leaveOff_drafts (vent : Bool) (r : Zone) : (r.leaveOff vent).drafts = r.drafts := by
  unfold Zone.leaveOff
  split <;> rfl

theorem controlled_drafts (s : State) (z : Fin 4) (g : ZoneCfg) (r : Zone) :
    (s.controlled z g r).drafts = r.drafts.filter (fun d => !d.runOut s.clock) := by
  have h1 : ((r.returnStep.leaveOff s.inUse.flags.ventOnly).transfer g.base).drafts = r.drafts :=
    (leaveOff_drafts _ _).trans (returnStep_drafts r)
  unfold State.controlled State.control
  dsimp only
  split <;> exact congrArg (List.filter (fun d => !d.runOut s.clock)) h1

theorem scan_inRange {now : Time} {reply : Reply} {r : Zone} (h : r.inRange) : (r.scan now reply).inRange := by
  unfold Zone.scan Zone.validScan Zone.badScan
  obtain ⟨hbad, hrest⟩ := h
  split
  · exact ⟨Nat.zero_le _, hrest⟩
  · split
    · exact ⟨hbad, hrest⟩
    · split
      · exact ⟨Nat.le_refl _, hrest⟩
      · refine ⟨?_, hrest⟩
        dsimp only
        omega

theorem scan_drafts (now : Time) (reply : Reply) (r : Zone) : (r.scan now reply).drafts = r.drafts := by
  unfold Zone.scan Zone.validScan Zone.badScan
  split
  · rfl
  · split
    · rfl
    · split <;> rfl

/-- Every move of a zone keeps its draft list bounded. -/
theorem ZoneMove.drafts {table : List ZoneCfg} {r r' : Zone} (h : ZoneMove table r r') (hb : draftsBounded r.drafts) :
    draftsBounded r'.drafts := by
  induction h with
  | next _ _ ih₁ ih₂ => exact ih₂ (ih₁ hb)
  | scan now reply r => rw [scan_drafts]; exact hb
  | control s z hg r => rw [controlled_drafts]; exact hb.filter _
  | opened f d r => exact draftOpened_bounded hb
  | closed now station door total r => exact hb.map fun d => by split <;> exact ⟨rfl, rfl⟩
  | lost now station r => exact hb.map fun d => by split <;> exact ⟨rfl, rfl⟩
  | _ => exact hb

/-- Every move of a zone keeps its figures in range. -/
theorem ZoneMove.inRange {table : List ZoneCfg} {r r' : Zone} (h : ZoneMove table r r') (ht : ∀ g ∈ table, g.fallback ≤ 1000)
    (hr : r.inRange) : r'.inRange := by
  induction h with
  | next _ _ ih₁ ih₂ => exact ih₂ (ih₁ hr)
  | scan now reply r => exact scan_inRange hr
  | control s z hg r => exact controlled_inRange hr (ht _ hg)
  | off r => exact ⟨hr.1, hr.2.1, hr.2.2.1, Nat.zero_le _, Nat.zero_le _⟩
  | cap r =>
    have := ecoCap_le true r.avail r.wanted
    refine ⟨hr.1, hr.2.1, hr.2.2.1, hr.2.2.2.1, ?_⟩
    have hcount := hr.2.2.2.2
    dsimp only
    omega
  | fall eco r =>
    have hc := ecoCap_le eco (r.avail - 1) (min r.wanted (r.avail - 1))
    refine ⟨hr.1, hr.2.1, hr.2.2.1, hr.2.2.2.1, ?_⟩
    simp only [Zone.availFalls]
    omega
  | _ => exact hr

theorem ZonesMove.all {table : List ZoneCfg} {l l' : List Zone} {p : Zone → Prop} (h : ZonesMove table l l')
    (hp : ∀ r r', ZoneMove table r r' → p r → p r') (hl : ∀ r ∈ l, p r) : ∀ r ∈ l', p r := by
  induction h with
  | nil => intro r hr; cases hr
  | cons hm _ ih =>
    intro r hr
    rcases List.mem_cons.1 hr with rfl | hr
    · exact hp _ _ hm (hl _ (List.mem_cons_self ..))
    · exact ih (fun r hr => hl r (List.mem_cons_of_mem _ hr)) r hr

/-! ### The reset of the blocks -/

theorem foldl_recheck_only : ∀ (l : List Condition) (s : State), CondOnly s (l.foldl (fun s c => recheck c s) s)
  | [], s => .refl s
  | c :: l, s => (recheck_only c s).trans (foldl_recheck_only l _)

theorem foldl_recheck_keeps : ∀ (l : List Condition) (s : State), Keeps [] s (l.foldl (fun s c => recheck c s) s)
  | [], s => .refl _ s
  | c :: l, s => (recheck_keeps c s).trans (foldl_recheck_keeps l _)

/-- Every condition that is rechecked follows its cause. -/
theorem foldl_recheck_follows {c : Condition} : ∀ {l : List Condition} {s : State}, c ∈ l ∨ s.Follows c → s.UnsampledClosed →
    s.QueueClean → (l.foldl (fun s c => recheck c s) s).Follows c
  | [], _, h, _, _ => h.resolve_left List.not_mem_nil
  | c' :: l, s, h, hu, hq => by
    have hk := recheck_keeps c' s
    refine foldl_recheck_follows (s := recheck c' s) ?_ (hk.sampled hu) (hk.clean hq)
    by_cases hc : c = c'
    · subst hc; exact .inr (recheck_follows c s)
    · exact h.imp (fun hm => (List.mem_cons.1 hm).resolve_left hc) (hk.follows c List.not_mem_nil hu hq)

theorem Condition.mem_all (c : Condition) : c ∈ Condition.all := by cases c <;> decide

theorem freshZones_mem {now : Time} {r : Zone} : ∀ {i : Nat} {l : List ZoneCfg}, r ∈ freshZones now i l →
    ∃ n g, r = freshZone now n g
  | _, [], h => by cases h
  | i, g :: l, h => by
    rcases List.mem_cons.1 h with rfl | h
    · exact ⟨i, g, rfl⟩
    · exact freshZones_mem h

theorem zoneQuanta_fresh {count : Zone → Nat} (h : ∀ now n g, count (freshZone now n g) = 0) (now : Time) :
    ∀ (i : Nat) (l gs : List ZoneCfg), zoneQuanta count (freshZones now i l) gs = 0
  | _, [], _ => rfl
  | _, _ :: _, [] => rfl
  | i, g :: l, g' :: gs => by simp only [freshZones, zoneQuanta, h, zoneQuanta_fresh h now (i + 1) l gs, Nat.zero_mul]

/-- What stands when a reset completes: fresh zones on the configuration that stands, claims of 0, doors CLOSED, latches that hold and
conditions that follow their causes. -/
structure ResetKeeps (s t : State) : Prop where
  config : t.config = s.config
  zones : ∃ now, t.zones = freshZones now 0 s.config.zones
  claims : t.Claimed
  latches : t.LatchesHold
  sampled : t.UnsampledClosed
  follows : ∀ c, t.Follows c

/-- Where no zone, curtain or defrost wants a stage, the claims are 0. -/
theorem claimsNow_of_reset {s : State} {now : Time} (hz : s.zones = freshZones now 0 s.config.zones)
    (hd : ∀ r ∈ s.doors, r.curtain = .off) (hdf : ∀ d, s.defrost = some d → d.state = .off) : s.claimsNow = .const 0 := by
  have hcurtain : ∀ d, s.curtainQuanta d = 0 := fun d => by
    have hcount : s.curtainCount d = 0 := by
      unfold State.curtainCount
      split
      · next r g hr hg => rw [hd r (List.mem_of_getElem? hr)]; rfl
      · rfl
    unfold State.curtainQuanta
    split
    · rw [hcount, Nat.zero_min, Nat.zero_mul]
    · rfl
  have hneed : s.defrostNeed = 0 := by
    unfold State.defrostNeed
    split
    · next d hs => rw [hdf d hs, defrostCount, Nat.zero_min, Nat.zero_mul]
    · rfl
  unfold State.claimsNow
  rw [hneed, hcurtain, hcurtain, hcurtain, hz, zoneQuanta_fresh (fun _ _ _ => rfl), zoneQuanta_fresh (fun _ _ _ => rfl)]
  split
  · rfl
  · cases s.inUse.flags.ventOnly <;> rfl

/-- The blocks at their reset values, before the flags are re-evaluated (R164). -/
def resetBlocks (warm : Bool) (s : State) : State :=
  { s with
    phase := .running, loadLimit := .stopped, seq := seedOf s.straps.station s.checksum, scanTimer := s.timer 500
    sampleTimer := s.timer 10, windowTimer := s.timer 500, zones := freshZones s.clock 0 s.config.zones
    doors := (openCounts s.doors s.config.doors.length).map freshDoor
    keys := if s.straps.cab then List.replicate 8 Filter.fresh else []
    stages := keepWear s.stages (stageTable s.config s.straps.cab), queue := .const [], pacing := .stopped
    attemptDue := false, alloc := Alloc.fresh (s.timer 500), view := View.fresh s.straps s.config.design (s.timer 200)
    link := Link.fresh (s.timer 1000) warm
    defrost := if s.straps.cab then some (Defrost.fresh (s.timer 5000)) else none
    word := if s.straps.cab then some OvrWord.fresh else none
    inUse := InUse.fresh (if s.straps.cab then some s.straps.station else none)
    fans := (fanTable s.config s.straps.cab).map Blower.fresh, damper := freshDamper s.clock s.config
    cond := { s.cond with current := 0 }, cursor := ⟨none, 0⟩ }

theorem completeReset_eq (warm : Bool) (s : State) : completeReset warm s = reevaluateFlags (resetBlocks warm s) := rfl

theorem resetBlocks_doors {warm : Bool} {s : State} {r : Door} (h : r ∈ (resetBlocks warm s).doors) :
    r.curtain = .off ∧ r.state = .closed := by
  obtain ⟨n, -, rfl⟩ := List.mem_map.1 h
  exact ⟨rfl, rfl⟩

theorem resetBlocks_defrost {warm : Bool} {s : State} {d : Defrost} (h : (resetBlocks warm s).defrost = some d) :
    d.state = .off := by
  change (if s.straps.cab then some (Defrost.fresh (s.timer 5000)) else none) = some d at h
  split at h
  · cases h; rfl
  · cases h

theorem resetBlocks_ownClaims (warm : Bool) (s : State) : (resetBlocks warm s).ownEntry.claims = .const 0 := by
  change ((Vector.replicate 16 Entry.absent).set s.straps.station.val (Entry.own s.straps)
    s.straps.station.isLt)[s.straps.station.val].claims = .const 0
  rw [Vector.getElem_set_self]
  rfl

theorem resetBlocks_clean (warm : Bool) (s : State) : (resetBlocks warm s).QueueClean := fun c i hi => by
  cases c <;> cases hi

theorem resetBlocks_latches (warm : Bool) (s : State) : (resetBlocks warm s).LatchesHold := BitVec.zero_and

theorem resetBlocks_claimed (warm : Bool) (s : State) : (resetBlocks warm s).Claimed :=
  (resetBlocks_ownClaims warm s).trans (claimsNow_of_reset (s := resetBlocks warm s) rfl
    (fun _ hr => (resetBlocks_doors hr).1) (fun _ hd => resetBlocks_defrost hd)).symm

theorem completeReset_keeps (warm : Bool) (s : State) : ResetKeeps s (completeReset warm s) := by
  rw [completeReset_eq]
  have hk := foldl_recheck_keeps Condition.all (resetBlocks warm s)
  have hsampled : (resetBlocks warm s).UnsampledClosed := fun r hr _ => (resetBlocks_doors hr).2
  exact ⟨hk.config, ⟨s.clock, (foldl_recheck_only _ (resetBlocks warm s)).zones_eq⟩,
    hk.claims List.not_mem_nil (resetBlocks_claimed warm s), hk.latches (resetBlocks_latches warm s), hk.sampled hsampled,
    fun c => foldl_recheck_follows (.inl (Condition.mem_all c)) hsampled (resetBlocks_clean warm s)⟩

/-! ### The ways a step can go -/

/-- The zone tables whose fallback demands lie in the range of R162. -/
def FallbacksInRange (c : Image) : Prop := ∀ g ∈ c.zones, g.fallback ≤ 1000

/-- What a step can be: it keeps what `Keeps` says; the blocks are rebuilt, from the configuration that stands or one in range; or the node
is left not running, with zones, configuration, doors and current flags as they stand, or all of them empty. -/
inductive StepDoes (s t : State) : Prop
  | keeps (h : Keeps [] s t)
  | rebuilt (u v : State) (hv : v.config = s.config ∨ FallbacksInRange v.config) (hu : ResetKeeps v u) (h : Plain u t)
  | waits (hp : t.phase ≠ .running) (hc : t.config = s.config) (hz : t.zones = s.zones) (hd : t.doors = s.doors)
      (hl : s.LatchesHold → t.LatchesHold)
  | held (h : t = { State.reset with pending := s.pending })

theorem builtIn_inRange (car : Fin 3) : FallbacksInRange (builtInProfile car) := by
  intro g hg
  rw [List.mem_singleton.1 hg]
  decide

theorem loadImage_inRange {bytes : List Byte} {c : Image} {check : BitVec 16} (h : loadImage bytes = some (c, check)) :
    FallbacksInRange c := by
  have hr : imageInRange c = true := by
    unfold loadImage at h
    split at h
    · dsimp only at h
      split at h
      · split at h
        · split at h
          · split at h
            · next hr => cases h; exact hr
            · cases h
          · cases h
        · cases h
      · cases h
    · cases h
  intro g hg
  simp only [imageInRange, Bool.and_eq_true, List.all_eq_true] at hr
  have hzone := hr.1.1.1.1.1.1.1.1.1.1.2 g hg
  simp only [zoneInRange, within, Bool.and_eq_true, decide_eq_true_eq] at hzone
  exact hzone.2.2

/-- An installed configuration in range rebuilds the blocks. -/
theorem install_does {s u : State} {c : Image} {check : BitVec 16} (h : FallbacksInRange c) :
    StepDoes s (finish (install c check u)) :=
  .rebuilt _ _ (.inr h) (completeReset_keeps false _) (finish_plain _)

theorem installBuiltIn_does {s u : State} : StepDoes s (finish (installBuiltIn u)) := install_does (builtIn_inRange _)

theorem latchesHold_of_grow {s t : State} (hc : t.cond.current = s.cond.current)
    (hl : ∀ c, flagSet s.cond.latched c = true → flagSet t.cond.latched c = true) (h : s.LatchesHold) : t.LatchesHold := by
  rw [latchesHold_iff] at h ⊢
  exact fun c hcur => hl c (h c (hc ▸ hcur))

theorem releaseReset_does (p : StrapPins) (s : State) : StepDoes s (finish (releaseReset p s)) := by
  unfold releaseReset
  dsimp only
  split
  · have hp := finish_plain { (if strapsRejected p = true then latchDefaulted { s with straps := strapsTaken p }
        else { s with straps := strapsTaken p }) with
      phase := .loading
      loadLimit := (if strapsRejected p = true then latchDefaulted { s with straps := strapsTaken p }
        else { s with straps := strapsTaken p }).timer 200 }
    refine .waits ?_ ?_ ?_ ?_ fun h => ?_
    · rw [hp.phase]; exact fun h => (by cases h)
    · rw [hp.config]; split <;> rfl
    · rw [hp.zones]; split <;> rfl
    · have hd := fun u : State => (payAttempt_only u).doors_eq
      unfold finish driveOutputs noteDraw
      rw [show ∀ u : State, (refreshList (writeDraw u)).doors = u.doors from fun _ => rfl, hd]
      split <;> rfl
    · refine latchesHold_of_grow (hp.current.trans ?_) (fun c hc => hp.latched c ?_) h
      · split <;> rfl
      · split
        · exact (flagSet_withFlag _ _ _).trans (by rw [hc, Bool.or_true])
        · exact hc
  · exact installBuiltIn_does

theorem imageRead_does (image : Option (List Byte)) (s : State) : StepDoes s (finish (imageRead image s)) := by
  unfold imageRead
  split
  · split
    · next h => exact install_does (loadImage_inRange h)
    · exact installBuiltIn_does
  · exact installBuiltIn_does

theorem restart_does (i : Station) (m a b : Byte) (s : State) : StepDoes s (finish (effectOf (.controlRestart i m a b) s)) := by
  change StepDoes s (finish (receive i (.control ⟨m, 0, a, b⟩) (forMe m warmRestart) s))
  unfold receive
  split
  · exact .keeps ((duplicate_keeps s).andThen (finish_plain _).keeps)
  · next hi =>
    split
    · exact .keeps (finish_plain s).keeps
    · have hear := hear_keeps (.control ⟨m, 0, a, b⟩) hi
      unfold forMe
      split
      · unfold warmRestart
        split
        · exact .keeps (hear.andThen (finish_plain _).keeps)
        · exact .rebuilt _ _ (.inl hear.config) (completeReset_keeps true _) (finish_plain _)
      · exact .keeps (hear.andThen (finish_plain _).keeps)

/-- A state that differs in its clock and its queue of commands only. -/
theorem clock_plain (s : State) (now : Time) (pending : List Instr) : Plain s { s with clock := now, pending := pending } := {}

theorem command_does {c : Instr} {s t : State} (h : exec c s = .next t) : StepDoes s t := by
  rcases exec_does h with h | ⟨-, now, h⟩ | h | ⟨p, h⟩ | ⟨image, h⟩ | ⟨e, h⟩
  · exact h.symm ▸ .keeps (.refl _ s)
  · have hclock := (clock_plain s now s.pending).keeps
    by_cases hc : ∃ i m a b, c = .controlRestart i m a b
    · obtain ⟨i, m, a, b, rfl⟩ := hc
      rcases h ▸ restart_does i m a b { s with clock := now } with hk | ⟨u, v, hv, hu, hp⟩ | ⟨hp, hc, hz, hd, hl⟩ | hheld
      · exact .keeps (hclock.andThen hk)
      · exact .rebuilt u v hv hu hp
      · exact .waits hp hc hz hd hl
      · exact .held hheld
    · refine .keeps (h ▸ (hclock.andThen (effectOf_keeps (fun i m a b he => hc ⟨i, m, a, b, he⟩) _)).andThen
        (finish_plain _).keeps)
  · exact .held h
  · exact h ▸ releaseReset_does p s
  · exact h ▸ imageRead_does image s
  · exact h ▸ installBuiltIn_does

/-- What a step is for an invariant that reads neither the clock nor the queue of commands. -/
theorem step_kept {s t : State} (h : step s = .next t) : ∃ u, Plain s u ∧ u.LatchesHold = s.LatchesHold
    ∧ u.doors = s.doors ∧ u.queue = s.queue ∧ u.stages = s.stages ∧ StepDoes u t := by
  rcases step_does h with h | ⟨c, pending, h⟩
  · exact ⟨s, .refl s, rfl, rfl, rfl, rfl, .keeps (h ▸ (clock_plain s (timeAfter s.clock 1) s.pending).keeps)⟩
  · exact ⟨{ s with pending := pending }, clock_plain s s.clock pending, rfl, rfl, rfl, rfl, command_does h⟩

/-! ### The invariants -/

/-- Settles O55: each part of a command keeps the claims or owes their re-forming, and every command pays. -/
theorem claimsFollowTheirInputs : Obligations.ClaimsFollowTheirInputs := by
  intro s t hs h hrun
  obtain ⟨u, hp, -, -, -, -, hdoes⟩ := step_kept h
  rcases hdoes with hk | ⟨v, w, -, hv, hf⟩ | ⟨hnot, -⟩ | hheld
  · exact hk.claims List.not_mem_nil (hp.keeps.claims List.not_mem_nil (hs (hp.phase ▸ hk.phase ▸ hrun)))
  · exact hf.keeps.claims List.not_mem_nil hv.claims
  · exact absurd hrun hnot
  · rw [hheld] at hrun; cases hrun

/-- Settles O57: each part of a command keeps a condition with its cause or owes its recheck, and every command pays. -/
theorem conditionsFollowTheirCauses : Obligations.ConditionsFollowTheirCauses := by
  intro s t h
  obtain ⟨u, hp, hl, hd, hq, hst, hdoes⟩ := step_kept h
  have hsampled : s.UnsampledClosed → u.UnsampledClosed := hp.unsampled
  rcases hdoes with hk | ⟨v, w, -, hv, hf⟩ | ⟨hnot, -, -, hdoors, hlatch⟩ | hheld
  · refine ⟨fun h => hk.latches (hl ▸ h), fun h => hk.sampled (hsampled h), fun hs hu hsound hrun c => ?_⟩
    refine hk.follows c List.not_mem_nil (hsampled hu) (hp.stages.clean hsound.clean) ?_
    exact hp.keeps.follows c List.not_mem_nil hu hsound.clean (hs (hp.phase ▸ hk.phase ▸ hrun) c)
  · refine ⟨fun _ => hf.keeps.latches hv.latches, fun _ => hf.unsampled hv.sampled, fun _ _ _ _ c => ?_⟩
    have := hv.follows c
    unfold State.Follows at this
    rw [hf.current, hf.conditionHolds_eq]
    exact this
  · refine ⟨fun h => hlatch (hl ▸ h), fun h => ?_, fun _ _ _ hrun => absurd hrun hnot⟩
    unfold State.UnsampledClosed
    rw [hdoors]
    exact hsampled h
  · subst hheld
    exact ⟨fun _ => BitVec.zero_and, fun _ r hr => (by cases hr), fun _ _ _ hrun => (by cases hrun)⟩

/-- Settles O58: every zone of the next state comes by moves that keep the bounds, or from a reset. -/
theorem zonesStayWithinTheirBounds : Obligations.ZonesStayWithinTheirBounds := by
  intro s t h
  obtain ⟨u, hp, -, -, -, -, hdoes⟩ := step_kept h
  have hzones := hp.zones
  have hconfig := hp.config
  unfold State.DraftsBounded State.ZonesInRange
  rw [← hzones, ← hconfig]
  rcases hdoes with hk | ⟨v, w, hw, hv, hf⟩ | ⟨-, hc, hz, -⟩ | hheld
  · refine ⟨hk.zones.all fun _ _ => ZoneMove.drafts, fun ⟨ht, hr⟩ => ⟨hk.config ▸ ht, ?_⟩⟩
    exact hk.zones.all (fun _ _ hm => hm.inRange ht) hr
  · obtain ⟨now, hfresh⟩ := hv.zones
    rw [hf.zones, hf.config, hfresh, hv.config]
    refine ⟨fun _ r hr => ?_, fun ⟨ht, _⟩ => ⟨hw.elim (fun hw => hw ▸ ht) id, fun r hr => ?_⟩⟩
    · obtain ⟨n, g, rfl⟩ := freshZones_mem hr
      exact ⟨Nat.zero_le _, .nil⟩
    · obtain ⟨n, g, rfl⟩ := freshZones_mem hr
      exact ⟨Nat.zero_le _, effectiveSetpoint_bounds _ _, Nat.zero_le _, Nat.zero_le _, Nat.zero_le _⟩
  · rw [hz, hc]
    exact ⟨id, id⟩
  · subst hheld
    exact ⟨fun _ r hr => (by cases hr), fun _ => ⟨fun g hg => (by cases hg), fun r hr => (by cases hr)⟩⟩

end Sys2Proof.Machine
end

section
/-! The control computation field by field: the hysteresis, what it keeps of a zone, and the count it sets. -/

namespace Sys2Proof.Machine

/-! ### Hysteresis (R19) -/

theorem ceilDiv_thousand (n : Nat) : ceilDiv n 1000 = (n + 999) / 1000 := rfl

/-- A rise. -/
theorem hysteresis_of_rise {avail u c : Nat} (h : 1000 * c + 600 ≤ u * avail) :
    hysteresis avail u c = min avail ((u * avail + 400) / 1000) := by
  simp only [hysteresis, if_pos h]
  omega

/-- A fall. -/
theorem hysteresis_of_fall {avail u c : Nat} (h : u * avail + 600 ≤ 1000 * c) :
    hysteresis avail u c = min avail ((u * avail - 400 + 999) / 1000) := by
  simp only [hysteresis, if_neg (by omega : ¬ 1000 * c + 600 ≤ u * avail), if_pos h, ceilDiv_thousand]

/-- The count stands. -/
theorem hysteresis_of_between {avail u c : Nat} (h₁ : u * avail < 1000 * c + 600) (h₂ : 1000 * c < u * avail + 600) :
    hysteresis avail u c = min avail c := by
  simp only [hysteresis, if_neg (by omega : ¬ 1000 * c + 600 ≤ u * avail), if_neg (by omega : ¬ u * avail + 600 ≤ 1000 * c)]

/-- A count within six tenths of a stage of its demand stands. -/
theorem hysteresis_settled {avail u c : Nat} (hc : c ≤ avail) (h₁ : u * avail < 1000 * c + 600)
    (h₂ : 1000 * c < u * avail + 600) : hysteresis avail u c = c := by
  rw [hysteresis_of_between h₁ h₂, Nat.min_eq_right hc]

/-- The count of one expiry stands at the next, at the same demand. -/
theorem hysteresis_hysteresis {avail u c : Nat} (hu : u ≤ 1000) :
    hysteresis avail u (hysteresis avail u c) = hysteresis avail u c := by
  have hx : u * avail ≤ 1000 * avail := Nat.mul_le_mul_right avail hu
  by_cases hrise : 1000 * c + 600 ≤ u * avail
  · have := hysteresis_of_rise hrise
    exact hysteresis_settled (by omega) (by omega) (by omega)
  · by_cases hfall : u * avail + 600 ≤ 1000 * c
    · have := hysteresis_of_fall hfall
      exact hysteresis_settled (by omega) (by omega) (by omega)
    · have := hysteresis_of_between (Nat.lt_of_not_le hrise) (Nat.lt_of_not_le hfall)
      exact hysteresis_settled (by omega) (by omega) (by omega)

/-! ### What the control computation keeps of a zone -/

/-- The zone as the control computation takes it, before its demand: returned, out of OFF where VENT_ONLY is gone, with the
offset taken over, the draft list pruned and the next expiry set (R7, R10 to R12, R38). -/
def State.prepared (s : State) (g : ZoneCfg) (r : Zone) : Zone :=
  { ((r.returnStep.leaveOff s.inUse.flags.ventOnly).transfer g.base).prune s.clock with
    control := r.control.next (g.period * 1000) }

theorem controlled_eq (s : State) (z : Fin 4) (g : ZoneCfg) (r : Zone) :
    s.controlled z g r = if (s.prepared g r).state = .off then s.prepared g r
      else s.control z g (s.prepared g r) (s.draftSum ((r.returnStep.leaveOff s.inUse.flags.ventOnly).transfer g.base)) := rfl

/-- The state a control-period expiry computes in: regulating where a return is pending, the sensor's standing on leaving OFF,
and otherwise the state that stands (R7, R10). -/
def Zone.stateTaken (ventOnly : Bool) (r : Zone) : ZoneState :=
  if r.state = .off then (if ventOnly then .off else r.standing) else if r.returnPending then .regulating else r.state

theorem returnStep_eq (r : Zone) : r.returnStep = { r with
    returnPending := false, integral := if r.returnPending then 0 else r.integral
    state := if r.returnPending ∧ r.state ≠ .off then .regulating else r.state } := by
  obtain ⟨state, _, _, _, _, pending, _⟩ := r
  unfold Zone.returnStep
  cases pending
  · rfl
  · cases state <;> rfl

theorem leaveOff_eq (ventOnly : Bool) (r : Zone) : r.leaveOff ventOnly =
    { r with state := if r.state = .off ∧ ventOnly = false then r.standing else r.state } := by
  unfold Zone.leaveOff
  split <;> rfl

theorem prepared_eq (s : State) (g : ZoneCfg) (r : Zone) : s.prepared g r = { r with
    state := r.stateTaken s.inUse.flags.ventOnly, returnPending := false, activeOffset := r.pendingOffset
    setpoint := clampInt 150 290 (g.base + r.pendingOffset), integral := if r.returnPending then 0 else r.integral
    drafts := r.drafts.filter (fun d => !d.runOut s.clock), control := r.control.next (g.period * 1000) } := by
  unfold State.prepared Zone.transfer Zone.prune
  rw [leaveOff_eq, returnStep_eq]
  unfold Zone.stateTaken
  by_cases hoff : r.state = .off
  · cases hv : s.inUse.flags.ventOnly
    · simp only [hoff, ne_eq, not_true_eq_false, and_false, ite_false, and_self, ite_true]
      rfl
    · simp [hoff, effectiveSetpoint]
  · by_cases hp : r.returnPending = true
    · simp [hoff, hp, effectiveSetpoint]
    · simp [hoff, hp, effectiveSetpoint]

theorem control_state (s : State) (z : Fin 4) (g : ZoneCfg) (r : Zone) (sum : Nat) :
    (s.control z g r sum).state = r.state := rfl

theorem control_wanted (s : State) (z : Fin 4) (g : ZoneCfg) (r : Zone) (sum : Nat) :
    (s.control z g r sum).wanted =
      ecoCap s.inUse.flags.eco r.avail (hysteresis r.avail (s.control z g r sum).demand r.wanted) := rfl

theorem ecoCap_eq (eco : Bool) (avail c : Nat) : ecoCap eco avail c = if eco then min c ((avail + 1) / 2) else c := rfl

/-- Settles O10: the three cases of the table, and the count of the control computation as the model forms it. -/
theorem hysteresisSettles : Obligations.HysteresisSettles := by
  refine ⟨fun avail u c hu => ?_, fun s z g r => ?_⟩
  · have hx : u * avail ≤ 1000 * avail := Nat.mul_le_mul_right avail hu
    refine ⟨hysteresis_of_rise, fun hfall => ?_, hysteresis_of_between, hysteresis_le avail u c, hysteresis_hysteresis hu⟩
    rw [hysteresis_of_fall hfall]
    exact ⟨by omega, fun k hk => by omega⟩
  · dsimp only
    rw [controlled_eq]
    split
    · rw [prepared_eq]
    · next hon =>
      rw [control_state, if_neg hon, control_wanted, ecoCap_eq]
      simp only [prepared_eq]

end Sys2Proof.Machine
end

section
/-! What closes a step, as a frame, and the expiries that change a zone alone. -/

namespace Sys2Proof.Machine

/-! ### The frame of a step's closing -/

theorem admissionAttempt_attemptDue (s : State) : (admissionAttempt s).attemptDue = s.attemptDue := by
  unfold admissionAttempt
  split
  · split
    · rfl
    · split
      · rfl
      · rfl
  · rfl

/-- A step's closing owes nothing more, and writes the stages, the queue, the pause, the generator, the view, the link and the
outputs only. -/
theorem finish_frame (s : State) : ∃ st q p n v l o, finish s =
    { s with stages := st, queue := q, attemptDue := false, pacing := p, seq := n, view := v, link := l, outputs := o } := by
  have hdue : (payAttempt s).attemptDue = false := by
    unfold payAttempt
    split
    · exact admissionAttempt_attemptDue _
    · next h => exact Bool.eq_false_iff.2 h
  obtain ⟨st, q, a, p, n, v, l, h⟩ := payAttempt_only s
  obtain rfl : a = false := by rw [h] at hdue; exact hdue
  unfold finish
  rw [h]
  exact ⟨_, _, _, _, _, _, _, rfl⟩

/-- The closing of a step that owes no attempt writes the view, the link and the outputs only. -/
theorem finish_frame_of_settled {s : State} (h : s.attemptDue = false) : ∃ v l o, finish s =
    { s with view := v, link := l, outputs := o } := by
  unfold finish
  rw [payAttempt_none s h]
  exact ⟨_, _, _, rfl⟩

/-! ### Zones by their number -/

theorem zone?_modZone_other (s : State) {y z : Fin 4} (g : Zone → Zone) (h : y ≠ z) : (s.modZone z g).zone? y = s.zone? y :=
  List.getElem?_modify_ne g s.zones (fun he => h (Fin.ext he.symm))

/-- A zone changed at its number, where the other zones stand. -/
theorem zone?_of_modify {s t : State} {z : Fin 4} {g : Zone → Zone} (h : t.zones = s.zones.modify z.val g) :
    t.zone? z = (s.zone? z).map g ∧ ∀ y, y ≠ z → t.zone? y = s.zone? y := by
  have ht : ∀ y, t.zone? y = (s.modZone z g).zone? y := fun y => by rw [State.zone?, h]; rfl
  exact ⟨(ht z).trans (zone?_modZone_same s z g), fun y hy => (ht y).trans (zone?_modZone_other s g hy)⟩

theorem zoneTimer_of_zone? {s : State} {z : Fin 4} {r : Zone} (f : Zone → Timer) (h : s.zone? z = some r) :
    s.zoneTimer z f = f r := by simp [State.zoneTimer, h]

/-! ### The hold timer -/

/-- Settles O14. -/
theorem holdTimerExpiry : Obligations.HoldTimerExpiry := by
  intro s z r hs hz
  have hexec : exec (.holdTimerExpiry z) s = atExpiry r.hold (holdExpiry z) s := by
    rw [← zoneTimer_of_zone? Zone.hold hz]; rfl
  refine ⟨fun e he => ?_, fun hstands => ?_⟩
  · rw [hexec, he, atExpiry_running e _ s hs.running]
    obtain ⟨now, hnow⟩ := advanceTo_eq e s
    obtain ⟨l, c, hrecheck⟩ := recheck_only .zoneSensor ((advanceTo e s).modZone z (fun r =>
      { r with hold := .stopped, state := if r.state = .holding then .fallback else r.state }))
    rw [hnow] at hrecheck
    rw [hnow, holdExpiry, hrecheck]
    obtain ⟨v, l', o, hfinish⟩ := finish_frame_of_settled (s := { ({ s with clock := now } : State).modZone z (fun r =>
      { r with hold := .stopped, state := if r.state = .holding then .fallback else r.state }) with link := l, cond := c })
      hs.settled
    rw [hfinish]
    refine ⟨_, rfl, ?_, fun y hy => zone?_modZone_other s _ hy, rfl⟩
    exact (zone?_modZone_same s z _).trans (by rw [hz]; rfl)
  · rw [hexec]
    cases hhold : r.hold with
    | running e => exact absurd hhold (hstands e)
    | stopped => rfl
    | expired => rfl

end Sys2Proof.Machine
end

section
/-! A round of the sensor scanner: what each sensor's owner takes of its reply. -/

namespace Sys2Proof.Machine

/-! ### Readings -/

theorem inSensorRange_iff (x : Int) : inSensorRange x = true ↔ -400 ≤ x ∧ x ≤ 850 := by simp [inSensorRange]

theorem Reply.reading_valid {q : Reply} {x : Int} (h : q = .answer x) (hlow : -400 ≤ x) (hhigh : x ≤ 850) :
    q.reading = some x := by
  subst h
  exact if_pos ((inSensorRange_iff x).2 ⟨hlow, hhigh⟩)

theorem Reply.reading_bad {q : Reply} (h : ∀ x, q = .answer x → x < -400 ∨ 850 < x) : q.reading = none := by
  cases q with
  | answer x => exact if_neg fun hr => by have := (inSensorRange_iff x).1 hr; have := h x rfl; omega
  | silent => rfl
  | corrupt => rfl

theorem CabReply.reading_valid {q : CabReply} {x y : Int} (h : q = .answer x y) (hlow : -400 ≤ x) (hhigh : x ≤ 850) :
    q.reading = some (x, (clampInt 0 1000 y).toNat) := by
  subst h
  exact if_pos ((inSensorRange_iff x).2 ⟨hlow, hhigh⟩)

theorem CabReply.reading_bad {q : CabReply} (h : ∀ x y, q = .answer x y → x < -400 ∨ 850 < x) : q.reading = none := by
  cases q with
  | answer x y => exact if_neg fun hr => by have := (inSensorRange_iff x).1 hr; have := h x y rfl; omega
  | silent => rfl
  | corrupt => rfl

theorem runUp_eq {run : Nat} (h : run ≤ 3) : runUp run = min 3 (run + 1) := by
  unfold runUp
  split <;> omega

/-! ### Zones -/

theorem Zone.scan_valid {q : Reply} {x : Int} (h : q.reading = some x) (now : Time) (r : Zone) : r.scan now q = { r with
    measured := some x, lastValid := some now, badRun := 0, returnPending := r.returnPending || r.badRun == 3
    hold := if r.badRun = 3 then .stopped else r.hold } := by
  simp [Zone.scan, h, Zone.validScan]

theorem Zone.scan_bad {q : Reply} (h : q.reading = none) (now : Time) (r : Zone) : r.scan now q = r.badScan now := by
  simp [Zone.scan, h]

/-- The third bad scan in a row (R5). -/
theorem Zone.badScan_third {r : Zone} (h : r.badRun = 2) (now : Time) : r.badScan now = { r with
    badRun := 3, returnPending := false
    state := if r.state = .regulating then (if r.measured.isSome then .holding else .fallback) else r.state
    hold := if r.measured.isSome then .running (timeAfter now 60000) else r.hold } := by
  unfold Zone.badScan Zone.failedState
  rw [if_neg (by omega), if_pos h]
  cases r.state <;> rfl

theorem scanZone_frame (q : ScanReplies) (z : Fin 4) (s : State) :
    ∃ zs l c, scanZone q z s = { s with zones := zs, link := l, cond := c } := by
  unfold scanZone
  split
  · obtain ⟨l, c, h⟩ := recheck_only .zoneSensor (s.modZone z _)
    exact ⟨_, l, c, h⟩
  · exact ⟨_, _, _, rfl⟩

/-- A scan changes its own zone only. -/
theorem scanZone_zone? (q : ScanReplies) (z y : Fin 4) (s : State) {g : ZoneCfg} (hg : s.zoneCfg? y = some g) :
    (scanZone q z s).zone? y = if y = z then (s.zone? y).map (Zone.scan s.clock (q.replyAt g.sensor)) else s.zone? y := by
  have hrecheck : ∀ u : State, (recheck .zoneSensor u).zone? y = u.zone? y := fun u => by
    rw [State.zone?, (recheck_only .zoneSensor u).zones_eq]; rfl
  unfold scanZone
  split
  · next g' hg' =>
    rw [hrecheck]
    split
    · next he =>
      subst he
      obtain rfl : g' = g := Option.some.inj (hg'.symm.trans hg)
      exact zone?_modZone_same s y _
    · next hne => exact zone?_modZone_other s _ hne
  · next hnone =>
    split
    · next he => subst he; rw [hnone] at hg; cases hg
    · rfl

/-- The scans of the zone sensors, in the order they are polled. -/
def scanZones (q : ScanReplies) (s : State) : State := scanZone q 3 (scanZone q 2 (scanZone q 1 (scanZone q 0 s)))

theorem scanZones_frame (q : ScanReplies) (s : State) :
    ∃ zs l c, scanZones q s = { s with zones := zs, link := l, cond := c } := by
  obtain ⟨_, _, _, h0⟩ := scanZone_frame q 0 s
  obtain ⟨_, _, _, h1⟩ := scanZone_frame q 1 (scanZone q 0 s)
  obtain ⟨_, _, _, h2⟩ := scanZone_frame q 2 (scanZone q 1 (scanZone q 0 s))
  obtain ⟨_, _, _, h3⟩ := scanZone_frame q 3 (scanZone q 2 (scanZone q 1 (scanZone q 0 s)))
  rw [h2, h1, h0] at h3
  unfold scanZones
  rw [h2, h1, h0]
  exact ⟨_, _, _, h3⟩

/-- Every zone takes its sensor's reply. -/
theorem scanZones_zone? (q : ScanReplies) (s : State) {y : Fin 4} {g : ZoneCfg} (hg : s.zoneCfg? y = some g) :
    (scanZones q s).zone? y = (s.zone? y).map (Zone.scan s.clock (q.replyAt g.sensor)) := by
  have keep : ∀ z (u : State), (scanZone q z u).config = u.config ∧ (scanZone q z u).clock = u.clock := fun z u => by
    obtain ⟨_, _, _, h⟩ := scanZone_frame q z u
    rw [h]
    exact ⟨rfl, rfl⟩
  have cfg : ∀ z (u : State), u.zoneCfg? y = some g → (scanZone q z u).zoneCfg? y = some g := fun z u h => by
    rw [State.zoneCfg?, (keep z u).1]; exact h
  have h0 := cfg 0 s hg
  have h1 := cfg 1 _ h0
  have h2 := cfg 2 _ h1
  unfold scanZones
  rw [scanZone_zone? q 3 y _ h2, scanZone_zone? q 2 y _ h1, scanZone_zone? q 1 y _ h0, scanZone_zone? q 0 y s hg,
    (keep 2 _).2, (keep 1 _).2, (keep 0 _).2]
  fin_cases y <;> rfl

/-! ### The outside sensor -/

/-- What the view takes of the outside sensor's reply (R96). -/
structure OutsideRead (s : State) (q : Reply) (v : View) : Prop where
  peers : ∀ i : Station, i ≠ s.straps.station → v.entries[i.val] = s.entry i
  valid : ∀ x, q.reading = some x → v.entries[s.straps.station.val].outside = some x
    ∧ v.entries[s.straps.station.val].outsideAt = some s.clock ∧ v.outsideRun = 0
  bad : q.reading = none → v.outsideRun = runUp s.view.outsideRun
    ∧ (runUp s.view.outsideRun = 3 → v.entries[s.straps.station.val].outside = none)

/-- The outside sensor's reply taken, before its condition is tested. -/
def outsideTaken (q : Reply) (s : State) : State :=
  match q.reading with
  | some t =>
    (modOwn (fun e => { e with outside := some t, outsideAt := some s.clock }) s).modView
      (fun v => { v with outsideRun := 0 })
  | none =>
    let run := runUp s.view.outsideRun
    let s1 := s.modView (fun v => { v with outsideRun := run })
    if run = 3 then modOwn (fun e => { e with outside := none, outsideAt := none }) s1 else s1

theorem scanOutside_eq (q : Reply) (s : State) : scanOutside q s =
    if s.config.outsidePresent then recheck .outsideSensor (outsideTaken q s) else s := rfl

theorem outsideTaken_reads (q : Reply) (s : State) :
    ∃ v l, outsideTaken q s = { s with view := v, link := l } ∧ OutsideRead s q v := by
  unfold outsideTaken
  cases hq : q.reading with
  | some x =>
    have same := entry_modEntry_same s s.straps.station (fun e => { e with outside := some x, outsideAt := some s.clock })
    have other := fun (i : Station) (hi : i ≠ s.straps.station) =>
      entry_modEntry_other s (fun e => { e with outside := some x, outsideAt := some s.clock }) hi
    refine ⟨_, _, rfl, other, fun y hy => ?_, fun h => by rw [hq] at h; cases h⟩
    rw [← Option.some.inj (hq.symm.trans hy)]
    exact ⟨congrArg Entry.outside same, congrArg Entry.outsideAt same, rfl⟩
  | none =>
    dsimp only
    split
    · have same := entry_modEntry_same (s.modView (fun v => { v with outsideRun := runUp s.view.outsideRun }))
        s.straps.station (fun e => { e with outside := none, outsideAt := none })
      exact ⟨_, _, rfl, fun i hi => entry_modEntry_other (s.modView _) _ hi, fun y hy => (by rw [hq] at hy; cases hy),
        fun _ => ⟨rfl, fun _ => congrArg Entry.outside same⟩⟩
    · next hrun =>
      exact ⟨_, _, rfl, fun _ _ => rfl, fun y hy => (by rw [hq] at hy; cases hy), fun _ => ⟨rfl, fun h => absurd h hrun⟩⟩

theorem scanOutside_does (q : Reply) (s : State) : ∃ v l c, scanOutside q s = { s with view := v, link := l, cond := c }
    ∧ (∀ i : Station, i ≠ s.straps.station → v.entries[i.val] = s.entry i)
    ∧ (s.config.outsidePresent = true → OutsideRead s q v) := by
  rw [scanOutside_eq]
  split
  · obtain ⟨v, l, htaken, hread⟩ := outsideTaken_reads q s
    obtain ⟨l', c, hrecheck⟩ := recheck_only .outsideSensor (outsideTaken q s)
    rw [htaken] at hrecheck
    exact ⟨v, l', c, by rw [htaken]; exact hrecheck, hread.peers, fun _ => hread⟩
  · next h => exact ⟨_, _, _, rfl, fun _ _ => rfl, fun hp => absurd hp h⟩

/-! ### The windscreen sensors -/

theorem scanWindscreen_frame (cab : CabReply) (screen : Reply) (s : State) : ∃ l c, scanWindscreen cab screen s =
    { s with defrost := s.defrost.map (fun d => (d.cabScan cab).screenScan screen), link := l, cond := c } := by
  unfold scanWindscreen
  split
  · obtain ⟨l, c, h⟩ := recheck_only .screenSensor (s.modDefrost (fun d => (d.cabScan cab).screenScan screen))
    exact ⟨l, c, h⟩
  · next h =>
    have hnone : s.defrost = none := by simpa using h
    refine ⟨s.link, s.cond, ?_⟩
    rw [hnone]
    exact (by cases s; cases hnone; rfl)

/-- What the defrost record takes of the two replies (R129). -/
theorem windscreen_taken (cab : CabReply) (screen : Reply) (d : Defrost) :
    let d' := (d.cabScan cab).screenScan screen
    (∀ x, screen = .answer x → -400 ≤ x → x ≤ 850 → d'.screen = some x ∧ d'.screenRun = 0)
    ∧ ((∀ x, screen = .answer x → x < -400 ∨ 850 < x) → d.screenRun ≤ 3 →
        d'.screen = d.screen ∧ d'.screenRun = min 3 (d.screenRun + 1))
    ∧ (∀ x h, cab = .answer x h → -400 ≤ x → x ≤ 850 →
        d'.cabTemp = some x ∧ d'.humidity = some (clampInt 0 1000 h).toNat ∧ d'.cabRun = 0)
    ∧ ((∀ x h, cab = .answer x h → x < -400 ∨ 850 < x) → d.cabRun ≤ 3 →
        d'.cabTemp = d.cabTemp ∧ d'.humidity = d.humidity ∧ d'.cabRun = min 3 (d.cabRun + 1)) := by
  have hcab : ∀ u : Defrost, (u.screenScan screen).cabTemp = u.cabTemp ∧ (u.screenScan screen).humidity = u.humidity
      ∧ (u.screenScan screen).cabRun = u.cabRun := fun u => by
    unfold Defrost.screenScan
    split <;> exact ⟨rfl, rfl, rfl⟩
  have hscreen : (d.cabScan cab).screen = d.screen ∧ (d.cabScan cab).screenRun = d.screenRun := by
    unfold Defrost.cabScan
    split <;> exact ⟨rfl, rfl⟩
  dsimp only
  rw [(hcab _).1, (hcab _).2.1, (hcab _).2.2]
  refine ⟨fun x hx hlow hhigh => ?_, fun hbad hrun => ?_, fun x y hx hlow hhigh => ?_, fun hbad hrun => ?_⟩
  · simp [Defrost.screenScan, Reply.reading_valid hx hlow hhigh]
  · simp [Defrost.screenScan, Reply.reading_bad hbad, hscreen, runUp_eq hrun]
  · simp [Defrost.cabScan, CabReply.reading_valid hx hlow hhigh]
  · simp [Defrost.cabScan, CabReply.reading_bad hbad, runUp_eq hrun]

/-! ### The round -/

theorem Closes.outsideRun_eq {s t : State} (h : Closes s t) : t.view.outsideRun = s.view.outsideRun :=
  have hrun := congrArg (fun u : State => u.view.outsideRun) h.rest
  hrun

theorem Closes.frame {s t : State} (h : Closes s t) : ∃ v l o, t = { s with view := v, link := l, outputs := o } := by
  refine ⟨t.view, t.link, t.outputs, ?_⟩
  have hrest := h.rest
  rw [← hrest]

theorem scanExpiry_eq (q : ScanReplies) (s : State) : scanExpiry q s =
    scanWindscreen q.cabAir q.screen (scanOutside q.outside (scanZones q { s with scanTimer := s.scanTimer.next 500 })) := rfl

/-- A round as one record: the zones scanned, the outside reading taken, and the windscreen readings. -/
theorem scanExpiry_does (q : ScanReplies) (s : State) : ∃ v l c, scanExpiry q s = { s with
      scanTimer := s.scanTimer.next 500
      zones := (scanZones q { s with scanTimer := s.scanTimer.next 500 }).zones, view := v, link := l, cond := c
      defrost := s.defrost.map (fun d => (d.cabScan q.cabAir).screenScan q.screen) }
    ∧ (∀ i : Station, i ≠ s.straps.station → v.entries[i.val] = s.entry i)
    ∧ (s.config.outsidePresent = true → OutsideRead s q.outside v) := by
  rw [scanExpiry_eq]
  obtain ⟨zs, l0, c0, hzones⟩ := scanZones_frame q { s with scanTimer := s.scanTimer.next 500 }
  rw [hzones]
  obtain ⟨v, l1, c1, houtside, hpeers, hread⟩ := scanOutside_does q.outside
    { s with scanTimer := s.scanTimer.next 500, zones := zs, link := l0, cond := c0 }
  rw [houtside]
  obtain ⟨l2, c2, hscreen⟩ := scanWindscreen_frame q.cabAir q.screen
    { s with scanTimer := s.scanTimer.next 500, zones := zs, view := v, link := l1, cond := c1 }
  exact ⟨v, l2, c2, hscreen, hpeers, fun hp => ⟨hpeers, (hread hp).valid, (hread hp).bad⟩⟩

/-- Settles O13. -/
theorem sensorScanIsTaken : Obligations.SensorScanIsTaken := by
  intro s e q hs htimer
  have hexec : exec (.sensorScan q) s = .next (finish (scanExpiry q (advanceTo e s))) := by
    refine Eq.trans ?_ (atExpiry_running e (scanExpiry q) s hs.running)
    rw [← htimer]; rfl
  obtain ⟨now, hnow⟩ := advanceTo_eq e s
  obtain ⟨v, l, c, hscan, hpeers, hread⟩ := scanExpiry_does q (advanceTo e s)
  rw [hnow] at hexec hscan hpeers hread ⊢
  dsimp only at hscan hpeers hread ⊢
  have hcloses := finish_closes_none (scanExpiry q { s with clock := now }) (by rw [hscan]; exact hs.settled)
  rw [hscan] at hexec hcloses
  refine ⟨_, hexec, ?_⟩
  generalize finish _ = t at hcloses ⊢
  obtain ⟨v', l', o, ht⟩ := hcloses.frame
  have hstraps : t.straps = s.straps := by rw [ht]
  have hown : t.ownEntry.outside = v.entries[s.straps.station.val].outside
      ∧ t.ownEntry.outsideAt = v.entries[s.straps.station.val].outsideAt := by
    rw [hcloses.own]; exact ⟨rfl, rfl⟩
  have hrun : t.view.outsideRun = v.outsideRun := hcloses.outsideRun_eq
  refine ⟨?_, fun z r g hz hg => ?_, fun hp => ?_, fun d hd => ?_, fun i hi => ?_, ?_⟩
  · rw [ht, htimer]; rfl
  · have hzone : t.zone? z = some (r.scan now (q.replyAt g.sensor)) := by
      have := scanZones_zone? q { s with clock := now, scanTimer := s.scanTimer.next 500 } (y := z) hg
      rw [ht]
      exact this.trans (congrArg (Option.map _) hz)
    refine ⟨fun x hx hlow hhigh => ?_, fun hbad => ?_⟩
    · rw [hzone, Zone.scan_valid (Reply.reading_valid hx hlow hhigh)]
    · rw [hzone, Zone.scan_bad (Reply.reading_bad hbad)]
      refine ⟨fun h => ?_, fun h => ?_, fun h => by rw [Zone.badScan_third h]⟩
      · rw [Zone.badScan, if_pos h]
      · rw [Zone.badScan, if_neg (by omega), if_neg (by omega)]
  · rw [hown.1, hown.2, hrun]
    refine ⟨fun x hx hlow hhigh => (hread hp).valid x (Reply.reading_valid hx hlow hhigh), fun hbad hle => ?_⟩
    obtain ⟨hup, hgone⟩ := (hread hp).bad (Reply.reading_bad hbad)
    rw [← runUp_eq hle]
    exact ⟨hup, fun h2 => hgone (by rw [runUp_eq hle]; omega)⟩
  · refine ⟨(d.cabScan q.cabAir).screenScan q.screen, ?_, windscreen_taken q.cabAir q.screen d⟩
    rw [ht]
    exact congrArg (Option.map _) hd
  · exact (hcloses.peers i hi).trans (hpeers i hi)
  · rw [ht]

end Sys2Proof.Machine
end

section
/-! How many stages an owner holds: what one change of a stage does to the count, and that the queue stays sound (R47 to R52). -/

namespace Sys2Proof.Machine

/-! ### One change of a stage -/

/-- The stage is held by the owner in the class. -/
def Stage.heldFor (st : Stage) (o : Owner) (c : Cls) : Bool := st.owner == o && st.isHeld && st.inClass c

theorem heldCount_eq (s : State) (o : Owner) (c : Cls) :
    s.heldCount o c = (s.stages.filter (fun st => st.heldFor o c)).length := rfl

/-- A selection's length after a change at one place. -/
theorem length_filter_modify {α : Type} (p : α → Bool) (f : α → α) : ∀ (l : List α) (i : Nat) (x : α), l[i]? = some x →
    ((l.modify i f).filter p).length + (if p x then 1 else 0) = (l.filter p).length + (if p (f x) then 1 else 0)
  | [], i, x, h => by cases h
  | y :: l, 0, x, h => by
    obtain rfl : y = x := Option.some.inj h
    rw [List.modify_zero_cons, List.filter_cons, List.filter_cons]
    split <;> split <;> simp
  | y :: l, i + 1, x, h => by
    have ih := length_filter_modify p f l i x h
    rw [List.modify_succ_cons, List.filter_cons, List.filter_cons]
    split
    · rw [List.length_cons, List.length_cons]; omega
    · exact ih

theorem refeedback_heldFor (now : Time) (was st : Stage) (o : Owner) (c : Cls) :
    (refeedback now was st).heldFor o c = st.heldFor o c := by
  obtain ⟨v, h⟩ := refeedback_eq now was st
  rw [h]; rfl

/-- What a change of one stage does to the count held. -/
theorem heldCount_modStage {s : State} {i : Nat} {st : Stage} (h : s.stage? i = some st) (g : Stage → Stage) (o : Owner)
    (c : Cls) : (modStage i g s).heldCount o c + (if st.heldFor o c then 1 else 0)
      = s.heldCount o c + (if (g st).heldFor o c then 1 else 0) := by
  have := length_filter_modify (fun st => st.heldFor o c) (fun st => refeedback s.clock st (g st)) s.stages i st h
  simp only [refeedback_heldFor] at this
  exact this

theorem stage?_modStage_other {i j : Nat} (g : Stage → Stage) (s : State) (h : j ≠ i) :
    (modStage i g s).stage? j = s.stage? j := by
  rw [stage?_modStage, if_neg fun he => h he.symm]

theorem stage?_modStage_same {s : State} {i : Nat} {st : Stage} (h : s.stage? i = some st) (g : Stage → Stage) :
    (modStage i g s).stage? i = some (refeedback s.clock st (g st)) := by
  rw [stage?_modStage, if_pos rfl, h]; rfl

/-- Reading a stage reads the stage table only. -/
theorem stage?_congr {s t : State} (h : t.stages = s.stages) (i : Nat) : t.stage? i = s.stage? i := by
  rw [State.stage?, h]; rfl

theorem heldCount_congr {s t : State} (h : t.stages = s.stages) (o : Owner) (c : Cls) : t.heldCount o c = s.heldCount o c := by
  rw [State.heldCount, h]; rfl

/-! ### The queue stays sound -/

/-- The number stands in the queue of the class where the stage is QUEUED in it. -/
def State.Lined (s : State) (i : Nat) : Prop :=
  ∀ c, i ∈ s.queue.get c ↔ ∃ st, s.stage? i = some st ∧ st.state = .queued ∧ st.cls = some c

/-- No number stands twice in one queue. -/
def State.QueueNodup (s : State) : Prop := ∀ c, (s.queue.get c).Nodup

theorem queueSound_iff {s : State} : s.QueueSound ↔ s.QueueNodup ∧ ∀ i, s.Lined i :=
  ⟨fun h => ⟨fun c => (h c).1, fun i c => (h c).2 i⟩, fun h c => ⟨h.1 c, fun i => h.2 i c⟩⟩

theorem queueSound_congr {s t : State} (hs : t.stages = s.stages) (hq : t.queue = s.queue) (h : s.QueueSound) :
    t.QueueSound := by
  unfold State.QueueSound
  simp only [State.stage?, hs, hq]
  exact h

/-- The queue stays sound where one stage changes and its own place follows. -/
theorem State.QueueSound.change {s t : State} {i : Nat} (h : s.QueueSound) (hstage : ∀ j, j ≠ i → t.stage? j = s.stage? j)
    (hqueue : ∀ c j, j ≠ i → (j ∈ t.queue.get c ↔ j ∈ s.queue.get c)) (hn : t.QueueNodup) (hi : t.Lined i) :
    t.QueueSound := by
  refine queueSound_iff.2 ⟨hn, fun j => ?_⟩
  by_cases hj : j = i
  · exact hj ▸ hi
  · intro c
    rw [hqueue c j hj, hstage j hj]
    exact (h c).2 j

theorem queueNodup_unqueue {s : State} (h : s.QueueNodup) (i : Nat) : (unqueue i s).QueueNodup := fun c => by
  simp only [unqueue, PerClass_get_map]
  exact (h c).filter _

theorem queueNodup_queueBack {s : State} {c : Cls} {i : Nat} (h : s.QueueNodup) (hi : i ∉ s.queue.get c) :
    (queueBack c i s).QueueNodup := fun c' => by
  simp only [queueBack, PerClass_get_set]
  split
  · exact List.nodup_append.2 ⟨h c, List.nodup_singleton i, fun a ha b hb => by
      rw [List.mem_singleton.1 hb]; exact fun he => hi (he ▸ ha)⟩
  · exact h c'

/-- A stage that is not QUEUED stands in no queue. -/
theorem State.QueueSound.not_mem {s : State} {i : Nat} {st : Stage} (h : s.QueueSound) (hs : s.stage? i = some st)
    (hq : st.state ≠ .queued) (c : Cls) : i ∉ s.queue.get c := fun hi => by
  obtain ⟨st', hs', hq', -⟩ := ((h c).2 i).1 hi
  rw [hs] at hs'
  cases hs'
  exact hq hq'

/-! ### Withdrawing (R52) -/

theorem withdraw_stages (i : Nat) (s : State) : (withdraw i s).stages = (modStage i Stage.toIdle s).stages := by
  unfold withdraw
  dsimp only
  split <;> (split <;> rfl)

theorem withdraw_queue (i : Nat) (s : State) : (withdraw i s).queue = (unqueue i s).queue := by
  unfold withdraw
  dsimp only
  split <;> (split <;> rfl)

theorem withdraw_sound {s : State} (h : s.QueueSound) (i : Nat) : (withdraw i s).QueueSound := by
  have hstages := withdraw_stages i s
  have hqueue := withdraw_queue i s
  refine h.change (i := i) (fun j hj => ?_) (fun c j hj => ?_) (fun c => ?_) fun c => ?_
  · rw [stage?_congr hstages, stage?_modStage_other _ _ hj]
  · rw [hqueue, mem_unqueue]; exact and_iff_left hj
  · rw [hqueue]; exact queueNodup_unqueue (fun c => (h c).1) i c
  · rw [hqueue, mem_unqueue, stage?_congr hstages, stage?_modStage, if_pos rfl]
    refine iff_of_false (fun hm => hm.2 rfl) ?_
    rintro ⟨st, hs, hq, -⟩
    obtain ⟨st', -, rfl⟩ := Option.map_eq_some_iff.1 hs
    rw [refeedback_state] at hq
    cases hq

theorem toIdle_heldFor (st : Stage) (o : Owner) (c : Cls) : st.toIdle.heldFor o c = false := by
  simp [Stage.heldFor, Stage.toIdle, Stage.inClass]

/-- A stage withdrawn is held no more. -/
theorem heldCount_withdraw {s : State} {i : Nat} {st : Stage} (h : s.stage? i = some st) (o : Owner) (c : Cls) :
    (withdraw i s).heldCount o c + (if st.heldFor o c then 1 else 0) = s.heldCount o c := by
  rw [heldCount_congr (withdraw_stages i s)]
  simpa only [toIdle_heldFor, Bool.false_eq_true, if_false, Nat.add_zero] using heldCount_modStage h Stage.toIdle o c

theorem Stage.heldFor_iff {st : Stage} {o : Owner} {c : Cls} :
    st.heldFor o c = true ↔ st.owner = o ∧ st.isHeld = true ∧ st.cls = some c := by
  simp [Stage.heldFor, Stage.inClass, and_assoc]

/-- Stages of an owner held in a class, by their numbers. -/
def State.Mine (s : State) (o : Owner) (c : Cls) (l : List Nat) : Prop :=
  ∀ i ∈ l, ∃ st, s.stage? i = some st ∧ st.heldFor o c = true

/-- Withdrawing different stages that an owner holds in a class lowers that count alone, by their number. -/
theorem foldl_withdraw {o : Owner} {c : Cls} : ∀ {l : List Nat} {s : State}, l.Nodup → s.Mine o c l → s.QueueSound →
    let t := l.foldl (fun s i => withdraw i s) s
    t.QueueSound ∧ t.heldCount o c + l.length = s.heldCount o c ∧ ∀ c', c' ≠ c → t.heldCount o c' = s.heldCount o c'
  | [], s, _, _, hq => ⟨hq, rfl, fun _ _ => rfl⟩
  | i :: l, s, hn, hm, hq => by
    obtain ⟨hi, hn⟩ := List.nodup_cons.1 hn
    obtain ⟨st, hs, hheld⟩ := hm i (List.mem_cons_self ..)
    have hmine : (withdraw i s).Mine o c l := fun j hj => by
      obtain ⟨st', hs', hheld'⟩ := hm j (List.mem_cons_of_mem _ hj)
      refine ⟨st', ?_, hheld'⟩
      rw [stage?_congr (withdraw_stages i s), stage?_modStage_other _ _ (by rintro rfl; exact hi hj)]
      exact hs'
    obtain ⟨hsound, hcount, hother⟩ := foldl_withdraw hn hmine (withdraw_sound hq i)
    refine ⟨hsound, ?_, fun c' hc => (hother c' hc).trans ?_⟩
    · have := heldCount_withdraw hs o c
      rw [if_pos hheld] at this
      simp only [List.foldl_cons, List.length_cons]
      omega
    · have := heldCount_withdraw hs o c'
      rwa [if_neg fun h => hc (Option.some.inj ((Stage.heldFor_iff.1 h).2.2.symm.trans (Stage.heldFor_iff.1 hheld).2.2))] at this

/-! ### The order of withdrawal holds every stage once -/

theorem insertBySince_perm (now : Time) (key : Nat → Option Time) (i : Nat) : ∀ l : List Nat,
    List.Perm (insertBySince now key i l) (i :: l)
  | [] => .refl _
  | j :: l => by
    unfold insertBySince
    split
    · exact .refl _
    · exact ((insertBySince_perm now key i l).cons j).trans (.swap i j l)

theorem sortBySince_perm (now : Time) (key : Nat → Option Time) : ∀ l : List Nat, List.Perm (sortBySince now key l) l
  | [] => .refl _
  | i :: l => (insertBySince_perm now key i _).trans ((sortBySince_perm now key l).cons i)

theorem bySince_perm (s : State) (l : List Nat) : List.Perm (s.bySince l) l := sortBySince_perm _ _ l

theorem stageIndexes_nodup (p : Stage → Bool) : ∀ (l : List Stage) (i : Nat), (stageIndexes p i l).Nodup
  | [], _ => .nil
  | st :: l, i => by
    have ih := stageIndexes_nodup p l (i + 1)
    unfold stageIndexes
    split
    · refine List.nodup_cons.2 ⟨fun hi => ?_, ih⟩
      have := ((mem_stageIndexes (i + 1)).1 hi).1
      omega
    · exact ih

theorem stageIndexes_length (p : Stage → Bool) : ∀ (l : List Stage) (i : Nat), (stageIndexes p i l).length = (l.filter p).length
  | [], _ => rfl
  | st :: l, i => by
    have ih := stageIndexes_length p l (i + 1)
    unfold stageIndexes
    rw [List.filter_cons]
    split <;> simp [ih]

theorem stagesWith_nodup (s : State) (p : Stage → Bool) : (s.stagesWith p).Nodup := stageIndexes_nodup p _ _

theorem mem_withdrawOrder {s : State} (h : s.QueueSound) {o : Owner} {c : Cls} {i : Nat} :
    i ∈ s.withdrawOrder o c ↔ ∃ st, s.stage? i = some st ∧ st.heldFor o c = true := by
  unfold State.withdrawOrder
  simp only [List.mem_append, mem_bySince, mem_stagesWith, List.mem_filter, List.mem_reverse, (h c).2 i]
  constructor
  · rintro ((⟨⟨st, hs, hq, hc⟩, ho⟩ | ⟨st, hs, hp⟩) | ⟨st, hs, hp⟩)
    · rw [hs] at ho
      exact ⟨st, hs, Stage.heldFor_iff.2 ⟨by simpa using ho, (Stage.isHeld_iff st).2 (.inl hq), hc⟩⟩
    · simp [Stage.inClass] at hp
      exact ⟨st, hs, Stage.heldFor_iff.2 ⟨hp.1.2, (Stage.isHeld_iff st).2 (.inr (.inr hp.1.1)), hp.2⟩⟩
    · simp [Stage.inClass] at hp
      exact ⟨st, hs, Stage.heldFor_iff.2 ⟨hp.1.2, (Stage.isHeld_iff st).2 (.inr (.inl hp.1.1)), hp.2⟩⟩
  · rintro ⟨st, hs, hheld⟩
    obtain ⟨ho, hh, hc⟩ := Stage.heldFor_iff.1 hheld
    rcases (Stage.isHeld_iff st).1 hh with hq | hq | hq
    · exact .inl (.inl ⟨⟨st, hs, hq, hc⟩, by simp [hs, ho]⟩)
    · exact .inr ⟨st, hs, by simp [hq, ho, hc, Stage.inClass]⟩
    · exact .inl (.inr ⟨st, hs, by simp [hq, ho, hc, Stage.inClass]⟩)

theorem withdrawOrder_nodup {s : State} (h : s.QueueSound) (o : Owner) (c : Cls) : (s.withdrawOrder o c).Nodup := by
  have state_of : ∀ {p : Stage → Bool} {i : Nat} {st : Stage}, i ∈ s.bySince (s.stagesWith p) → s.stage? i = some st →
      p st = true := fun hi hs => by
    obtain ⟨st', hs', hp⟩ := mem_stagesWith.1 (mem_bySince.1 hi)
    rw [hs] at hs'
    cases hs'
    exact hp
  have sorted : ∀ p, (s.bySince (s.stagesWith p)).Nodup := fun p => (bySince_perm s _).nodup_iff.2 (stagesWith_nodup s p)
  unfold State.withdrawOrder
  refine List.nodup_append.2 ⟨List.nodup_append.2 ⟨((List.nodup_reverse.2 (h c).1).filter _), sorted _, ?_⟩, sorted _, ?_⟩
  · rintro a ha b hb rfl
    obtain ⟨st, hs, hq, -⟩ := ((h c).2 a).1 (List.mem_reverse.1 (List.mem_filter.1 ha).1)
    have := state_of hb hs
    simp [hq] at this
  · rintro a ha b hb rfl
    obtain ⟨st, hs, hp⟩ := mem_stagesWith.1 (mem_bySince.1 hb)
    simp at hp
    rcases List.mem_append.1 ha with ha | ha
    · obtain ⟨st', hs', hq, -⟩ := ((h c).2 a).1 (List.mem_reverse.1 (List.mem_filter.1 ha).1)
      rw [hs] at hs'
      cases hs'
      rw [hp.1.1] at hq
      cases hq
    · have := state_of ha hs
      simp [hp.1.1] at this

/-- The order of withdrawal is as long as the count held. -/
theorem withdrawOrder_length {s : State} (h : s.QueueSound) (o : Owner) (c : Cls) :
    (s.withdrawOrder o c).length = s.heldCount o c := by
  have hperm : List.Perm (s.withdrawOrder o c) (s.stagesWith (fun st => st.heldFor o c)) :=
    (List.perm_ext_iff_of_nodup (withdrawOrder_nodup h o c) (stagesWith_nodup s _)).2 fun i => by
      rw [mem_withdrawOrder h, mem_stagesWith]
  rw [hperm.length_eq, heldCount_eq]
  exact stageIndexes_length _ _ _

/-- Withdrawing to `n` leaves at most `n` held, and every other class as it stands. -/
theorem withdrawTo_counts {s : State} (h : s.QueueSound) (o : Owner) (c : Cls) (n : Nat) :
    let t := withdrawTo o c n s
    t.QueueSound ∧ t.heldCount o c = min n (s.heldCount o c) ∧ ∀ c', c' ≠ c → t.heldCount o c' = s.heldCount o c' := by
  have hmine : s.Mine o c ((s.withdrawOrder o c).take (s.heldCount o c - n)) := fun i hi =>
    (mem_withdrawOrder h).1 (List.mem_of_mem_take hi)
  obtain ⟨hsound, hcount, hother⟩ := foldl_withdraw ((withdrawOrder_nodup h o c).take) hmine h
  refine ⟨hsound, ?_, hother⟩
  rw [List.length_take, withdrawOrder_length h] at hcount
  change (withdrawTo o c n s).heldCount o c + _ = _ at hcount
  omega

/-! ### Filling (R50) -/

/-- No stage of the owner is IDLE. -/
def State.NoneIdle (s : State) (o : Owner) : Prop := ∀ st ∈ s.stages, st.owner = o → st.state ≠ .idle

theorem leastWorn_none {o : Owner} : ∀ {l : List Stage} {i : Nat} {best : Option (Nat × Nat)}, leastWorn o i l best = none →
    best = none ∧ ∀ st ∈ l, st.owner = o → st.state ≠ .idle
  | [], _, _, h => ⟨h, fun _ hm => by cases hm⟩
  | st :: l, i, best, h => by
    obtain ⟨hbest, hl⟩ := leastWorn_none (l := l) h
    have hst : ¬ (st.owner == o && st.state == .idle) = true := fun hp => by
      rw [if_pos hp] at hbest
      unfold lessWorn at hbest
      split at hbest
      · cases hbest
      · split at hbest <;> cases hbest
    rw [if_neg hst] at hbest
    refine ⟨hbest, fun x hx ho hidle => ?_⟩
    rcases List.mem_cons.1 hx with rfl | hx
    · exact hst (by simp [ho, hidle])
    · exact hl x hx ho hidle

theorem nextIdle_none {s : State} {o : Owner} (h : s.nextIdle o = none) : s.NoneIdle o :=
  (leastWorn_none (Option.map_eq_none_iff.1 h)).2

theorem enqueueNext_none {s : State} {o : Owner} (h : s.NoneIdle o) (c : Cls) (p : Place) : enqueueNext o c p s = s := by
  unfold enqueueNext
  split
  · next i hi =>
    obtain ⟨st, hs, ho, hidle⟩ := nextIdle_some hi
    exact absurd hidle (h st (mem_stages_iff.2 ⟨i, hs⟩) ho)
  · rfl

/-- The queue of the class with the number at a place. -/
def placed (s : State) (c : Cls) : Place → Nat → List Nat
  | .back, i => s.queue.get c ++ [i]
  | .front, i => i :: s.queue.get c
  | .position n, i => (s.queue.get c).take n ++ i :: (s.queue.get c).drop n

theorem enqueue_stages (c : Cls) (p : Place) (i : Nat) (s : State) :
    (enqueue c p i s).stages = (modStage i (fun st => { st with state := .queued, cls := some c }) s).stages := by
  cases p <;> rfl

theorem enqueue_queue (c : Cls) (p : Place) (i : Nat) (s : State) :
    (enqueue c p i s).queue = s.queue.set c (placed s c p i) := by
  cases p <;> rfl

theorem placed_perm (s : State) (c : Cls) (p : Place) (i : Nat) : List.Perm (placed s c p i) (i :: s.queue.get c) := by
  cases p with
  | back => exact List.perm_append_comm
  | front => exact .refl _
  | position n =>
    have h : List.Perm (placed s c (.position n) i) (i :: ((s.queue.get c).take n ++ (s.queue.get c).drop n)) :=
      List.perm_middle
    rwa [List.take_append_drop] at h

theorem enqueue_sound {s : State} (h : s.QueueSound) {i : Nat} {st : Stage} (hs : s.stage? i = some st)
    (hidle : st.state = .idle) (c : Cls) (p : Place) : (enqueue c p i s).QueueSound := by
  have hnot := h.not_mem hs (by rw [hidle]; exact fun h => by cases h)
  have hqueue : ∀ c', (enqueue c p i s).queue.get c' = if c' = c then placed s c p i else s.queue.get c' := fun c' => by
    rw [enqueue_queue, PerClass_get_set]
  refine h.change (i := i) (fun j hj => ?_) (fun c' j hj => ?_) (fun c' => ?_) fun c' => ?_
  · rw [stage?_congr (enqueue_stages c p i s), stage?_modStage_other _ _ hj]
  · rw [hqueue]
    split
    · next he => subst he; rw [(placed_perm s c' p i).mem_iff, List.mem_cons]; exact or_iff_right hj
    · exact Iff.rfl
  · rw [hqueue]
    split
    · next he => subst he; exact (placed_perm s c' p i).nodup_iff.2 (List.nodup_cons.2 ⟨hnot c', (h c').1⟩)
    · exact (h c').1
  · rw [hqueue, stage?_congr (enqueue_stages c p i s), stage?_modStage_same hs]
    split
    · next he =>
      subst he
      refine iff_of_true ((placed_perm s c' p i).mem_iff.2 (List.mem_cons_self ..)) ⟨_, rfl, ?_, ?_⟩
      · rw [refeedback_state]
      · rw [refeedback_cls]
    · next he =>
      refine iff_of_false (hnot c') ?_
      rintro ⟨st', hs', -, hc⟩
      cases hs'
      rw [refeedback_cls] at hc
      exact he (Option.some.inj hc).symm

/-- A further stage queued for an owner counts one more in its class, and no other. -/
theorem heldCount_enqueue {s : State} {i : Nat} {st : Stage} (hs : s.stage? i = some st) (hidle : st.state = .idle) (c c' : Cls)
    (p : Place) : (enqueue c p i s).heldCount st.owner c' = s.heldCount st.owner c' + if c' = c then 1 else 0 := by
  have hnot : st.heldFor st.owner c' = false := by simp [Stage.heldFor, Stage.isHeld, Stage.heating, hidle]
  have := heldCount_modStage hs (fun st => { st with state := .queued, cls := some c }) st.owner c'
  rw [hnot] at this
  have hheld : Stage.heldFor { st with state := .queued, cls := some c } st.owner c' = decide (c' = c) := by
    rw [Bool.eq_iff_iff, Stage.heldFor_iff, decide_eq_true_iff]
    exact ⟨fun h => (Option.some.inj h.2.2).symm, fun h => ⟨rfl, by simp [Stage.isHeld], by rw [h]⟩⟩
  rw [hheld] at this
  rw [heldCount_congr (enqueue_stages c p i s)]
  simpa [eq_comm] using this

/-- Filling by `k` at the back. -/
theorem fillBack_counts {o : Owner} {c : Cls} : ∀ {k : Nat} {s : State}, s.QueueSound →
    let t := fillBack o c k s
    t.QueueSound ∧ t.Handed o c (s.heldCount o c + k) ∧ ∀ c', c' ≠ c → t.heldCount o c' = s.heldCount o c'
  | 0, s, h => ⟨h, .inl rfl, fun _ _ => rfl⟩
  | k + 1, s, h => by
    have hstep : fillBack o c (k + 1) s = fillBack o c k (enqueueNext o c .back s) := rfl
    rw [hstep]
    cases hn : s.nextIdle o with
    | none =>
      rw [enqueueNext_none (nextIdle_none hn)]
      have hstays : ∀ k, fillBack o c k s = s := fun k => by
        induction k with
        | zero => rfl
        | succ k ih => rw [fillBack, enqueueNext_none (nextIdle_none hn), ih]
      rw [hstays k]
      exact ⟨h, .inr ⟨by omega, nextIdle_none hn⟩, fun _ _ => rfl⟩
    | some i =>
      obtain ⟨st, hs, rfl, hidle⟩ := nextIdle_some hn
      have hnext : enqueueNext st.owner c .back s = enqueue c .back i s := by simp only [enqueueNext, hn]
      rw [hnext]
      obtain ⟨hsound, hhanded, hother⟩ := fillBack_counts (o := st.owner) (c := c) (k := k) (enqueue_sound h hs hidle c .back)
      rw [heldCount_enqueue hs hidle, if_pos rfl, Nat.add_assoc, Nat.add_comm 1 k] at hhanded
      refine ⟨hsound, hhanded, fun c' hc => ?_⟩
      rw [hother c' hc, heldCount_enqueue hs hidle, if_neg hc, Nat.add_zero]

/-- Filling to a count not yet exceeded meets it, or leaves no IDLE stage. -/
theorem fillTo_counts {s : State} (h : s.QueueSound) (o : Owner) (c : Cls) {n : Nat} (hn : s.heldCount o c ≤ n) :
    let t := fillTo o c n s
    t.QueueSound ∧ t.Handed o c n ∧ ∀ c', c' ≠ c → t.heldCount o c' = s.heldCount o c' := by
  have := fillBack_counts (o := o) (c := c) (k := n - s.heldCount o c) h
  rwa [Nat.add_sub_cancel' hn] at this

/-- Filling with no IDLE stage left does nothing. -/
theorem fillTo_none {s : State} {o : Owner} (h : s.NoneIdle o) (c : Cls) (n : Nat) : fillTo o c n s = s := by
  unfold fillTo
  induction n - s.heldCount o c with
  | zero => rfl
  | succ k ih => rw [fillBack, enqueueNext_none h, ih]

/-- Filling one class leaves another's hand-off met. -/
theorem Handed_fillTo {s : State} (h : s.QueueSound) {o : Owner} {c c' : Cls} (hc : c' ≠ c) {n m : Nat}
    (hn : s.heldCount o c ≤ n) (hm : s.Handed o c' m) : (fillTo o c n s).Handed o c' m := by
  rcases hm with hm | ⟨hlt, hnone⟩
  · exact .inl (((fillTo_counts h o c hn).2.2 c' hc).trans hm)
  · rw [fillTo_none hnone]; exact .inr ⟨hlt, hnone⟩

/-! ### Conversion (R51) -/

theorem modStage_sound {s : State} (h : s.QueueSound) {i : Nat} {g : Stage → Stage}
    (hg : ∀ st, s.stage? i = some st → st.state ≠ .queued ∧ (g st).state ≠ .queued) : (modStage i g s).QueueSound := by
  refine h.change (i := i) (fun j hj => stage?_modStage_other _ _ hj) (fun _ _ _ => Iff.rfl) (fun c => (h c).1) fun c => ?_
  cases hs : s.stage? i with
  | none =>
    refine iff_of_false (fun hi => ?_) ?_
    · obtain ⟨st, hs', -⟩ := ((h c).2 i).1 hi
      rw [hs] at hs'; cases hs'
    · rw [stage?_modStage, if_pos rfl, hs]
      rintro ⟨st, hst, -⟩
      cases hst
  | some st =>
    refine iff_of_false (h.not_mem hs (hg st hs).1 c) ?_
    rw [stage?_modStage_same hs]
    rintro ⟨st', hst, hq, -⟩
    cases hst
    rw [refeedback_state] at hq
    exact (hg st hs).2 hq

theorem convertInPlace_sound : ∀ {l : List Nat} {k : Nat} {s : State}, s.QueueSound →
    (∀ i ∈ l, ∀ st, s.stage? i = some st → st.state ≠ .queued) → (convertInPlace k l s).2.QueueSound
  | _, 0, s, h, _ => by unfold convertInPlace; exact h
  | [], _ + 1, s, h, _ => by unfold convertInPlace; exact h
  | i :: l, k + 1, s, h, hl => by
    unfold convertInPlace
    split
    · have hi := hl i (List.mem_cons_self ..)
      refine convertInPlace_sound (modStage_sound h fun st hs => ⟨hi st hs, hi st hs⟩) fun j hj st hs => ?_
      rw [stage?_modStage] at hs
      split at hs
      · next he =>
        subst he
        obtain ⟨st', hs', rfl⟩ := Option.map_eq_some_iff.1 hs
        rw [refeedback_state]
        exact hi st' hs'
      · exact hl j (List.mem_cons_of_mem _ hj) st hs
    · exact h

theorem convertQueued_sound {s : State} (h : s.QueueSound) {i : Nat} {st : Stage} (hs : s.stage? i = some st)
    (hq : st.state = .queued) : (convertQueued i s).QueueSound := by
  have hstages : (convertQueued i s).stages = (modStage i (fun st => { st with cls := some .zone }) s).stages := rfl
  have hqueue : (convertQueued i s).queue = (queueBack .zone i (unqueue i s)).queue := rfl
  refine h.change (i := i) (fun j hj => ?_) (fun c j hj => ?_) (fun c => ?_) fun c => ?_
  · rw [stage?_congr hstages, stage?_modStage_other _ _ hj]
  · rw [hqueue, mem_queueBack, mem_unqueue, and_iff_left hj]
    exact or_iff_right fun h => hj h.2
  · rw [hqueue]
    exact queueNodup_queueBack (queueNodup_unqueue (fun c => (h c).1) i) (fun hm => (mem_unqueue.1 hm).2 rfl) c
  · rw [hqueue, mem_queueBack, mem_unqueue, stage?_congr hstages, stage?_modStage_same hs]
    constructor
    · rintro (⟨rfl, -⟩ | ⟨-, hne⟩)
      · exact ⟨_, rfl, by rw [refeedback_state]; exact hq, by rw [refeedback_cls]⟩
      · exact absurd rfl hne
    · rintro ⟨st', hst, -, hc⟩
      cases hst
      rw [refeedback_cls] at hc
      exact .inl ⟨(Option.some.inj hc).symm, rfl⟩

theorem foldl_convertQueued_sound : ∀ {l : List Nat} {s : State}, s.QueueSound →
    (∀ i ∈ l, ∃ st, s.stage? i = some st ∧ st.state = .queued) → (l.foldl (fun s i => convertQueued i s) s).QueueSound
  | [], _, h, _ => h
  | i :: l, s, h, hl => by
    obtain ⟨st, hs, hq⟩ := hl i (List.mem_cons_self ..)
    refine foldl_convertQueued_sound (s := convertQueued i s) (l := l) (convertQueued_sound h hs hq) fun j hj => ?_
    obtain ⟨st', hs', hq'⟩ := hl j (List.mem_cons_of_mem _ hj)
    have hstages : (convertQueued i s).stages = (modStage i (fun st => { st with cls := some .zone }) s).stages := rfl
    rw [stage?_congr hstages]
    by_cases hji : j = i
    · subst hji
      exact ⟨_, stage?_modStage_same hs' _, by rw [refeedback_state]; exact hq'⟩
    · exact ⟨st', by rw [stage?_modStage_other _ _ hji]; exact hs', hq'⟩

theorem convert_sound {s : State} (h : s.QueueSound) (o : Owner) (k : Nat) : (convert o k s).QueueSound := by
  have hheating : (convertInPlace k (s.bySince (s.stagesWith (fun st => st.heating && st.owner == o && st.inClass .absorb)))
      s).2.QueueSound := convertInPlace_sound h fun i hi st hs hq => by
    obtain ⟨st', hs', hp⟩ := mem_stagesWith.1 (mem_bySince.1 hi)
    rw [hs] at hs'
    cases hs'
    simp [Stage.heating, hq] at hp
  refine foldl_convertQueued_sound hheating fun i hi => ?_
  have hp := (List.mem_filter.1 (List.mem_of_mem_take hi)).2
  split at hp
  · next st hs => exact ⟨st, hs, by simp at hp; exact hp.2⟩
  · cases hp

/-! ### A zone's hand-off -/

/-- After a zone's hand-off both its counts are handed (R23, R49 to R52). -/
theorem handOffZone_handed {s : State} (h : s.QueueSound) (z : Fin 4) (count offer : Nat) :
    let t := handOffZone z count offer s
    t.Handed (.zone z) .zone count ∧ t.Handed (.zone z) .absorb offer := by
  have hza : Cls.zone ≠ .absorb := fun h => by cases h
  obtain ⟨h1, hc1, -⟩ := withdrawTo_counts (convert_sound h (.zone z) (count - s.heldCount (.zone z) .zone)) (.zone z) .zone count
  obtain ⟨h2, hz2, -⟩ := fillTo_counts h1 (.zone z) .zone (n := count) (by rw [hc1]; exact Nat.min_le_left _ _)
  have hle2 : (fillTo (.zone z) .zone count (withdrawTo (.zone z) .zone count (convert (.zone z)
      (count - s.heldCount (.zone z) .zone) s))).heldCount (.zone z) .zone ≤ count := by
    rcases hz2 with hz2 | hz2
    · exact Nat.le_of_eq hz2
    · exact Nat.le_of_lt hz2.1
  obtain ⟨h3, hc3, ho3⟩ := withdrawTo_counts h2 (.zone z) .absorb offer
  obtain ⟨h4, hz4, ho4⟩ := fillTo_counts h3 (.zone z) .zone (n := count) (by rw [ho3 _ hza]; exact hle2)
  have hle4 := ho4 .absorb hza.symm
  have hle : (fillTo (.zone z) .zone count (zoneSteps z count offer s)).heldCount (.zone z) .absorb ≤ offer := by
    refine Nat.le_trans (Nat.le_of_eq hle4) ?_
    rw [hc3]
    exact Nat.min_le_left _ _
  exact ⟨Handed_fillTo h4 hza hle hz4, (fillTo_counts h4 (.zone z) .absorb hle).2.1⟩

/-- A hand-off is read from the roles. -/
theorem Handed_of_roles {s t : State} (h : t.roles = s.roles) {o : Owner} {c : Cls} {n : Nat} (hs : s.Handed o c n) :
    t.Handed o c n := by
  unfold State.Handed at hs ⊢
  rw [heldCount_of_roles h]
  refine hs.imp_right fun ⟨hlt, hnone⟩ => ⟨hlt, fun st hst ho hidle => ?_⟩
  obtain ⟨i, hi⟩ := mem_stages_iff.1 hst
  obtain ⟨st', hs', hrole⟩ := stage?_of_roles h hi
  have howner : st'.owner = st.owner := congrArg Prod.fst hrole
  have hstate : (st'.state == .idle) = (st.state == .idle) := congrArg (fun r => r.2.2.2.1) hrole
  exact hnone st' (mem_stages_iff.2 ⟨i, hs'⟩) (howner.trans ho) (by simpa [hidle] using hstate)

end Sys2Proof.Machine
end

section
/-! The zone fans: what a demand handed on makes of the fan's record (R154, R157). -/

namespace Sys2Proof.Machine

/-! ### Fans by their name -/

theorem fan?_congr {s t : State} (h : t.fans = s.fans) (f : FanId) : t.fan? f = s.fan? f := by
  rw [State.fan?, h]; rfl

/-- A fan's record after a change that keeps its name. -/
theorem fan?_modFan (s : State) (f f' : FanId) {g : Blower → Blower} (hg : ∀ b, (g b).fan = b.fan) :
    (s.modFan f g).fan? f' = if f' = f then (s.fan? f').map g else s.fan? f' := by
  have hname : ∀ b : Blower, (if b.fan = f then g b else b).fan = b.fan := fun b => by split; exact hg b; rfl
  unfold State.fan? State.modFan
  rw [List.find?_map]
  have hfind : ((fun b : Blower => b.fan == f') ∘ fun b => if b.fan = f then g b else b) = fun b => b.fan == f' :=
    funext fun b => by simp only [Function.comp_apply, hname]
  rw [hfind]
  cases hb : s.fans.find? (fun b => b.fan == f') with
  | none => split <;> rfl
  | some b =>
    have hbf : b.fan = f' := by simpa using List.find?_some hb
    simp only [Option.map_some, hbf]
    split <;> rfl

/-! ### A commanded level (R154) -/

/-- The record of a fan whose commanded level becomes `level` (R154). -/
def Blower.commanded (now : Time) (level : Nat) (b : Blower) : Blower :=
  if b.level = level then b
  else if b.level = 0 ∧ b.state = .stopped then Blower.starting now { b with level := level }
  else if b.level ≠ 0 ∧ level = 0 then Blower.stop { b with level := level }
  else { b with level := level }

theorem Blower.commanded_level (now : Time) (level : Nat) (b : Blower) : (b.commanded now level).level = level := by
  unfold Blower.commanded
  split
  · assumption
  · split
    · rfl
    · split <;> rfl

theorem Blower.commanded_demandLevel (now : Time) (level : Nat) (b : Blower) :
    (b.commanded now level).demandLevel = b.demandLevel := by
  unfold Blower.commanded
  split
  · rfl
  · split
    · rfl
    · split <;> rfl

/-- A fan that stays on, or stays off, changes its level only. -/
theorem Blower.commanded_stays (now : Time) {level : Nat} {b : Blower} (h : b.level = 0 ↔ level = 0) :
    b.commanded now level = { b with level := level } := by
  unfold Blower.commanded
  split
  · next he => subst he; rfl
  · next hne => rw [if_neg fun hc => hne (hc.1.trans (h.1 hc.1).symm), if_neg fun hc => hc.1 (h.2 hc.2)]

theorem Blower.commanded_same (now : Time) (b : Blower) : b.commanded now b.level = b := if_pos rfl

theorem Blower.commanded_starts (now : Time) {level : Nat} {b : Blower} (hne : b.level ≠ level) (hoff : b.level = 0)
    (hs : b.state = .stopped) : b.commanded now level = Blower.starting now { b with level := level } := by
  rw [Blower.commanded, if_neg hne, if_pos ⟨hoff, hs⟩]

theorem Blower.commanded_sets (now : Time) {level : Nat} {b : Blower} (hne : b.level ≠ level)
    (hstart : ¬ (b.level = 0 ∧ b.state = .stopped)) (hstop : ¬ (b.level ≠ 0 ∧ level = 0)) :
    b.commanded now level = { b with level := level } := by
  rw [Blower.commanded, if_neg hne, if_neg hstart, if_neg hstop]

theorem Blower.commanded_stops (now : Time) {level : Nat} {b : Blower} (hon : b.level ≠ 0) (hzero : level = 0) :
    b.commanded now level = Blower.stop { b with level := level } := by
  rw [Blower.commanded, if_neg (hzero ▸ hon), if_neg fun h => hon h.1, if_pos ⟨hon, hzero⟩]

/-- The fans after a command, by their names. -/
theorem commandFan_fan? (f f' : FanId) (level : Nat) (s : State) : (commandFan f level s).fan? f' =
    if f' = f then (s.fan? f').map (Blower.commanded s.clock level) else s.fan? f' := by
  have set := fun u : State => fan?_modFan u f f' (g := fun b => { b with level := level }) fun _ => rfl
  have start := fun u : State => fan?_modFan u f f' (g := Blower.starting s.clock) fun _ => rfl
  have stop := fun u : State => fan?_modFan u f f' (g := Blower.stop) fun _ => rfl
  cases hb : s.fan? f with
  | none =>
    have hsame : commandFan f level s = s := by unfold commandFan; rw [hb]
    rw [hsame]
    split
    · next he => subst he; rw [hb]; rfl
    · rfl
  | some b =>
    unfold commandFan
    rw [hb]
    dsimp only
    by_cases hlevel : b.level = level
    · rw [if_pos hlevel]
      split
      · next he => subst he; rw [hb, ← hlevel, Option.map_some, Blower.commanded_same]
      · rfl
    · rw [if_neg hlevel]
      have hset : f' = f → Blower.commanded s.clock level b = { b with level := level } →
          (s.modFan f (fun b => { b with level := level })).fan? f' = (s.fan? f').map (Blower.commanded s.clock level) :=
        fun he hcom => by subst he; rw [set, if_pos rfl, hb, Option.map_some, Option.map_some, hcom]
      by_cases hoff : b.level = 0
      · rw [if_pos hoff]
        cases hstate : b.state with
        | stopped =>
          dsimp only
          rw [start, set]
          split
          · next he => subst he; rw [hb, Option.map_some, Option.map_some, Option.map_some, Blower.commanded_starts _ hlevel hoff hstate]
          · rfl
        | _ =>
          dsimp only
          split
          · next he => exact hset he (Blower.commanded_sets _ hlevel (fun h => by rw [hstate] at h; cases h.2) fun h => h.1 hoff)
          · next hne => rw [set, if_neg hne]
      · rw [if_neg hoff]
        by_cases hzero : level = 0
        · rw [if_pos hzero]
          have hfans : ∀ u : State, (recheck .blowerFailed u).fan? f' = u.fan? f' :=
            fun u => fan?_congr (recheck_only .blowerFailed u).fans_eq f'
          have hloss : ∀ u : State, (if b.state = .running then blowerLoss f u else u).fan? f' = u.fan? f' := fun u => by
            split
            · exact fan?_congr (blowerLoss_only f u).fans_eq f'
            · rfl
          rw [hloss, hfans, stop, set]
          split
          · next he => subst he; rw [hb, Option.map_some, Option.map_some, Option.map_some, Blower.commanded_stops _ hoff hzero]
          · rfl
        · rw [if_neg hzero]
          split
          · next he => exact hset he (Blower.commanded_sets _ hlevel (fun h => hoff h.1) fun h => hzero h.2)
          · next hne => rw [set, if_neg hne]

/-! ### A demand handed on (R157) -/

/-- The fans after a zone hands its demand on: its own follows the table, the others stand. -/
theorem handDemand_takes (z : Fin 4) (u : Nat) (s : State) : s.FanTakes (handDemand z u s) z u := by
  have set := fun f' => fan?_modFan s (.zone z) f' (g := fun b => { b with demandLevel := demandLevelAfter b.demandLevel u })
    fun _ => rfl
  have handed : ∀ f', (handDemand z u s).fan? f' = if f' = .zone z then (s.fan? f').map (fun b =>
      Blower.commanded s.clock (s.zoneFanLevel (demandLevelAfter b.demandLevel u))
        { b with demandLevel := demandLevelAfter b.demandLevel u }) else s.fan? f' := fun f' => by
    unfold handDemand rechooseZoneFan
    rw [set, if_pos rfl]
    cases hb : s.fan? (.zone z) with
    | none =>
      dsimp only [Option.map_none]
      rw [set]
      split
      · next he => subst he; rw [hb]; rfl
      · rfl
    | some b =>
      dsimp only [Option.map_some]
      rw [commandFan_fan?, set]
      split
      · next he => subst he; rw [hb]; rfl
      · rfl
  refine ⟨fun f' hf => by rw [handed, if_neg hf], fun b hb => ?_⟩
  refine ⟨_, (handed _).trans (by rw [if_pos rfl, hb]; rfl), Blower.commanded_demandLevel .., Blower.commanded_level .., fun h => ?_⟩
  exact Blower.commanded_stays s.clock h

/-- What a fan takes rests on the fans, the sharing state and VENT_ONLY as they stood. -/
theorem FanTakes_congr {s s' t t' : State} {z : Fin 4} {u : Nat} (hs : s'.fans = s.fans)
    (hsharing : s'.alloc.sharing = s.alloc.sharing) (hvent : s'.inUse = s.inUse) (ht : t'.fans = t.fans)
    (h : s.FanTakes t z u) : s'.FanTakes t' z u := by
  unfold State.FanTakes State.fan? at h ⊢
  rw [hs, hsharing, hvent, ht]
  exact h

/-! ### What a re-forming of the claims keeps of the sharing state -/

theorem recompute_sharing (s : State) : (recompute s).alloc.sharing = s.alloc.sharing := by
  unfold recompute
  dsimp only
  rw [(raiseIntents_plain _).sharing, (lowerIntents_plain _).sharing]
  split
  · rfl
  · rw [(recheck_only _ _).alloc_eq]

theorem reformClaims_sharing (s : State) : (reformClaims s).alloc.sharing = s.alloc.sharing := by
  have h : (recompute (demandDue (modOwn (fun e => { e with claims := s.claimsNow }) s))).alloc.sharing = s.alloc.sharing := by
    rw [recompute_sharing, (demandDue_only _).alloc_eq]; rfl
  unfold reformClaims
  dsimp only
  split
  · rfl
  · split
    · exact h
    · rw [(recheck_only _ _).alloc_eq]; exact h

end Sys2Proof.Machine
end

section
/-! A control-period expiry: the record of the zone it leaves, and what it hands on (R11 to R23). -/

namespace Sys2Proof.Machine

/-! ### What follows a zone's new context -/

theorem handOff_share (z : Fin 4) (a b : Zone) (s : State) : ShareOnly s (handOff z a b s) := by
  unfold handOff
  split
  · exact .refl s
  · exact (handOffZone_only _ _ _ s).toShareOnly.trans (reformClaims_only _)

theorem handOff_sharing (z : Fin 4) (a b : Zone) (s : State) : (handOff z a b s).alloc.sharing = s.alloc.sharing := by
  unfold handOff
  split
  · rfl
  · rw [reformClaims_sharing, (handOffZone_only _ _ _ s).alloc_eq]

/-- A changed count or offer is handed on. -/
theorem handOff_handed {s : State} (h : s.QueueSound) (z : Fin 4) {a b : Zone} (hne : b.wanted ≠ a.wanted ∨ b.offer ≠ a.offer) :
    (handOff z a b s).Handed (.zone z) .zone b.wanted ∧ (handOff z a b s).Handed (.zone z) .absorb b.offer := by
  have hsteps : handOff z a b s = reformClaims (handOffZone z b.wanted b.offer s) := by
    unfold handOff
    exact if_neg fun hc => hne.elim (fun h => h hc.1.symm) (fun h => h hc.2.symm)
  have hroles := (reformClaims_roles (handOffZone z b.wanted b.offer s)).roles
  obtain ⟨hzone, habsorb⟩ := handOffZone_handed h z b.wanted b.offer
  rw [hsteps]
  exact ⟨Handed_of_roles hroles hzone, Handed_of_roles hroles habsorb⟩

/-- The new context and what it hands on, before the demand. -/
def contextTaken (z : Fin 4) (before after : Zone) (s : State) : State :=
  handOff z before after (recheck .zoneSensor (s.modZone z (fun _ => after)))

theorem afterControl_eq (z : Fin 4) (before after : Zone) (s : State) : afterControl z before after s =
    if after.state = .off then contextTaken z before after s
    else handDemand z after.demand (contextTaken z before after s) := rfl

theorem contextTaken_frame (z : Fin 4) (before after : Zone) (s : State) : ∃ st q a al v l c,
    contextTaken z before after s = { s.modZone z (fun _ => after) with
      stages := st, queue := q, attemptDue := a, alloc := al, view := v, link := l, cond := c } := by
  obtain ⟨l0, c0, hrecheck⟩ := recheck_only .zoneSensor (s.modZone z (fun _ => after))
  obtain ⟨st, q, a, al, v, l, c, hhand⟩ := handOff_share z before after (recheck .zoneSensor (s.modZone z (fun _ => after)))
  unfold contextTaken
  rw [hrecheck] at hhand ⊢
  exact ⟨st, q, a, al, v, l, c, hhand⟩

theorem afterControl_frame (z : Fin 4) (before after : Zone) (s : State) : ∃ st q a al v l c f,
    afterControl z before after s = { s.modZone z (fun _ => after) with
      stages := st, queue := q, attemptDue := a, alloc := al, view := v, link := l, cond := c, fans := f } := by
  obtain ⟨st, q, a, al, v, l, c, hctx⟩ := contextTaken_frame z before after s
  rw [afterControl_eq]
  split
  · exact ⟨st, q, a, al, v, l, c, s.fans, hctx⟩
  · obtain ⟨st', q', a', f, l', c', hdemand⟩ := handDemand_only z after.demand (contextTaken z before after s)
    rw [hctx] at hdemand ⊢
    exact ⟨st', q', a', al, v, l', c', f, hdemand⟩

/-- The fans of a step that leaves the zone in OFF stand. -/
theorem afterControl_fans_off {after : Zone} (h : after.state = .off) (z : Fin 4) (before : Zone) (s : State) :
    (afterControl z before after s).fans = s.fans := by
  obtain ⟨st, q, a, al, v, l, c, hctx⟩ := contextTaken_frame z before after s
  rw [afterControl_eq, if_pos h, hctx]
  rfl

/-- The demand of a zone not in OFF sets its fan. -/
theorem afterControl_takes {after : Zone} (h : after.state ≠ .off) (z : Fin 4) (before : Zone) (s : State) :
    s.FanTakes (afterControl z before after s) z after.demand := by
  obtain ⟨st, q, a, al, v, l, c, hctx⟩ := contextTaken_frame z before after s
  have hsharing : (contextTaken z before after s).alloc.sharing = s.alloc.sharing := by
    unfold contextTaken
    rw [handOff_sharing, (recheck_only _ _).alloc_eq]; rfl
  rw [afterControl_eq, if_neg h]
  exact FanTakes_congr (by rw [hctx]; rfl) hsharing.symm (by rw [hctx]; rfl) rfl (handDemand_takes z after.demand _)

theorem afterControl_handed {s : State} (h : s.QueueSound) (z : Fin 4) {before after : Zone}
    (hne : after.wanted ≠ before.wanted ∨ after.offer ≠ before.offer) :
    let t := afterControl z before after s
    t.Handed (.zone z) .zone after.wanted ∧ t.Handed (.zone z) .absorb after.offer := by
  have hctx : (recheck .zoneSensor (s.modZone z (fun _ => after))).QueueSound :=
    queueSound_congr (recheck_only _ _).stages_eq (recheck_only _ _).queue_eq (queueSound_congr (s := s) rfl rfl h)
  have hhanded := handOff_handed hctx z hne
  rw [afterControl_eq]
  split
  · exact hhanded
  · have hroles := (handDemand_roles z after.demand (contextTaken z before after s)).roles
    exact ⟨Handed_of_roles hroles hhanded.1, Handed_of_roles hroles hhanded.2⟩

/-! ### The whole step -/

/-- What one control-period expiry leaves: the zone's new record, its fan, its hand-offs, and all else that stands. -/
structure ControlLeaves (s : State) (z : Fin 4) (before after : Zone) (t : State) : Prop where
  zone : t.zone? z = some after
  fans : after.state = .off → t.fans = s.fans
  takes : after.state ≠ .off → s.FanTakes t z after.demand
  handed : s.QueueSound → (after.wanted ≠ before.wanted ∨ after.offer ≠ before.offer) →
    t.Handed (.zone z) .zone after.wanted ∧ t.Handed (.zone z) .absorb after.offer
  others : ∀ y, y ≠ z → t.zone? y = s.zone? y
  rest : { t with
    clock := s.clock, zones := s.zones, stages := s.stages, queue := s.queue, pacing := s.pacing, seq := s.seq,
    alloc := s.alloc, view := s.view, link := s.link, fans := s.fans, cond := s.cond, outputs := s.outputs } = s

theorem controlPeriod_leaves {s : State} {z : Fin 4} {e : Time} {r : Zone} {g : ZoneCfg} (hs : s.Ready) (hz : s.zone? z = some r)
    (hg : s.zoneCfg? z = some g) (he : r.control = .running e) :
    ∃ t, exec (.controlPeriodExpiry z) s = .next t
      ∧ ControlLeaves s z r ((advanceTo e s).controlled z g r) t := by
  have hexec : exec (.controlPeriodExpiry z) s = .next (finish (controlExpiry z (advanceTo e s))) := by
    refine Eq.trans ?_ (atExpiry_running e (controlExpiry z) s hs.running)
    rw [← he, ← zoneTimer_of_zone? Zone.control hz]
    rfl
  refine ⟨_, hexec, ?_⟩
  obtain ⟨now, hnow⟩ := advanceTo_eq e s
  rw [hnow]
  have hcontrol : controlExpiry z { s with clock := now }
      = afterControl z r (State.controlled { s with clock := now } z g r) { s with clock := now } := by
    unfold controlExpiry
    rw [show State.zone? { s with clock := now } z = some r from hz, show State.zoneCfg? { s with clock := now } z = some g from hg]
  rw [hcontrol]
  generalize State.controlled { s with clock := now } z g r = after
  have hroles := (finish_roles (afterControl z r after { s with clock := now })).roles
  obtain ⟨st, q, a, al, v, l, c, f, hafter⟩ := afterControl_frame z r after { s with clock := now }
  obtain ⟨st', q', p', n', v', l', o', hfinish⟩ := finish_frame (afterControl z r after { s with clock := now })
  have hfans : (finish (afterControl z r after { s with clock := now })).fans
      = (afterControl z r after { s with clock := now }).fans := by rw [hfinish]
  refine ⟨?_, fun hoff => ?_, fun hon => ?_, fun hq hne => ?_, fun y hy => ?_, ?_⟩
  · rw [hfinish, hafter]
    exact (zone?_modZone_same s z fun _ => after).trans (by rw [hz]; rfl)
  · exact hfans.trans (afterControl_fans_off hoff z r { s with clock := now })
  · exact FanTakes_congr (s := { s with clock := now }) rfl rfl rfl hfans (afterControl_takes hon z r _)
  · have hhanded := afterControl_handed (s := { s with clock := now }) hq z hne
    exact ⟨Handed_of_roles hroles hhanded.1, Handed_of_roles hroles hhanded.2⟩
  · rw [hfinish, hafter]
    exact zone?_modZone_other s (fun _ => after) hy
  · rw [hfinish, hafter]
    have hsettled : ({ s with attemptDue := false } : State) = s := by cases s; cases hs.settled; rfl
    exact hsettled

/-! ### An expiry that forms no error -/

/-- The computation without a measurement: the demand stands at the fallback demand or at 0, and nothing is offered. -/
theorem control_of_none {s : State} {z : Fin 4} {g : ZoneCfg} {r : Zone} (sum : Nat) (h : r.regulated = none) :
    s.control z g r sum = { r with
      limited := s.powerLimited z r.wanted g.size, demand := if r.state = .fallback then g.fallback else 0
      wanted := ecoCap s.inUse.flags.eco r.avail (hysteresis r.avail (if r.state = .fallback then g.fallback else 0) r.wanted)
      offer := 0 } := by
  have hr : Zone.regulated { r with limited := s.powerLimited z r.wanted g.size } = none := h
  unfold State.control
  simp only [hr]

theorem controlled_off {s : State} {z : Fin 4} {g : ZoneCfg} {r : Zone} (h : r.stateTaken s.inUse.flags.ventOnly = .off) :
    s.controlled z g r = s.prepared g r := by
  rw [controlled_eq, if_pos (by rw [prepared_eq]; exact h)]

theorem controlled_on {s : State} {z : Fin 4} {g : ZoneCfg} {r : Zone} (h : r.stateTaken s.inUse.flags.ventOnly ≠ .off) :
    s.controlled z g r = s.control z g (s.prepared g r) ((r.drafts.map s.contribution).sum) := by
  have hsum : s.draftSum ((r.returnStep.leaveOff s.inUse.flags.ventOnly).transfer g.base) = (r.drafts.map s.contribution).sum := by
    rw [leaveOff_eq, returnStep_eq]; rfl
  rw [controlled_eq, if_neg (by rw [prepared_eq]; exact h), hsum]

theorem controlled_state (s : State) (z : Fin 4) (g : ZoneCfg) (r : Zone) :
    (s.controlled z g r).state = r.stateTaken s.inUse.flags.ventOnly := by
  have hprepared : (s.prepared g r).state = r.stateTaken s.inUse.flags.ventOnly := by rw [prepared_eq]
  rw [controlled_eq]
  split
  · exact hprepared
  · exact hprepared

theorem Zone.stateTaken_on {r : Zone} (h : r.state ≠ .off) (ventOnly : Bool) :
    r.stateTaken ventOnly = if r.returnPending then .regulating else r.state := if_neg h

theorem Zone.stateTaken_off {r : Zone} (h : r.state = .off) (ventOnly : Bool) :
    r.stateTaken ventOnly = if ventOnly then .off else r.standing := if_pos h

theorem Zone.standing_ne_off (r : Zone) : r.standing ≠ .off := by
  unfold Zone.standing
  split
  · exact fun h => by cases h
  · split <;> exact fun h => by cases h

/-- The record of a zone that computes without a measurement. -/
theorem controlled_of_none {s : State} {g : ZoneCfg} {r : Zone} (z : Fin 4) {st : ZoneState}
    (hst : r.stateTaken s.inUse.flags.ventOnly = st) (hon : st ≠ .off)
    (hnone : Zone.regulated { r with state := st } = none) {u : Nat} (hu : (if st = .fallback then g.fallback else 0) = u) :
    s.controlled z g r = { s.prepared g r with
      limited := s.powerLimited z r.wanted g.size, demand := u
      wanted := ecoCap s.inUse.flags.eco r.avail (hysteresis r.avail u r.wanted), offer := 0 } := by
  subst hu
  have hbase := prepared_eq s g r
  rw [hst] at hbase
  have hreg : (s.prepared g r).regulated = none := by rw [hbase]; exact hnone
  rw [controlled_on (by rw [hst]; exact hon), control_of_none _ hreg, hbase]

/-- Settles O12: each form without an error, read off the record the zone computes. -/
theorem controlExpiryWithoutAnError : Obligations.ControlExpiryWithoutAnError := by
  intro s z e r g hs hz hg he
  dsimp only
  obtain ⟨t, hexec, hleaves⟩ := controlPeriod_leaves hs hz hg he
  obtain ⟨now, hnow⟩ := advanceTo_eq e s
  rw [hnow] at hleaves ⊢
  have hstate := controlled_state { s with clock := now } z g r
  have hbase := prepared_eq { s with clock := now } g r
  rw [he] at hbase
  dsimp only at hbase
  refine ⟨fun hfall hret => ?_, fun hreg hnone => ?_, fun hoff hvent => ?_, fun hoff hvent => ?_⟩
  · have htaken : r.stateTaken s.inUse.flags.ventOnly = .fallback := by
      rw [Zone.stateTaken_on (by rw [hfall]; exact fun h => by cases h), hret, hfall]; rfl
    have hafter := controlled_of_none (s := { s with clock := now }) (g := g) z htaken (fun h => by cases h) rfl
      (u := g.fallback) rfl
    rw [hbase, htaken, ← hfall] at hafter
    rw [hafter] at hleaves
    exact ⟨t, hexec, hleaves.zone, ⟨hleaves.takes (by rw [hfall]; exact fun h => by cases h), hleaves.handed⟩,
      hleaves.others, hleaves.rest⟩
  · have htaken : r.stateTaken s.inUse.flags.ventOnly = .regulating := by
      rw [Zone.stateTaken_on (by rw [hreg]; exact fun h => by cases h), hreg, ite_self]
    have hafter := controlled_of_none (s := { s with clock := now }) (g := g) z htaken (fun h => by cases h) hnone
      (u := 0) rfl
    rw [hbase, htaken, ← hreg] at hafter
    rw [hafter] at hleaves
    exact ⟨t, hexec, hleaves.zone, ⟨hleaves.takes (by rw [hreg]; exact fun h => by cases h), hleaves.handed⟩,
      hleaves.others, hleaves.rest⟩
  · have htaken : r.stateTaken s.inUse.flags.ventOnly = .off := by rw [Zone.stateTaken_off hoff, hvent]; rfl
    rw [controlled_off (s := { s with clock := now }) htaken, hbase, htaken, ← hoff] at hleaves
    exact ⟨t, hexec, hleaves.zone, hleaves.fans hoff, hleaves.others, hleaves.rest⟩
  · have htaken : r.stateTaken s.inUse.flags.ventOnly = r.standing := by rw [Zone.stateTaken_off hoff, hvent]; rfl
    have hon : (State.controlled { s with clock := now } z g r).state ≠ .off := by
      rw [hstate, htaken]; exact r.standing_ne_off
    exact ⟨t, _, hexec, hleaves.zone, ⟨hleaves.takes hon, hleaves.handed⟩, ⟨hleaves.others, hleaves.rest⟩, hstate.trans htaken⟩

end Sys2Proof.Machine
end

section
/-! The full computation: its terms, its integral and its demand, as R13 to R18 spell them. -/

namespace Sys2Proof.Machine

/-! ### Clamps -/

theorem capNat_eq_min (hi x : Nat) : capNat hi x = min hi x := by
  unfold capNat
  split <;> omega

/-- A clamp to bounds that are not negative, as a natural number. -/
theorem clampInt_toNat {lo hi : Int} (hlo : 0 ≤ lo) (h : lo ≤ hi) (x : Int) : ((clampInt lo hi x).toNat : Int) = clampInt lo hi x := by
  apply Int.toNat_of_nonneg
  unfold clampInt
  split
  · exact hlo
  · split <;> omega

theorem clampDemand_cast (u : Int) : (clampDemand u : Int) = clampInt 0 1000 u := clampInt_toNat (by decide) (by decide) u

theorem integralStep_cast (integral ki : Nat) (e : Int) :
    (integralStep integral ki e : Int) = clampInt 0 16000 (integral + ki * e) := clampInt_toNat (by decide) (by decide) _

/-! ### The integral (R17) -/

theorem skipsIntegral_iff {s : State} {z : Fin 4} {r : Zone} {e ua : Int} : s.skipsIntegral z r e ua = true ↔
    (∃ d ∈ r.drafts, d.origin = .loc ∧ d.state = .opened)
    ∨ (∃ st ∈ s.stages, st.owner = .zone z ∧ st.cls = some .absorb ∧ (st.state = .energized ∨ st.state = .suspended))
    ∨ s.fanRunning (.zone z) = false ∨ (0 < e ∧ (1000 ≤ ua ∨ r.limited = true)) ∨ (e < 0 ∧ ua ≤ 0) := by
  simp only [State.skipsIntegral, Bool.or_eq_true, List.any_eq_true, Bool.and_eq_true, beq_iff_eq, Bool.not_eq_true',
    decide_eq_true_eq, or_assoc, Stage.inClass, Stage.heating_iff]
  refine or_congr Iff.rfl (or_congr ?_ Iff.rfl)
  constructor
  · rintro ⟨st, hst, ⟨hheating, ho⟩, hc⟩
    exact ⟨st, hst, ho, hc, hheating⟩
  · rintro ⟨st, hst, ho, hc, hheating⟩
    exact ⟨st, hst, ⟨hheating, ho⟩, hc⟩

/-- A local door is open in a draft list as long as it is in the pruned list. -/
theorem localOpen_prune (now : Time) (l : List Draft) :
    (∃ d ∈ l.filter (fun d => !d.runOut now), d.origin = .loc ∧ d.state = .opened)
      ↔ ∃ d ∈ l, d.origin = .loc ∧ d.state = .opened := by
  constructor
  · rintro ⟨d, hd, h⟩
    exact ⟨d, (List.mem_filter.1 hd).1, h⟩
  · rintro ⟨d, hd, ho, hs⟩
    exact ⟨d, List.mem_filter.2 ⟨hd, by simp [Draft.runOut, hs]⟩, ho, hs⟩

theorem freshFraction_eq (s : State) : s.freshFraction =
    if s.damper.state = .tracking then s.damper.position * 1000 / s.config.fullCount else 1000 := by
  unfold State.freshFraction
  cases s.damper.state <;> rfl

/-! ### The full computation -/

/-- The computation on a measurement. -/
theorem control_of_some {s : State} {z : Fin 4} {g : ZoneCfg} {r : Zone} (sum : Nat) {m : Int} (h : r.regulated = some m) :
    let r1 := { r with limited := s.powerLimited z r.wanted g.size }
    let out := s.regulate z g r1 sum m
    let wanted := ecoCap s.inUse.flags.eco r.avail (hysteresis r.avail out.2 r.wanted)
    s.control z g r sum =
      { r1 with integral := out.1, demand := out.2, wanted := wanted, offer := s.absorbOffer r1 wanted m } := by
  have hr : Zone.regulated { r with limited := s.powerLimited z r.wanted g.size } = some m := h
  unfold State.control
  simp only [hr]

/-- What the full computation reads of its integral and its demand (R13 to R18). -/
theorem regulate_reads (s : State) (z : Fin 4) (g : ZoneCfg) (r : Zone) (sum : Nat) (m : Int) :
    let err := clampInt (-200) 200 (r.setpoint - m)
    let p : Int := g.kp * err
    let ff := min 500 (s.freshFraction * (r.setpoint - s.view.agreed).toNat * g.kf / 10000)
    let fd := min 400 sum
    let ua : Int := p + (r.integral / 16 + ff + fd : Nat)
    let out := s.regulate z g r sum m
    (s.skipsIntegral z r err ua = true → out.1 = r.integral)
    ∧ (s.skipsIntegral z r err ua ≠ true → (out.1 : Int) = clampInt 0 16000 (r.integral + g.ki * err))
    ∧ (out.2 : Int) = clampInt 0 1000 (p + (out.1 / 16 + ff + fd : Nat)) := by
  simp only [← capNat_eq_min]
  exact ⟨fun h => if_pos h, fun h => (congrArg Nat.cast (if_neg h)).trans (integralStep_cast _ _ _), clampDemand_cast _⟩

/-- Settles O11: the record of the zone is the control computation's, and its terms are those of R13 to R18. -/
theorem controlExpiryRegulates : Obligations.ControlExpiryRegulates := by
  intro s z e r g m hs hz hg he hm hstate
  obtain ⟨t, hexec, hleaves⟩ := controlPeriod_leaves hs hz hg he
  obtain ⟨now, hnow⟩ := advanceTo_eq e s
  dsimp only
  rw [hnow] at hleaves ⊢
  have htaken : r.stateTaken s.inUse.flags.ventOnly = if r.returnPending then .regulating else r.state :=
    Zone.stateTaken_on (by rintro hoff; rcases hstate with h | h | h <;> simp [hoff] at h) _
  have hon : (if r.returnPending then ZoneState.regulating else r.state) ≠ .off
      ∧ Zone.regulated { r with state := if r.returnPending then .regulating else r.state } = some m := by
    split
    · exact ⟨(fun h => by cases h), hm⟩
    · next hret =>
      rcases hstate with h | h | ⟨-, h⟩
      · simp only [h]; exact ⟨(fun h => by cases h), hm⟩
      · simp only [h]; exact ⟨(fun h => by cases h), hm⟩
      · exact absurd h hret
  obtain ⟨hon, hregulated⟩ := hon
  have hbase := prepared_eq { s with clock := now } g r
  rw [he] at hbase
  dsimp only at hbase
  rw [htaken] at hbase
  have hreads := regulate_reads { s with clock := now } z g
    { State.prepared { s with clock := now } g r with limited := State.powerLimited { s with clock := now } z r.wanted g.size }
    ((r.drafts.map (State.contribution { s with clock := now })).sum) m
  rw [hbase] at hreads
  simp only [skipsIntegral_iff, localOpen_prune, freshFraction_eq, ne_eq] at hreads
  obtain ⟨hskip, hstep, hdemand⟩ := hreads
  have hafter := controlled_on (s := { s with clock := now }) (z := z) (g := g) (r := r) (by rw [htaken]; exact hon)
  rw [control_of_some (s := { s with clock := now }) _ (m := m) (by rw [hbase]; exact hregulated), hbase] at hafter
  rw [hafter] at hleaves
  exact ⟨t, _, _, _, _, hexec, hleaves.zone, hskip, hstep, hdemand, rfl, rfl, hleaves.takes hon, hleaves.handed,
    hleaves.others, hleaves.rest⟩

end Sys2Proof.Machine
end

section
/-! A FAULTY stage stands through the rest of its step, and the replacement keeps its place in the queue (R63, R64). -/

namespace Sys2Proof.Machine

/-! ### A FAULTY stage stands -/

/-- The stage at the index is `x`, FAULTY, and in no queue. -/
structure State.StandsFaulty (s : State) (i : Nat) (x : Stage) : Prop where
  stage : s.stage? i = some x
  faulty : x.state = .faulty
  unlined : ∀ c, i ∉ s.queue.get c

section
variable {s t : State} {i : Nat} {x : Stage}

theorem State.StandsFaulty.congr (h : s.StandsFaulty i x) (hs : t.stages = s.stages) (hq : t.queue = s.queue) : t.StandsFaulty i x :=
  ⟨(stage?_congr hs i).trans h.stage, h.faulty, fun c => by rw [hq]; exact h.unlined c⟩

/-- A change elsewhere in the stage table, where no queue gains the index. -/
theorem State.StandsFaulty.step (h : s.StandsFaulty i x) (hs : t.stage? i = s.stage? i)
    (hq : ∀ c, i ∈ t.queue.get c → i ∈ s.queue.get c) : t.StandsFaulty i x :=
  ⟨hs.trans h.stage, h.faulty, fun c hc => h.unlined c (hq c hc)⟩

theorem State.StandsFaulty.modStage (h : s.StandsFaulty i x) {j : Nat} (hj : i ≠ j) (g : Stage → Stage) :
    (modStage j g s).StandsFaulty i x := h.step (stage?_modStage_other g s hj) fun _ hc => hc

/-- The index names no stage that a test for other states selects. -/
theorem State.StandsFaulty.ne_of_stage (h : s.StandsFaulty i x) {j : Nat} {st : Stage} (hs : s.stage? j = some st)
    (hst : st.state ≠ .faulty) : i ≠ j := by
  rintro rfl
  rw [h.stage] at hs
  cases hs
  exact hst h.faulty

theorem State.StandsFaulty.not_mem_stagesWith (h : s.StandsFaulty i x) {p : Stage → Bool} (hp : p x = false) :
    i ∉ s.stagesWith p := fun hi => by
  obtain ⟨st, hs, hpst⟩ := mem_stagesWith.1 hi
  rw [h.stage] at hs
  cases hs
  rw [hp] at hpst
  cases hpst

theorem foldl_modStage_stands (g : Stage → Stage) : ∀ {l : List Nat} {s : State}, s.StandsFaulty i x → i ∉ l →
    (l.foldl (fun s j => modStage j g s) s).StandsFaulty i x
  | [], _, h, _ => h
  | _ :: l, _, h, hi => foldl_modStage_stands g (l := l) (h.modStage (fun he => hi (he ▸ List.mem_cons_self ..)) g)
      fun hl => hi (List.mem_cons_of_mem _ hl)

theorem foldl_queueFront_stands (group : Cls → List Nat) (hg : ∀ c, i ∉ group c) : ∀ {l : List Cls} {s : State},
    s.StandsFaulty i x → (l.foldl (fun s c => queueFront c (group c) s) s).StandsFaulty i x
  | [], _, h => h
  | c :: l, s, h => foldl_queueFront_stands group hg (l := l) (s := queueFront c (group c) s) (h.step rfl fun c' hc => by
      rcases mem_queueFront.1 hc with ⟨-, hc⟩ | hc
      · exact absurd hc (hg c)
      · exact hc)

theorem takeOff_stands (h : s.StandsFaulty i x) {victims : List Nat} (hi : i ∉ victims) : (takeOff victims s).StandsFaulty i x := by
  refine foldl_queueFront_stands _ (fun c hc => hi ?_) (foldl_modStage_stands Stage.toQueued h hi)
  simpa using (Bool.and_eq_true_iff.1 (List.mem_filter.1 hc).2).1

theorem cut_stands (h : s.StandsFaulty i x) (c : Cls) : (cut c s).StandsFaulty i x := by
  refine takeOff_stands h fun hi => ?_
  rcases List.mem_append.1 (mem_of_mem_cutVictims hi) with hi | hi
  · exact h.not_mem_stagesWith (by simp [h.faulty]) (mem_bySince.1 hi)
  · exact h.not_mem_stagesWith (by simp [h.faulty]) (mem_bySince.1 hi)

theorem lowerIntents_stands (h : s.StandsFaulty i x) : (lowerIntents s).StandsFaulty i x := by
  have cuts : ∀ (p q : PerClass Nat) (l : List Cls) (s : State), s.StandsFaulty i x →
      (l.foldl (fun s c => if p.get c < q.get c then cut c s else s) s).StandsFaulty i x := by
    intro p q l
    induction l with
    | nil => exact fun s h => h
    | cons c l ih =>
      intro s h
      refine ih (if p.get c < q.get c then cut c s else s) ?_
      split
      · exact cut_stands h c
      · exact h
  have start : ∀ (u : State) (p : PerClass Nat), u.stages = s.stages → u.queue = s.queue → (setUsable p u).StandsFaulty i x :=
    fun u p hs hq => h.congr hs hq
  have demand : ∀ u : State, u.StandsFaulty i x → (demandDue u).StandsFaulty i x := fun u hu =>
    hu.congr (demandDue_only u).stages_eq ((demandDue_only u).queue_eq)
  unfold lowerIntents
  dsimp only
  split
  · exact cuts _ _ _ _ (start _ _ rfl rfl)
  · exact demand _ (cuts _ _ _ _ (start _ _ rfl rfl))

theorem raiseIntents_stands (h : s.StandsFaulty i x) : (raiseIntents s).StandsFaulty i x := by
  unfold raiseIntents
  dsimp only
  split
  · exact h
  · exact h.congr (demandDue_only _).stages_eq (demandDue_only _).queue_eq

theorem recheck_stands (h : s.StandsFaulty i x) (c : Condition) : (recheck c s).StandsFaulty i x :=
  h.congr (recheck_only c s).stages_eq (recheck_only c s).queue_eq

theorem recompute_stands (h : s.StandsFaulty i x) : (recompute s).StandsFaulty i x := by
  unfold recompute
  dsimp only
  refine raiseIntents_stands (lowerIntents_stands ?_)
  split
  · exact h.congr rfl rfl
  · exact h.congr (recheck_only _ _).stages_eq (recheck_only _ _).queue_eq

theorem reformClaims_stands (h : s.StandsFaulty i x) : (reformClaims s).StandsFaulty i x := by
  have formed : (recompute (demandDue (modOwn (fun e => { e with claims := s.claimsNow }) s))).StandsFaulty i x :=
    recompute_stands (h.congr (demandDue_only _).stages_eq (demandDue_only _).queue_eq)
  unfold reformClaims
  dsimp only
  split
  · exact h
  · split
    · exact formed
    · exact recheck_stands formed _

theorem withdraw_stands (h : s.StandsFaulty i x) {j : Nat} (hj : i ≠ j) : (withdraw j s).StandsFaulty i x :=
  h.step (by rw [stage?_congr (withdraw_stages j s), stage?_modStage_other _ _ hj]) fun c hc => by
    rw [withdraw_queue] at hc
    exact (mem_unqueue.1 hc).1

theorem foldl_withdraw_stands : ∀ {l : List Nat} {s : State}, s.StandsFaulty i x → i ∉ l →
    (l.foldl (fun s j => withdraw j s) s).StandsFaulty i x
  | [], _, h, _ => h
  | _ :: l, _, h, hi => foldl_withdraw_stands (l := l) (withdraw_stands h fun he => hi (he ▸ List.mem_cons_self ..))
      fun hl => hi (List.mem_cons_of_mem _ hl)

theorem withdrawTo_stands (h : s.StandsFaulty i x) (o : Owner) (c : Cls) (n : Nat) : (withdrawTo o c n s).StandsFaulty i x := by
  refine foldl_withdraw_stands h fun hi => ?_
  rcases List.mem_append.1 (List.mem_of_mem_take hi) with hi | hi
  · rcases List.mem_append.1 hi with hi | hi
    · exact h.unlined c (List.mem_reverse.1 (List.mem_filter.1 hi).1)
    · exact h.not_mem_stagesWith (by simp [h.faulty]) (mem_bySince.1 hi)
  · exact h.not_mem_stagesWith (by simp [h.faulty]) (mem_bySince.1 hi)

theorem enqueue_stands (h : s.StandsFaulty i x) {j : Nat} (hj : i ≠ j) (c : Cls) (p : Place) :
    (enqueue c p j s).StandsFaulty i x :=
  h.step (by rw [stage?_congr (enqueue_stages c p j s), stage?_modStage_other _ _ hj]) fun c' hc => by
    rw [enqueue_queue, PerClass_get_set] at hc
    split at hc
    · next he => subst he; exact (List.mem_cons.1 ((placed_perm s c' p j).mem_iff.1 hc)).resolve_left hj
    · exact hc

theorem enqueueNext_stands (h : s.StandsFaulty i x) (o : Owner) (c : Cls) (p : Place) : (enqueueNext o c p s).StandsFaulty i x := by
  unfold enqueueNext
  split
  · next j hj =>
    obtain ⟨st, hs, -, hidle⟩ := nextIdle_some hj
    exact enqueue_stands h (h.ne_of_stage hs (by rw [hidle]; exact fun h => by cases h)) c p
  · exact h

theorem fillBack_stands (o : Owner) (c : Cls) : ∀ {k : Nat} {s : State}, s.StandsFaulty i x → (fillBack o c k s).StandsFaulty i x
  | 0, _, h => h
  | k + 1, s, h => fillBack_stands o c (k := k) (s := enqueueNext o c .back s) (enqueueNext_stands h o c .back)

theorem fillTo_stands (h : s.StandsFaulty i x) (o : Owner) (c : Cls) (n : Nat) : (fillTo o c n s).StandsFaulty i x :=
  fillBack_stands o c h

theorem refill_stands (h : s.StandsFaulty i x) (o : Owner) (c : Cls) (n : Nat) (first : Option (Cls × Place)) :
    (refill o c n first s).StandsFaulty i x := by
  unfold refill
  split
  · split
    · exact fillTo_stands (enqueueNext_stands h _ _ _) _ _ _
    · exact fillTo_stands h _ _ _
  · exact fillTo_stands h _ _ _

end

/-! ### The attempt at the end of a step -/

/-- What an attempt can be: nothing, the resumption of a SUSPENDED stage, or the admission of a QUEUED one (R54). -/
inductive AttemptDoes (s t : State) : Prop
  | nothing (h : t = s)
  | resumes (i : Nat) (st : Stage) (active : s.alloc.sharing = .active) (hs : s.stage? i = some st) (hst : st.state = .suspended)
      (h : t = resume i s)
  | admits (i : Nat) (st : Stage) (active : s.alloc.sharing = .active) (hs : s.stage? i = some st) (hst : st.state = .queued)
      (h : t = admitStage i s)

theorem admissionAttempt_does (s : State) : AttemptDoes s (admissionAttempt s) := by
  unfold admissionAttempt
  split
  · next hactive =>
    split
    · next i hi =>
      obtain ⟨st, hs, hst⟩ := firstSuspended_held hi
      exact .resumes i st hactive.1 hs hst rfl
    · split
      · next i hi =>
        obtain ⟨st, hs, hst⟩ := firstAdmissible_queued hi
        exact .admits i st hactive.1 hs hst rfl
      · exact .nothing rfl
  · exact .nothing rfl

/-- The closing of a step is an attempt, as far as stages and queue go. -/
theorem finish_attempts (s : State) : ∃ u, u.stages = s.stages ∧ u.queue = s.queue ∧ u.alloc = s.alloc
    ∧ ∃ v, AttemptDoes u v ∧ (finish s).stages = v.stages ∧ (finish s).queue = v.queue := by
  have hfinish : (finish s).stages = (payAttempt s).stages ∧ (finish s).queue = (payAttempt s).queue := ⟨rfl, rfl⟩
  by_cases hdue : s.attemptDue = true
  · have hpay : payAttempt s = admissionAttempt (noteDraw { s with attemptDue := false }) := by
      unfold payAttempt; rw [if_pos hdue]
    rw [hpay] at hfinish
    exact ⟨noteDraw { s with attemptDue := false }, rfl, rfl, rfl, _, admissionAttempt_does _, hfinish⟩
  · have hpay : payAttempt s = s := payAttempt_none s (by simpa using hdue)
    rw [hpay] at hfinish
    exact ⟨s, rfl, rfl, rfl, s, .nothing rfl, hfinish⟩

theorem resume_stages (i : Nat) (s : State) : (resume i s).stages = (modStage i (Stage.resumed s.clock s.sliceMs) s).stages := rfl

theorem admitStage_stages (i : Nat) (s : State) :
    (admitStage i s).stages = (modStage i (Stage.admitted s.clock s.sliceMs) s).stages := rfl

theorem admitStage_queue (i : Nat) (s : State) (c : Cls) :
    (admitStage i s).queue.get c = (s.queue.get c).filter (fun j => j != i) := PerClass_get_map _ _ _

theorem finish_stands {s : State} {i : Nat} {x : Stage} (h : s.StandsFaulty i x) : (finish s).StandsFaulty i x := by
  obtain ⟨u, hs, hq, -, v, hdoes, hfs, hfq⟩ := finish_attempts s
  have hu := h.congr hs hq
  refine State.StandsFaulty.congr ?_ hfs hfq
  rcases hdoes with hv | ⟨j, st, -, hj, hst, hv⟩ | ⟨j, st, -, hj, hst, hv⟩
  · exact hv ▸ hu
  · subst hv
    have hne := hu.ne_of_stage hj (by rw [hst]; exact fun h => by cases h)
    exact hu.step (by rw [stage?_congr (resume_stages j u), stage?_modStage_other _ _ hne]) fun _ hc => hc
  · subst hv
    have hne := hu.ne_of_stage hj (by rw [hst]; exact fun h => by cases h)
    refine hu.step (by rw [stage?_congr (admitStage_stages j u), stage?_modStage_other _ _ hne]) fun c hc => ?_
    rw [admitStage_queue] at hc
    exact (List.mem_filter.1 hc).1

/-! ### A stage that replaces another -/

/-- The stage at the index waits in the class, whose queue is `q`. -/
structure State.Waits (s : State) (c : Cls) (j : Nat) (q : List Nat) : Prop where
  queue : s.queue.get c = q
  stage : ∃ st, s.stage? j = some st ∧ st.cls = some c ∧ st.state = .queued

theorem enqueue_waits {s : State} {j : Nat} {st : Stage} (hs : s.stage? j = some st) (c : Cls) (p : Place) :
    (enqueue c p j s).Waits c j (placed s c p j) := by
  have hstage := (stage?_congr (enqueue_stages c p j s) j).trans (stage?_modStage_same hs _)
  exact ⟨by rw [enqueue_queue, PerClass_get_set, if_pos rfl], _, hstage, refeedback_cls .., refeedback_state ..⟩

theorem State.Waits.congr {s t : State} {c : Cls} {j : Nat} {q : List Nat} (h : s.Waits c j q) (hs : t.stages = s.stages)
    (hq : t.queue = s.queue) : t.Waits c j q :=
  ⟨by rw [hq]; exact h.queue, by rw [stage?_congr hs]; exact h.stage⟩

/-- Filling another class leaves a waiting stage and its queue. -/
theorem fillBack_waits {o : Owner} {c c' : Cls} (hc : c' ≠ c) {j : Nat} {q : List Nat} : ∀ {k : Nat} {s : State},
    s.Waits c j q → (fillBack o c' k s).Waits c j q
  | 0, _, h => h
  | k + 1, s, h => by
    refine fillBack_waits hc (k := k) (s := enqueueNext o c' .back s) ?_
    unfold enqueueNext
    split
    · next i hi =>
      obtain ⟨st, hs, -, hidle⟩ := nextIdle_some hi
      obtain ⟨st', hs', hcls, hqueued⟩ := h.stage
      have hne : j ≠ i := by
        rintro rfl
        rw [hs] at hs'
        cases hs'
        rw [hidle] at hqueued
        cases hqueued
      refine ⟨?_, st', ?_, hcls, hqueued⟩
      · rw [enqueue_queue, PerClass_get_set, if_neg hc.symm]; exact h.queue
      · rw [stage?_congr (enqueue_stages c' .back i s), stage?_modStage_other _ _ hne]; exact hs'
    · exact h

/-- A waiting stage at the end of the step: it waits on, or the attempt switches one stage on, which leaves the queue. -/
theorem finish_waits {s : State} {c : Cls} {j : Nat} {q : List Nat} (h : s.Waits c j q) :
    let t := finish s
    (t.queue.get c = q ∨ (s.alloc.sharing = .active ∧ ∃ x stx, t.stage? x = some stx ∧ stx.state = .energized
      ∧ t.queue.get c = q.filter (· != x)))
    ∧ ∃ st', t.stage? j = some st' ∧ st'.cls = some c
      ∧ (st'.state = .queued ∨ (s.alloc.sharing = .active ∧ st'.state = .energized)) := by
  obtain ⟨u, hs, hq, hal, v, hdoes, hfs, hfq⟩ := finish_attempts s
  obtain ⟨hqueue, st', hst', hcls, hqueued⟩ := h.congr hs hq
  dsimp only
  rw [hfq, stage?_congr hfs, ← hal]
  simp only [stage?_congr hfs]
  rcases hdoes with hv | ⟨i, st, active, hi, hst, hv⟩ | ⟨i, st, active, hi, hst, hv⟩
  · subst hv
    exact ⟨.inl hqueue, st', hst', hcls, .inl hqueued⟩
  · subst hv
    have hne : j ≠ i := by
      rintro rfl
      rw [hi] at hst'
      cases hst'
      rw [hst] at hqueued
      cases hqueued
    refine ⟨.inl hqueue, st', ?_, hcls, .inl hqueued⟩
    rw [stage?_congr (resume_stages i u), stage?_modStage_other _ _ hne]
    exact hst'
  · subst hv
    have hon := (stage?_congr (admitStage_stages i u) i).trans (stage?_modStage_same hi _)
    refine ⟨.inr ⟨active, i, _, hon, refeedback_state .., ?_⟩, ?_⟩
    · rw [admitStage_queue, hqueue]
    · rw [stage?_congr (admitStage_stages i u)]
      by_cases hne : j = i
      · subst hne
        refine ⟨_, stage?_modStage_same hst' _, ?_, .inr ⟨active, ?_⟩⟩
        · rw [refeedback_cls]; exact hcls
        · rw [refeedback_state]; rfl
      · exact ⟨st', by rw [stage?_modStage_other _ _ hne]; exact hst', hcls, .inl hqueued⟩

end Sys2Proof.Machine
end

section
/-! The contactor fault: the stage taken, the owner told, and its place filled again (R21, R63). -/

namespace Sys2Proof.Machine

/-! ### The stage taken -/

/-- The stage at an index becomes FAULTY and leaves the queue (R63 steps 1 and 2). -/
def takeFaulty (i : Nat) (st : Stage) (s : State) : State := unqueue i { s with stages := s.stages.set i st.toFaulty }

section
variable {s : State} {i : Nat} {st : Stage}

theorem takeFaulty_stages (i : Nat) (st : Stage) (s : State) :
    (takeFaulty i st s).stages = s.stages.modify i (fun _ => st.toFaulty) := List.set_eq_modify _ _ _

theorem takeFaulty_queue (i : Nat) (st : Stage) (s : State) (c : Cls) :
    (takeFaulty i st s).queue.get c = (s.queue.get c).filter (fun j => j != i) := PerClass_get_map _ _ _

theorem takeFaulty_stage? (hs : s.stage? i = some st) (j : Nat) :
    (takeFaulty i st s).stage? j = if i = j then some st.toFaulty else s.stage? j := by
  rw [State.stage?, takeFaulty_stages, List.getElem?_modify]
  split
  · next he =>
    subst he
    rw [show s.stages[i]? = some st from hs]
    simp
  · simp [State.stage?]

theorem takeFaulty_stands (hs : s.stage? i = some st) : (takeFaulty i st s).StandsFaulty i st.toFaulty where
  stage := by rw [takeFaulty_stage? hs, if_pos rfl]
  faulty := rfl
  unlined c hc := by
    rw [takeFaulty_queue] at hc
    simpa using (List.mem_filter.1 hc).2

/-- The owner holds one stage less in the class of the stage taken. -/
theorem heldCount_takeFaulty (hs : s.stage? i = some st) (o : Owner) (c : Cls) :
    (takeFaulty i st s).heldCount o c + (if st.heldFor o c then 1 else 0) = s.heldCount o c := by
  have hx : st.toFaulty.heldFor o c = false := by simp [Stage.heldFor, Stage.toFaulty, Stage.toIdle, Stage.inClass]
  have h := length_filter_modify (fun st => st.heldFor o c) (fun _ => st.toFaulty) s.stages i st hs
  rw [hx] at h
  rw [heldCount_eq, takeFaulty_stages]
  exact h

/-- The owner has one good stage less, and every other owner as many as before. -/
theorem goodCount_takeFaulty (hs : s.stage? i = some st) (hst : st.state ≠ .faulty) (o : Owner) :
    (takeFaulty i st s).goodCount o + (if st.owner = o then 1 else 0) = s.goodCount o := by
  have h := length_filter_modify (fun x : Stage => x.owner == o && !(x.state == .faulty)) (fun _ => st.toFaulty) s.stages i st hs
  have hx : (st.toFaulty.owner == o && !(st.toFaulty.state == .faulty)) = false := Bool.and_false _
  have hy : (st.owner == o && !(st.state == .faulty)) = decide (st.owner = o) := by
    rw [beq_eq_false_iff_ne.2 hst, Bool.not_false, Bool.and_true]; rfl
  simp only [hx, hy] at h
  rw [State.goodCount, takeFaulty_stages]
  simpa [State.goodCount] using h

theorem leastWorn_modify {o : Owner} {x st : Stage} (hx : x.state ≠ .idle) (hst : st.state ≠ .idle) (l : List Stage) :
    ∀ (i k : Nat) (best : Option (Nat × Nat)), l[i]? = some st →
      leastWorn o k (l.modify i (fun _ => x)) best = leastWorn o k l best := by
  induction l with
  | nil => intro i k best hs; cases hs
  | cons y l ih =>
    intro i k best hs
    cases i with
    | zero =>
      obtain rfl : y = st := Option.some.inj hs
      rw [List.modify_zero_cons, leastWorn, leastWorn, if_neg (by simp [hx]), if_neg (by simp [hst])]
    | succ i =>
      rw [List.modify_succ_cons, leastWorn, leastWorn]
      exact ih i _ _ hs

/-- Taking a stage that is not IDLE leaves the next IDLE stage of every owner. -/
theorem nextIdle_takeFaulty (hs : s.stage? i = some st) (hst : st.state ≠ .idle) (o : Owner) :
    (takeFaulty i st s).nextIdle o = s.nextIdle o := by
  rw [State.nextIdle, takeFaulty_stages, leastWorn_modify (fun h => by cases h) hst _ _ _ _ hs]
  rfl

end

/-! ### The place in the queue -/

/-- The queue without the stage taken, with the other in its place: at the front for one that was heating. -/
def lined (s : State) (i : Nat) (st : Stage) (c : Cls) (j : Nat) : List Nat :=
  if st.heating then j :: (s.queue.get c).filter (· != i) else (s.queue.get c).map (fun k => if k = i then j else k)

/-- Replacing a number that stands once is removing it and entering the other at its position. -/
theorem map_replace {l : List Nat} {i j : Nat} (hn : l.Nodup) (hi : i ∈ l) :
    (l.filter (· != i)).take (l.idxOf i) ++ j :: (l.filter (· != i)).drop (l.idxOf i)
      = l.map (fun k => if k = i then j else k) := by
  induction l with
  | nil => cases hi
  | cons a l ih =>
    obtain ⟨ha, hn⟩ := List.nodup_cons.1 hn
    by_cases he : a = i
    · subst he
      have hfilter : l.filter (· != a) = l := List.filter_eq_self.2 fun b hb => by
        simp only [bne_iff_ne, ne_eq]; rintro rfl; exact ha hb
      have hmap : l.map (fun k => if k = a then j else k) = l := by
        refine (List.map_congr_left fun b hb => if_neg ?_).trans (List.map_id' l)
        rintro rfl; exact ha hb
      simp [hfilter, hmap]
    · have hi' : i ∈ l := (List.mem_cons.1 hi).resolve_left fun h => he h.symm
      have hidx : (a :: l).idxOf i = l.idxOf i + 1 := List.idxOf_cons_ne l he
      have hfil : (a :: l).filter (· != i) = a :: l.filter (· != i) := by simp [he]
      rw [hidx, hfil, List.map_cons, if_neg he, ← ih hn hi']
      rfl

/-- Where the replacement goes is where `lined` has it. -/
theorem placed_takeFaulty {s : State} {i j : Nat} {st : Stage} {c : Cls} (hs : s.stage? i = some st) (hc : st.cls = some c)
    (hheld : st.isHeld = true) (hq : st.heating = true ∨ s.QueueSound) : ∃ p, s.replacementPlace i st = some (c, p)
      ∧ ∀ u : State, u.queue = (takeFaulty i st s).queue → placed u c p j = lined s i st c j := by
  have hqueue : ∀ u : State, u.queue = (takeFaulty i st s).queue → u.queue.get c = (s.queue.get c).filter (· != i) :=
    fun u hu => by rw [hu, takeFaulty_queue]
  unfold State.replacementPlace lined
  rw [hc]
  by_cases hheating : st.heating = true
  · refine ⟨.front, by simp [hheating], fun u hu => ?_⟩
    rw [if_pos hheating, placed, hqueue u hu]
  · have hqueued : st.state = .queued := by
      rcases (Stage.isHeld_iff st).1 hheld with h | h
      · exact h
      · exact absurd ((Stage.heating_iff st).2 h) hheating
    have hsound := hq.resolve_left hheating
    refine ⟨.position ((s.queue.get c).idxOf i), by simp [hheating, hqueued], fun u hu => ?_⟩
    rw [if_neg hheating, placed, hqueue u hu]
    exact map_replace (hsound c).1 (((hsound c).2 i).2 ⟨st, hs, hqueued, hc⟩)

/-! ### The shortfall filled -/

theorem nextIdle_congr {s t : State} (h : t.stages = s.stages) (o : Owner) : t.nextIdle o = s.nextIdle o := by
  rw [State.nextIdle, h]; rfl

theorem fillTo_full {s : State} {o : Owner} {c : Cls} {n : Nat} (h : n ≤ s.heldCount o c) : fillTo o c n s = s := by
  rw [fillTo, Nat.sub_eq_zero_of_le h]; rfl

/-- With one stage short, the replacement fills the shortfall. -/
theorem refill_one {s : State} {o : Owner} {c : Cls} {p : Place} {n j : Nat} (hn : s.heldCount o c + 1 = n)
    (hj : s.nextIdle o = some j) : refill o c n (some (c, p)) s = enqueue c p j s := by
  obtain ⟨st, hs, rfl, hidle⟩ := nextIdle_some hj
  have hnext : enqueueNext st.owner c p s = enqueue c p j s := by simp only [enqueueNext, hj]
  have hsteps : refill st.owner c n (some (c, p)) s = fillTo st.owner c n (enqueueNext st.owner c p s) :=
    if_pos ⟨rfl, by omega⟩
  rw [hsteps, hnext]
  refine fillTo_full ?_
  rw [heldCount_enqueue hs hidle, if_pos rfl]
  omega

/-- A shortfall in another class than the stage taken is filled at the back. -/
theorem refill_other {c c' : Cls} (hc : c' ≠ c) (o : Owner) (p : Place) (n : Nat) (s : State) :
    refill o c' n (some (c, p)) s = fillTo o c' n s := by
  unfold refill
  exact if_neg fun h => hc h.1.symm

/-- With no IDLE stage nothing fills the shortfall. -/
theorem refill_none {s : State} {o : Owner} (h : s.NoneIdle o) (c : Cls) (n : Nat) (first : Option (Cls × Place)) :
    refill o c n first s = s := by
  unfold refill
  split
  · split
    · rw [enqueueNext_none h, fillTo_none h]
    · exact fillTo_none h _ _
  · exact fillTo_none h _ _

end Sys2Proof.Machine
end

section
/-! The contactor fault as one step: what it leaves of the stage, its owner and the queue (R21, R62 to R64). -/

namespace Sys2Proof.Machine

/-! ### The parts of the fault -/

theorem feedbackFault_of_faulty {s : State} {i : Nat} {st : Stage} (hs : s.stage? i = some st) (hst : st.state = .faulty) :
    feedbackFault i s = modStage i (fun st => { st with feedback := .disagree .expired }) s := by
  unfold feedbackFault
  simp only [hs, if_pos hst]

/-- The owner told and the shortfall filled, before the attempt that a heating stage leaves owed. -/
def faultTaken (i : Nat) (st : Stage) (s : State) : State :=
  refillOwner st.owner (s.replacementPlace i st) (tellOwner st.owner (recheck .stageFaulty (takeFaulty i st s)))

theorem feedbackFault_of_good {s : State} {i : Nat} {st : Stage} (hs : s.stage? i = some st) (hst : st.state ≠ .faulty) :
    feedbackFault i s = if st.heating then oweAttempt (faultTaken i st s) else faultTaken i st s := by
  unfold feedbackFault
  simp only [hs, if_neg hst]
  rfl

/-! ### What each part leaves -/

/-- The zones change, and what a hand-off and a recomputation write. -/
def ZoneShare (s t : State) : Prop := ∃ zs, ShareOnly { s with zones := zs } t

theorem availFall_share (z : Fin 4) (s : State) : ZoneShare s (availFall z s) := by
  unfold availFall
  split
  · dsimp only
    split
    · exact ⟨_, .refl _⟩
    · exact ⟨_, ((withdrawTo_only _ _ _ _).trans (withdrawTo_only _ _ _ _)).toShareOnly.trans (reformClaims_only _)⟩
  · exact ⟨s.zones, .refl s⟩

theorem tellOwner_share (o : Owner) (s : State) : ZoneShare s (tellOwner o s) := by
  cases o with
  | zone z => exact availFall_share z s
  | curtain d => exact ⟨s.zones, .refl s⟩
  | defrost => exact ⟨s.zones, .refl s⟩

theorem refillOwner_share (o : Owner) (first : Option (Cls × Place)) (s : State) : ShareOnly s (refillOwner o first s) := by
  unfold refillOwner
  split
  · split
    · exact ((refill_only _ _ _ _ s).trans (refill_only _ _ _ _ _)).toShareOnly
    · exact .refl s
  · exact (refill_only _ _ _ _ s).toShareOnly.trans (reformClaims_only _)
  · split
    · exact (refill_only _ _ _ _ s).toShareOnly.trans (reformClaims_only _)
    · exact .refl s

theorem faultTaken_frame (i : Nat) (st : Stage) (s : State) : ∃ zs sts q a al v l c, faultTaken i st s =
    { s with zones := zs, stages := sts, queue := q, attemptDue := a, alloc := al, view := v, link := l, cond := c } := by
  obtain ⟨l0, c0, hrecheck⟩ := recheck_only .stageFaulty (takeFaulty i st s)
  obtain ⟨zs, st1, q1, a1, al1, v1, l1, c1, htell⟩ := tellOwner_share st.owner (recheck .stageFaulty (takeFaulty i st s))
  obtain ⟨st2, q2, a2, al2, v2, l2, c2, hrefill⟩ := refillOwner_share st.owner (s.replacementPlace i st)
    (tellOwner st.owner (recheck .stageFaulty (takeFaulty i st s)))
  unfold faultTaken
  rw [htell, hrecheck] at hrefill ⊢
  exact ⟨zs, st2, q2, a2, al2, v2, l2, c2, hrefill⟩

/-! ### The stage stands FAULTY -/

theorem zoneFalls_stands {s : State} {i : Nat} {x : Stage} (h : s.StandsFaulty i x) (z : Fin 4) (n m : Nat) :
    (zoneFalls z n m s).StandsFaulty i x := withdrawTo_stands (withdrawTo_stands h _ _ _) _ _ _

theorem availFall_stands {s : State} {i : Nat} {x : Stage} (h : s.StandsFaulty i x) (z : Fin 4) :
    (availFall z s).StandsFaulty i x := by
  unfold availFall
  split
  · dsimp only
    split
    · exact h.congr rfl rfl
    · exact reformClaims_stands (zoneFalls_stands (State.StandsFaulty.congr (t := s.modZone z _) h rfl rfl) _ _ _)
  · exact h

theorem tellOwner_stands {s : State} {i : Nat} {x : Stage} (h : s.StandsFaulty i x) (o : Owner) :
    (tellOwner o s).StandsFaulty i x := by
  cases o with
  | zone z => exact availFall_stands h z
  | curtain d => exact h
  | defrost => exact h

theorem refillOwner_stands {s : State} {i : Nat} {x : Stage} (h : s.StandsFaulty i x) (o : Owner)
    (first : Option (Cls × Place)) : (refillOwner o first s).StandsFaulty i x := by
  unfold refillOwner
  split
  · split
    · exact refill_stands (refill_stands h _ _ _ _) _ _ _ _
    · exact h
  · exact reformClaims_stands (refill_stands h _ _ _ _)
  · split
    · exact reformClaims_stands (refill_stands h _ _ _ _)
    · exact h

theorem faultTaken_stands {s : State} {i : Nat} {st : Stage} (hs : s.stage? i = some st) :
    (faultTaken i st s).StandsFaulty i st.toFaulty :=
  refillOwner_stands (tellOwner_stands (recheck_stands (takeFaulty_stands hs) _) _) _ _

/-! ### STAGE_FAULTY is current -/

theorem recompute_current {c : Condition} (hc : c ≠ .defrostShort) (s : State) :
    flagSet (recompute s).cond.current c = flagSet s.cond.current c := by
  unfold recompute
  dsimp only
  rw [(raiseIntents_plain _).current, (lowerIntents_plain _).current]
  split
  · rfl
  · rw [recheck_current, if_neg hc]

theorem reformClaims_current {c : Condition} (hc : c ≠ .defrostShort) (s : State) :
    flagSet (reformClaims s).cond.current c = flagSet s.cond.current c := by
  have h : flagSet (recompute (demandDue (modOwn (fun e => { e with claims := s.claimsNow }) s))).cond.current c
      = flagSet s.cond.current c := by
    rw [recompute_current hc, (demandDue_only _).cond_eq]; rfl
  unfold reformClaims
  dsimp only
  split
  · rfl
  · split
    · exact h
    · rw [recheck_current, if_neg hc]; exact h

theorem tellOwner_current {c : Condition} (hc : c ≠ .defrostShort) (o : Owner) (s : State) :
    flagSet (tellOwner o s).cond.current c = flagSet s.cond.current c := by
  cases o with
  | zone z =>
    change flagSet (availFall z s).cond.current c = _
    unfold availFall
    split
    · dsimp only
      split
      · rfl
      · rw [reformClaims_current hc, zoneFalls, (withdrawTo_only _ _ _ _).cond_eq, (withdrawTo_only _ _ _ _).cond_eq]; rfl
    · rfl
  | curtain d => rfl
  | defrost => rfl

theorem refillOwner_current {c : Condition} (hc : c ≠ .defrostShort) (o : Owner) (first : Option (Cls × Place)) (s : State) :
    flagSet (refillOwner o first s).cond.current c = flagSet s.cond.current c := by
  unfold refillOwner
  split
  · split
    · rw [(refill_only _ _ _ _ _).cond_eq, (refill_only _ _ _ _ _).cond_eq]
    · rfl
  · rw [reformClaims_current hc, (refill_only _ _ _ _ _).cond_eq]
  · split
    · rw [reformClaims_current hc, (refill_only _ _ _ _ _).cond_eq]
    · rfl

theorem faultTaken_current {s : State} {i : Nat} {st : Stage} (hs : s.stage? i = some st) :
    flagSet (faultTaken i st s).cond.current .stageFaulty = true := by
  have hholds : conditionHolds (takeFaulty i st s) .stageFaulty = true :=
    List.any_eq_true.2 ⟨st.toFaulty, mem_stages_iff.2 ⟨i, (takeFaulty_stands hs).stage⟩, rfl⟩
  unfold faultTaken
  rw [refillOwner_current (by decide), tellOwner_current (by decide), recheck_current, if_pos rfl, hholds]

/-! ### The zone's record -/

theorem availFall_zone? (z : Fin 4) (s : State) : (availFall z s).zone? z = (s.zone? z).map (Zone.availFalls s.inUse.flags.eco)
    ∧ ∀ y, y ≠ z → (availFall z s).zone? y = s.zone? y := by
  cases hz : s.zone? z with
  | none =>
    have hsame : availFall z s = s := by unfold availFall; rw [hz]
    rw [hsame]
    exact ⟨hz, fun _ _ => rfl⟩
  | some r =>
    have hzones : (availFall z s).zones = (s.modZone z (fun _ => r.availFalls s.inUse.flags.eco)).zones := by
      unfold availFall
      rw [hz]
      dsimp only
      split
      · rfl
      · rw [(reformClaims_only _).zones_eq, zoneFalls, (withdrawTo_only _ _ _ _).zones_eq, (withdrawTo_only _ _ _ _).zones_eq]
    have hmod := zone?_of_modify (s := s) (t := availFall z s) (z := z) hzones
    exact ⟨hmod.1.trans (by rw [hz]; rfl), hmod.2⟩

theorem faultTaken_zone? {s : State} {i : Nat} {st : Stage} (y : Fin 4) : (faultTaken i st s).zone? y =
    if st.owner = .zone y then (s.zone? y).map (Zone.availFalls s.inUse.flags.eco) else s.zone? y := by
  have hzones : ∀ {u v : State}, u.zones = v.zones → u.zone? y = v.zone? y := fun h => by rw [State.zone?, h]; rfl
  have hrecheck := recheck_only .stageFaulty (takeFaulty i st s)
  have hbefore : (recheck .stageFaulty (takeFaulty i st s)).zone? y = s.zone? y := hzones hrecheck.zones_eq
  have heco : (recheck .stageFaulty (takeFaulty i st s)).inUse = s.inUse := hrecheck.inUse_eq
  unfold faultTaken
  rw [hzones (refillOwner_share _ _ _).zones_eq]
  cases ho : st.owner with
  | zone z =>
    obtain ⟨hsame, hother⟩ := availFall_zone? z (recheck .stageFaulty (takeFaulty i st s))
    change (availFall z _).zone? y = _
    split
    · next he => cases he; rw [hsame, hbefore, heco]
    · next hne => rw [hother y (fun he => hne (by rw [he])), hbefore]
  | curtain d => rw [if_neg (fun h => by cases h)]; exact hbefore
  | defrost => rw [if_neg (fun h => by cases h)]; exact hbefore

/-! ### The replacement -/

theorem heldCount_le_goodCount (s : State) (o : Owner) (c : Cls) : s.heldCount o c ≤ s.goodCount o := by
  rw [heldCount_eq, State.goodCount, ← List.countP_eq_length_filter, ← List.countP_eq_length_filter]
  refine List.countP_mono_left fun st _ hheld => ?_
  obtain ⟨ho, hh, -⟩ := Stage.heldFor_iff.1 hheld
  have hgood : st.state ≠ .faulty := by
    rintro hf
    rcases (Stage.isHeld_iff st).1 hh with h | h | h <;> (rw [hf] at h; cases h)
  simp [ho, hgood]

/-- An IDLE stage is good and not held. -/
theorem heldCount_lt_goodCount {s : State} {o : Owner} {j : Nat} (hj : s.nextIdle o = some j) (c : Cls) :
    s.heldCount o c < s.goodCount o := by
  obtain ⟨st, hs, rfl, hidle⟩ := nextIdle_some hj
  have hheld := heldCount_takeFaulty hs st.owner c
  have hgood := goodCount_takeFaulty hs (by rw [hidle]; exact fun h => by cases h) st.owner
  have hle := heldCount_le_goodCount (takeFaulty j st s) st.owner c
  rw [if_neg (by simp [Stage.heldFor, Stage.isHeld, Stage.heating, hidle])] at hheld
  rw [if_pos rfl] at hgood
  omega

theorem goodCount_congr {s t : State} (h : t.stages = s.stages) (o : Owner) : t.goodCount o = s.goodCount o := by
  rw [State.goodCount, h]; rfl

/-- The claims stand where the stages wanted of every curtain and of the defrost do. -/
theorem claimsNow_of_wanted {s t : State} (hsharing : t.alloc.sharing = s.alloc.sharing) (hinUse : t.inUse = s.inUse)
    (hconfig : t.config = s.config) (hzones : t.zones = s.zones) (hcurtains : ∀ d, t.curtainQuanta d = s.curtainQuanta d)
    (hneed : t.defrostNeed = s.defrostNeed) : t.claimsNow = s.claimsNow := by
  unfold State.claimsNow
  rw [hsharing, hinUse, hconfig, hzones, hneed, hcurtains 0, hcurtains 1, hcurtains 2]

/-- Claims that follow their inputs are not formed anew. -/
theorem reformClaims_settled {s : State} (h : s.ownEntry.claims = s.claimsNow) : reformClaims s = s := by
  unfold reformClaims
  exact if_pos h.symm

/-- Filling where a fall left an owner one stage short, and the claims as they were. -/
theorem claimsNow_replaced {s u : State} {i : Nat} {st : Stage} (hs : s.stage? i = some st) (hst : st.state ≠ .faulty)
    (hgood : ∀ o, u.goodCount o = (takeFaulty i st s).goodCount o)
    (hframe : ∃ sts q a l c, u = { s with stages := sts, queue := q, attemptDue := a, link := l, cond := c })
    (hcurtain : ∀ d, st.owner = .curtain d → s.curtainCount d < s.goodCount (.curtain d))
    (hdefrost : ∀ d, st.owner = .defrost → s.defrost = some d → defrostCount s.config.cab d.state < s.goodCount .defrost) :
    u.claimsNow = s.claimsNow := by
  have hfall : ∀ o, u.goodCount o + (if st.owner = o then 1 else 0) = s.goodCount o := fun o => by
    rw [hgood]; exact goodCount_takeFaulty hs hst o
  obtain ⟨sts, q, a, l, c, hu⟩ := hframe
  have hcount : ∀ d, u.curtainCount d = s.curtainCount d ∧ u.doorCfg? d = s.doorCfg? d := fun d => by rw [hu]; exact ⟨rfl, rfl⟩
  have hneed : u.defrost = s.defrost ∧ u.config = s.config := by rw [hu]; exact ⟨rfl, rfl⟩
  refine claimsNow_of_wanted (by rw [hu]) (by rw [hu]) hneed.2 (by rw [hu]) (fun d => ?_) ?_
  · have hmin : min (s.curtainCount d) (u.goodCount (.curtain d)) = min (s.curtainCount d) (s.goodCount (.curtain d)) := by
      have hd := hfall (.curtain d)
      split at hd
      · next ho => have := hcurtain d ho; omega
      · omega
    unfold State.curtainQuanta
    rw [(hcount d).1, (hcount d).2, hmin]
  · unfold State.defrostNeed
    rw [hneed.1, hneed.2]
    cases hd : s.defrost with
    | none => rfl
    | some d =>
      have hmin : min (defrostCount s.config.cab d.state) (u.goodCount .defrost)
          = min (defrostCount s.config.cab d.state) (s.goodCount .defrost) := by
        have hf := hfall .defrost
        split at hf
        · next ho => have := hdefrost d ho hd; omega
        · omega
      exact congrArg (· * s.config.cab.size) hmin

/-- The stage taken leaves its owner one short in its class. -/
theorem heldCount_taken {s u : State} {i : Nat} {st : Stage} {c : Cls} (hs : s.stage? i = some st) (hheld : st.isHeld = true)
    (hc : st.cls = some c) (hu : u.stages = (takeFaulty i st s).stages) :
    u.heldCount st.owner c + 1 = s.heldCount st.owner c := by
  have h := heldCount_takeFaulty hs st.owner c
  rw [if_pos (Stage.heldFor_iff.2 ⟨rfl, hheld, hc⟩)] at h
  rwa [heldCount_congr hu]

/-- In its other classes the owner holds what it held. -/
theorem heldCount_taken_other {s u : State} {i : Nat} {st : Stage} {c c' : Cls} (hs : s.stage? i = some st)
    (hc : st.cls = some c) (hne : c' ≠ c) (hu : u.stages = (takeFaulty i st s).stages) (o : Owner) :
    u.heldCount o c' = s.heldCount o c' := by
  have h := heldCount_takeFaulty hs o c'
  rw [if_neg fun hh => hne (Option.some.inj ((Stage.heldFor_iff.1 hh).2.2.symm.trans hc))] at h
  rwa [heldCount_congr hu]

theorem Stage.ne_idle_of_held {st : Stage} (h : st.isHeld = true) : st.state ≠ .idle := fun hidle => by
  rcases (Stage.isHeld_iff st).1 h with h | h | h <;> (rw [hidle] at h; cases h)

/-- A fall of N_avail that leaves the count and the offer hands nothing on. -/
theorem availFall_quiet {s : State} {z : Fin 4} {r : Zone} (hz : s.zone? z = some r) (hroom : r.wanted + r.offer < r.avail)
    (heco : s.inUse.flags.eco = true → r.wanted ≤ r.avail / 2) :
    availFall z s = s.modZone z (fun _ => r.availFalls s.inUse.flags.eco)
      ∧ (r.availFalls s.inUse.flags.eco).wanted = r.wanted ∧ (r.availFalls s.inUse.flags.eco).offer = r.offer := by
  have hwanted : (r.availFalls s.inUse.flags.eco).wanted = r.wanted := by
    have hmin : min r.wanted (r.avail - 1) = r.wanted := by omega
    change ecoCap s.inUse.flags.eco (r.avail - 1) (min r.wanted (r.avail - 1)) = r.wanted
    rw [hmin, ecoCap_eq]
    split
    · next he => have := heco he; omega
    · rfl
  have hoffer : (r.availFalls s.inUse.flags.eco).offer = r.offer := by
    change min r.offer (r.avail - 1 - (r.availFalls s.inUse.flags.eco).wanted) = r.offer
    rw [hwanted]
    omega
  refine ⟨?_, hwanted, hoffer⟩
  unfold availFall
  rw [hz]
  exact if_pos ⟨hwanted, hoffer⟩

/-- What an owner holds and wants where a replacement follows: it holds what it wants in the class of the stage taken, and still
wants it after the fall. -/
def State.ReplacementFollows (s : State) (o : Owner) (c : Cls) : Prop :=
  match o with
  | .zone z => ∃ r, s.zone? z = some r ∧ r.wanted + r.offer < r.avail ∧ (s.inUse.flags.eco = true → r.wanted ≤ r.avail / 2)
      ∧ ((c = .zone ∧ s.heldCount (.zone z) .zone = r.wanted)
        ∨ (c = .absorb ∧ s.heldCount (.zone z) .absorb = r.offer ∧ r.wanted ≤ s.heldCount (.zone z) .zone))
  | .curtain d => c = .curtain ∧ s.ClaimsFollow ∧ s.heldCount (.curtain d) .curtain = s.curtainCount d
  | .defrost => ∃ d, s.defrost = some d ∧ c = .safety ∧ s.ClaimsFollow
      ∧ s.heldCount .defrost .safety = defrostCount s.config.cab d.state

/-- A zone one stage short in one class, and in its other class not: the replacement, and what the other class still wants. -/
theorem refillOwner_zone {u : State} {z : Fin 4} {r : Zone} {c : Cls} {j : Nat} (p : Place) (hz : u.zone? z = some r)
    (hj : u.nextIdle (.zone z) = some j)
    (hclass : (c = .zone ∧ u.heldCount (.zone z) .zone + 1 = r.wanted)
      ∨ (c = .absorb ∧ u.heldCount (.zone z) .absorb + 1 = r.offer ∧ r.wanted ≤ u.heldCount (.zone z) .zone)) :
    ∃ c' n, c' ≠ c ∧ refillOwner (.zone z) (some (c, p)) u = fillTo (.zone z) c' n (enqueue c p j u) := by
  have hsteps : ∀ first, refillOwner (.zone z) first u
      = refill (.zone z) .absorb r.offer first (refill (.zone z) .zone r.wanted first u) := fun first => by
    simp only [refillOwner, hz]
  rw [hsteps]
  rcases hclass with ⟨rfl, hshort⟩ | ⟨rfl, hshort, hmet⟩
  · have hne : Cls.absorb ≠ .zone := fun h => by cases h
    exact ⟨.absorb, r.offer, hne, by rw [refill_one hshort hj, refill_other hne]⟩
  · have hne : Cls.zone ≠ .absorb := fun h => by cases h
    refine ⟨.zone, 0, hne, ?_⟩
    rw [refill_other hne, fillTo_full hmet, refill_one hshort hj, fillTo_full (Nat.zero_le _)]

/-- A curtain or the defrost one stage short, with claims that stand. -/
theorem refill_reform {u : State} {o : Owner} {c : Cls} {p : Place} {n j : Nat} (hn : u.heldCount o c + 1 = n)
    (hj : u.nextIdle o = some j) (hclaims : (enqueue c p j u).ownEntry.claims = (enqueue c p j u).claimsNow) :
    reformClaims (refill o c n (some (c, p)) u) = enqueue c p j u := by
  rw [refill_one hn hj, reformClaims_settled hclaims]

theorem Stage.ne_faulty_of_held {st : Stage} (h : st.isHeld = true) : st.state ≠ .faulty := fun hf => by
  rcases (Stage.isHeld_iff st).1 h with h | h | h <;> (rw [hf] at h; cases h)

section
/-! In what follows `u` is the state as the owner is told: the held stage `st` of class `c` taken, STAGE_FAULTY tested. The owner's next
IDLE stage is `j`, and `p` the place of the replacement. -/

variable {s u : State} {i j : Nat} {st : Stage} {c : Cls} {p : Place}

theorem nextIdle_taken (hu : CondOnly (takeFaulty i st s) u) (hs : s.stage? i = some st) (hheld : st.isHeld = true) (o : Owner) :
    u.nextIdle o = s.nextIdle o :=
  (nextIdle_congr hu.stages_eq o).trans (nextIdle_takeFaulty hs (Stage.ne_idle_of_held hheld) o)

theorem enqueue_waits_taken (hu : CondOnly (takeFaulty i st s) u) (hj : u.nextIdle st.owner = some j)
    (hp : ∀ u : State, u.queue = (takeFaulty i st s).queue → placed u c p j = lined s i st c j) :
    (enqueue c p j u).Waits c j (lined s i st c j) := by
  obtain ⟨stj, hsj, -, -⟩ := nextIdle_some hj
  rw [← hp u hu.queue_eq]
  exact enqueue_waits hsj c p

/-- The claims stand where a curtain or the defrost has as many good stages as it wants. -/
theorem claims_replaced (hu : CondOnly (takeFaulty i st s) u) (hs : s.stage? i = some st) (hheld : st.isHeld = true)
    (hrun : s.phase = .running) (hfollow : s.ClaimsFollow) (hj : u.nextIdle st.owner = some j)
    (hcurtain : ∀ d, st.owner = .curtain d → s.curtainCount d < s.goodCount (.curtain d))
    (hdefrost : ∀ d, st.owner = .defrost → s.defrost = some d → defrostCount s.config.cab d.state < s.goodCount .defrost) :
    (enqueue c p j u).ownEntry.claims = (enqueue c p j u).claimsNow := by
  have hgood : ∀ o, (enqueue c p j u).goodCount o = (takeFaulty i st s).goodCount o := fun o => by
    obtain ⟨stj, hsj, -, hidle⟩ := nextIdle_some hj
    rw [goodCount_of_faults (enqueue_faults fun st' hs' => by rw [hsj] at hs'; cases hs'; exact hidle).faults,
      goodCount_congr hu.stages_eq]
  obtain ⟨sts, q, a, hen⟩ := enqueue_only c p j u
  obtain ⟨l, cd, hcond⟩ := hu
  have hframe : enqueue c p j u = { s with stages := sts, queue := q, attemptDue := a, link := l, cond := cd } := by
    rw [hen, hcond]; rfl
  rw [claimsNow_replaced hs (Stage.ne_faulty_of_held hheld) hgood ⟨_, _, _, _, _, hframe⟩ hcurtain hdefrost, ← hfollow hrun,
    hframe]
  rfl

/-- The good stages an owner is left with. -/
theorem goodCount_taken (hu : CondOnly (takeFaulty i st s) u) (hs : s.stage? i = some st) (hheld : st.isHeld = true) :
    u.goodCount st.owner + 1 = s.goodCount st.owner := by
  have h := goodCount_takeFaulty hs (Stage.ne_faulty_of_held hheld) st.owner
  rwa [if_pos rfl, ← goodCount_congr hu.stages_eq] at h

theorem zone_waits {z : Fin 4} (hu : CondOnly (takeFaulty i st s) u) (hs : s.stage? i = some st) (hc : st.cls = some c)
    (hheld : st.isHeld = true) (ho : st.owner = .zone z) (hj : u.nextIdle st.owner = some j)
    (hp : ∀ u : State, u.queue = (takeFaulty i st s).queue → placed u c p j = lined s i st c j)
    (hfollows : s.ReplacementFollows (.zone z) c) :
    (refillOwner (.zone z) (some (c, p)) (tellOwner (.zone z) u)).Waits c j (lined s i st c j)
      ∧ (refillOwner (.zone z) (some (c, p)) (tellOwner (.zone z) u)).alloc = s.alloc := by
  obtain ⟨r, hz, hroom, heco, hclass⟩ := hfollows
  have hshort := heldCount_taken hs hheld hc hu.stages_eq
  have hother := fun c' hne => heldCount_taken_other (c' := c') hs hc hne hu.stages_eq st.owner
  have hwaits := enqueue_waits_taken hu hj hp
  rw [ho] at hj hshort hother
  have hzu : u.zone? z = some r := by rw [State.zone?, hu.zones_eq]; exact hz
  obtain ⟨htold, hwanted, hoffer⟩ := availFall_quiet hzu hroom (by rw [hu.inUse_eq]; exact heco)
  have htell : tellOwner (.zone z) u = u.modZone z (fun _ => r.availFalls u.inUse.flags.eco) := htold
  have hzt : (u.modZone z (fun _ => r.availFalls u.inUse.flags.eco)).zone? z = some (r.availFalls u.inUse.flags.eco) :=
    (zone?_modZone_same u z _).trans (by rw [hzu]; rfl)
  obtain ⟨c', n, hne, hrefill⟩ := refillOwner_zone (u := u.modZone z (fun _ => r.availFalls u.inUse.flags.eco))
    (c := c) p hzt hj (by
      rw [hwanted, hoffer]
      rcases hclass with ⟨rfl, h⟩ | ⟨rfl, h, hle⟩
      · exact .inl ⟨rfl, hshort.trans h⟩
      · exact .inr ⟨rfl, hshort.trans h, hle.trans (Nat.le_of_eq (hother .zone (fun h => by cases h)).symm)⟩)
  rw [htell, hrefill]
  refine ⟨fillBack_waits hne (hwaits.congr (by cases p <;> rfl) (by cases p <;> rfl)), ?_⟩
  rw [(fillTo_only _ _ _ _).alloc_eq, (enqueue_only _ _ _ _).alloc_eq]
  exact hu.alloc_eq

theorem curtain_waits {d : Fin 3} (hu : CondOnly (takeFaulty i st s) u) (hs : s.stage? i = some st) (hc : st.cls = some c)
    (hheld : st.isHeld = true) (ho : st.owner = .curtain d) (hrun : s.phase = .running) (hj : u.nextIdle st.owner = some j)
    (hidle : s.nextIdle st.owner = some j)
    (hp : ∀ u : State, u.queue = (takeFaulty i st s).queue → placed u c p j = lined s i st c j)
    (hfollows : s.ReplacementFollows (.curtain d) c) :
    (refillOwner (.curtain d) (some (c, p)) (tellOwner (.curtain d) u)).Waits c j (lined s i st c j)
      ∧ (refillOwner (.curtain d) (some (c, p)) (tellOwner (.curtain d) u)).alloc = s.alloc := by
  obtain ⟨rfl, hfollow, hwant⟩ := hfollows
  have hshort := heldCount_taken hs hheld hc hu.stages_eq
  have hgood := goodCount_taken hu hs hheld
  have hlt := heldCount_lt_goodCount hidle .curtain
  have hclaims := claims_replaced (c := .curtain) (p := p) hu hs hheld hrun hfollow hj
    (fun d' h => by cases ho.symm.trans h; rw [← hwant, ← ho]; exact hlt) (fun _ h => by cases ho.symm.trans h)
  have hwaits := enqueue_waits_taken hu hj hp
  rw [ho] at hj hshort hgood hlt
  have hcount : u.curtainCount d = s.curtainCount d := by
    obtain ⟨l, cd, hcond⟩ := hu
    rw [hcond]; rfl
  have hmin : u.heldCount (.curtain d) .curtain + 1 = min (u.curtainCount d) (u.goodCount (.curtain d)) := by
    rw [hcount]; omega
  have hrefill : refillOwner (.curtain d) (some (.curtain, p)) (tellOwner (.curtain d) u) = enqueue .curtain p j u :=
    refill_reform hmin hj hclaims
  rw [hrefill]
  exact ⟨hwaits, (enqueue_only _ _ _ _).alloc_eq.trans hu.alloc_eq⟩

theorem defrost_waits (hu : CondOnly (takeFaulty i st s) u) (hs : s.stage? i = some st) (hc : st.cls = some c)
    (hheld : st.isHeld = true) (ho : st.owner = .defrost) (hrun : s.phase = .running) (hj : u.nextIdle st.owner = some j)
    (hidle : s.nextIdle st.owner = some j)
    (hp : ∀ u : State, u.queue = (takeFaulty i st s).queue → placed u c p j = lined s i st c j)
    (hfollows : s.ReplacementFollows .defrost c) :
    (refillOwner .defrost (some (c, p)) (tellOwner .defrost u)).Waits c j (lined s i st c j)
      ∧ (refillOwner .defrost (some (c, p)) (tellOwner .defrost u)).alloc = s.alloc := by
  obtain ⟨d, hd, rfl, hfollow, hwant⟩ := hfollows
  have hshort := heldCount_taken hs hheld hc hu.stages_eq
  have hgood := goodCount_taken hu hs hheld
  have hlt := heldCount_lt_goodCount hidle .safety
  have hclaims := claims_replaced (c := .safety) (p := p) hu hs hheld hrun hfollow hj (fun _ h => by cases ho.symm.trans h)
    (fun d' _ h => by cases hd.symm.trans h; rw [← hwant, ← ho]; exact hlt)
  have hwaits := enqueue_waits_taken hu hj hp
  rw [ho] at hj hshort hgood hlt
  have hconfig : u.config = s.config := hu.config_eq
  have hdu : u.defrost = some d := hu.defrost_eq.trans hd
  have hmin : u.heldCount .defrost .safety + 1 = min (defrostCount u.config.cab d.state) (u.goodCount .defrost) := by
    rw [hconfig]; omega
  have hrefill : refillOwner .defrost (some (.safety, p)) (tellOwner .defrost u) = enqueue .safety p j u := by
    rw [← refill_reform hmin hj hclaims]
    simp only [refillOwner, tellOwner, hdu]
  rw [hrefill]
  exact ⟨hwaits, (enqueue_only _ _ _ _).alloc_eq.trans hu.alloc_eq⟩

/-- The replacement waits in its place, and the sharing state stands. -/
theorem faultTaken_waits (hrun : s.phase = .running) (hs : s.stage? i = some st) (hc : st.cls = some c)
    (hheld : st.isHeld = true) (hj : s.nextIdle st.owner = some j) (hfollows : s.ReplacementFollows st.owner c)
    (hq : st.heating = true ∨ s.QueueSound) :
    (faultTaken i st s).Waits c j (lined s i st c j) ∧ (faultTaken i st s).alloc = s.alloc := by
  obtain ⟨p, hplace, hp⟩ := placed_takeFaulty (j := j) hs hc hheld hq
  have hu := recheck_only .stageFaulty (takeFaulty i st s)
  have hnext := (nextIdle_taken hu hs hheld st.owner).trans hj
  unfold faultTaken
  rw [hplace]
  cases ho : st.owner with
  | zone z => exact zone_waits hu hs hc hheld ho hnext hp (ho ▸ hfollows)
  | curtain d => exact curtain_waits hu hs hc hheld ho hrun hnext hj hp (ho ▸ hfollows)
  | defrost => exact defrost_waits hu hs hc hheld ho hrun hnext hj hp (ho ▸ hfollows)

/-- With no IDLE stage, a curtain or the defrost holds one less. -/
theorem faultTaken_holdsLess (hs : s.stage? i = some st) (hc : st.cls = some c) (hheld : st.isHeld = true)
    (ho : ∀ z, st.owner ≠ .zone z) (hnone : s.nextIdle st.owner = none) :
    (faultTaken i st s).heldCount st.owner c + 1 = s.heldCount st.owner c := by
  have hu := recheck_only .stageFaulty (takeFaulty i st s)
  have hidle := nextIdle_none ((nextIdle_taken hu hs hheld st.owner).trans hnone)
  have hroles : (faultTaken i st s).roles = (recheck .stageFaulty (takeFaulty i st s)).roles := by
    unfold faultTaken
    cases howner : st.owner with
    | zone z => exact absurd howner (ho z)
    | curtain d =>
      rw [howner] at hidle
      simp only [refillOwner, tellOwner, refill_none hidle]
      exact (reformClaims_roles _).roles
    | defrost =>
      rw [howner] at hidle
      simp only [refillOwner, tellOwner]
      split
      · rw [refill_none hidle]
        exact (reformClaims_roles _).roles
      · rfl
  rw [heldCount_of_roles hroles]
  exact heldCount_taken hs hheld hc hu.stages_eq

end

/-! ### The step -/

theorem feedbackTimer_of_disagree {s : State} {i : Fin 44} {st : Stage} {e : Timer} (hs : s.stage? i.val = some st)
    (he : st.feedback = .disagree e) : s.feedbackTimer i = e := by simp [State.feedbackTimer, hs, he]

/-- The expiry of a FAULTY stage's field writes the field only. -/
theorem modStage_spent {s : State} {i : Nat} {st : Stage} (hs : s.stage? i = some st) :
    modStage i (fun st => { st with feedback := .disagree .expired }) s
      = { s with stages := s.stages.set i { st with feedback := .disagree .expired } } := by
  have hsame : ∀ st : Stage, refeedback s.clock st { st with feedback := .disagree .expired }
      = { st with feedback := .disagree .expired } := fun st => if_pos rfl
  have hstages : s.stages.modify i (fun st => refeedback s.clock st { st with feedback := .disagree .expired })
      = s.stages.set i { st with feedback := .disagree .expired } := by
    simp only [hsame]
    refine List.ext_getElem? fun j => ?_
    rw [List.getElem?_modify, List.getElem?_set]
    by_cases hij : i = j
    · subst hij
      obtain ⟨hlt, hget⟩ := List.getElem?_eq_some_iff.1 hs
      simp [hlt, hget]
    · simp [hij]
  rw [modStage, hstages]

/-- The stage that replaces another, or the class without one, and the frame, at the end of the step. -/
structure FaultLeaves (s : State) (i : Nat) (st : Stage) (t : State) : Prop where
  stands : t.StandsFaulty i st.toFaulty
  current : flagSet t.cond.current .stageFaulty = true
  zone : ∀ y, t.zone? y = if st.owner = .zone y then (s.zone? y).map (Zone.availFalls s.inUse.flags.eco) else s.zone? y
  replaced : ∀ c j, st.cls = some c → st.isHeld = true → s.nextIdle st.owner = some j → s.ReplacementFollows st.owner c →
    (st.heating = true ∨ s.QueueSound) →
    ((t.queue.get c = lined s i st c j) ∨ (s.alloc.sharing = .active ∧ ∃ x stx, t.stage? x = some stx
        ∧ stx.state = .energized ∧ t.queue.get c = (lined s i st c j).filter (· != x)))
    ∧ ∃ st', t.stage? j = some st' ∧ st'.cls = some c
        ∧ (st'.state = .queued ∨ (s.alloc.sharing = .active ∧ st'.state = .energized))
  less : ∀ c, st.cls = some c → st.isHeld = true → (∀ z, st.owner ≠ .zone z) → s.nextIdle st.owner = none →
    t.heldCount st.owner c + 1 = s.heldCount st.owner c
  rest : { t with
    zones := s.zones, seq := s.seq, pacing := s.pacing, stages := s.stages, queue := s.queue, alloc := s.alloc, view := s.view,
    link := s.link, cond := s.cond, outputs := s.outputs } = s

theorem faultStep_leaves {s : State} {i : Nat} {st : Stage} (hrun : s.phase = .running) (hdue : s.attemptDue = false)
    (hs : s.stage? i = some st) :
    FaultLeaves s i st (finish (if st.heating then oweAttempt (faultTaken i st s) else faultTaken i st s)) := by
  obtain ⟨a, hw⟩ : ∃ a, (if st.heating then oweAttempt (faultTaken i st s) else faultTaken i st s)
      = { faultTaken i st s with attemptDue := a } := by
    split
    · exact ⟨_, rfl⟩
    · exact ⟨_, rfl⟩
  rw [hw]
  obtain ⟨zs, sts, q, a', al, v, l, c, hframe⟩ := faultTaken_frame i st s
  obtain ⟨st', q', p', n', v', l', o', hfinish⟩ := finish_frame { faultTaken i st s with attemptDue := a }
  refine ⟨finish_stands ((faultTaken_stands hs).congr rfl rfl), ?_, fun y => ?_, fun c j hc hheld hj hfollows hq => ?_,
    fun c hc hheld ho hnone => ?_, ?_⟩
  · rw [hfinish]; exact faultTaken_current hs
  · rw [hfinish]; exact faultTaken_zone? y
  · obtain ⟨hwaits, halloc⟩ := faultTaken_waits hrun hs hc hheld hj hfollows hq
    have := finish_waits (s := { faultTaken i st s with attemptDue := a }) (hwaits.congr rfl rfl)
    rwa [show ({ faultTaken i st s with attemptDue := a } : State).alloc = s.alloc from halloc] at this
  · have hroles := (finish_roles { faultTaken i st s with attemptDue := a }).roles
    rw [heldCount_of_roles hroles]
    exact faultTaken_holdsLess hs hc hheld ho hnone
  · rw [hfinish, hframe]
    have hsettled : ({ s with attemptDue := false } : State) = s := by cases s; cases hdue; rfl
    exact hsettled

/-- Settles O24: the stage stands FAULTY through the step, and its replacement waits where the fault left its place. -/
theorem feedbackFaultTakesTheStage : Obligations.FeedbackFaultTakesTheStage := by
  intro s e i st hs hstage hfeedback
  have hexec : exec (.feedbackFault i) s = .next (finish (feedbackFault i.val (advanceTo e s))) := by
    refine Eq.trans ?_ (atExpiry_running e (feedbackFault i.val) s hs.running)
    rw [← feedbackTimer_of_disagree hstage hfeedback]
    rfl
  obtain ⟨now, hnow⟩ := advanceTo_eq e s
  have hstage' : (advanceTo e s).stage? i.val = some st := by rw [hnow]; exact hstage
  refine ⟨fun hfaulty => ?_, fun hgood => ?_⟩
  · rw [feedbackFault_of_faulty hstage' hfaulty, modStage_spent hstage'] at hexec
    refine ⟨_, hexec, ?_⟩
    rw [hnow]
    exact finish_closes_none _ hs.settled
  · rw [feedbackFault_of_good hstage' hgood] at hexec
    refine ⟨_, hexec, ?_⟩
    rw [hnow]
    have hleaves := faultStep_leaves (s := { s with clock := now }) hs.running hs.settled hstage
    generalize finish _ = t at hleaves ⊢
    refine ⟨hleaves.stands.stage, hleaves.stands.unlined, hleaves.current, fun z r ho hz => ?_, fun z ho => ?_,
      fun c j hc hheld hj hshort hq => hleaves.replaced c j hc hheld hj ?_ hq, hleaves.less, ?_⟩
    · rw [hleaves.zone z, if_pos ho, show State.zone? { s with clock := now } z = some r from hz]; rfl
    · rw [hleaves.zone z, if_neg ho]; rfl
    · cases ho : st.owner <;> (rw [ho] at hshort; exact hshort)
    · exact congrArg (fun u : State => { u with clock := s.clock }) hleaves.rest

end Sys2Proof.Machine
end

section
/-! What a step leaves of the view and of the transmit list while it forms claims and adopts a change: the peers' entries, the accepted cab
station, and where OVERRIDE entries wait. -/

namespace Sys2Proof.Machine

/-! ### What each change of a recomputation keeps -/

/-- A relation of states that each single change of a recomputation keeps (R70 to R75). -/
structure Recomputes (R : State → State → Prop) : Prop where
  refl : ∀ s, R s s
  trans : ∀ {s t u}, R s t → R t u → R s u
  alloc : ∀ s a, R s { s with alloc := a }
  claims : ∀ p s, R s (modOwn (fun e => { e with claims := p }) s)
  intents : ∀ p s, R s (modOwn (fun e => { e with intents := p }) s)
  cut : ∀ c s, R s (cut c s)
  due : ∀ s, R s (demandDue s)
  recheck : ∀ c s, R s (recheck c s)

namespace Recomputes

variable {R : State → State → Prop}

theorem foldl (h : Recomputes R) {α : Type} {g : State → α → State} (hg : ∀ s a, R s (g s a)) :
    ∀ (l : List α) (s : State), R s (l.foldl g s)
  | [], s => h.refl s
  | a :: l, s => h.trans (hg s a) (h.foldl hg l (g s a))

theorem setAnnounced (h : Recomputes R) (p : PerClass Nat) (s : State) : R s (setAnnounced p s) :=
  h.trans (h.alloc s { s.alloc with announced := p }) (h.intents p _)

theorem lowerIntents (h : Recomputes R) (s : State) : R s (lowerIntents s) := by
  have cuts : ∀ (p q : PerClass Nat) (u : State),
      R u (Cls.all.foldl (fun s c => if p.get c < q.get c then Machine.cut c s else s) u) := fun p q u =>
    h.foldl (fun s c => by
      split
      · exact h.cut c s
      · exact h.refl s) _ u
  unfold Machine.lowerIntents
  dsimp only
  split
  · exact h.trans (h.alloc s _) (cuts _ _ _)
  · exact h.trans (h.trans (h.trans (h.setAnnounced _ s) (h.alloc _ _)) (cuts _ _ _)) (h.due _)

theorem raiseIntents (h : Recomputes R) (s : State) : R s (raiseIntents s) := by
  unfold Machine.raiseIntents
  dsimp only
  split
  · exact h.refl s
  · exact h.trans (h.trans (h.setAnnounced _ s) (h.alloc _ _)) (h.due _)

theorem recompute (h : Recomputes R) (s : State) : R s (recompute s) := by
  have share : R s { s with alloc := { s.alloc with allocation := s.ownShare } } := h.alloc s _
  unfold Machine.recompute
  dsimp only
  refine h.trans (h.trans ?_ (h.lowerIntents _)) (h.raiseIntents _)
  split
  · exact share
  · exact h.trans share (h.recheck _ _)

theorem reformClaims (h : Recomputes R) (s : State) : R s (reformClaims s) := by
  have formed : R s (Machine.recompute (demandDue (modOwn (fun e => { e with claims := s.claimsNow }) s))) :=
    h.trans (h.trans (h.claims s.claimsNow s) (h.due _)) (h.recompute _)
  unfold Machine.reformClaims
  dsimp only
  split
  · exact h.refl s
  · split
    · exact formed
    · exact h.trans formed (h.recheck _ _)

end Recomputes

/-! ### The view but for the own figures -/

/-- The view differs in the own entry's figures only. -/
structure SeenKept (s t : State) : Prop where
  straps : t.straps = s.straps
  accepted : t.view.accepted = s.view.accepted
  peers : ∀ i, i ≠ s.straps.station → t.entry i = s.entry i
  own : t.ownEntry.state = s.ownEntry.state ∧ t.ownEntry.cab = s.ownEntry.cab

theorem SeenKept.refl (s : State) : SeenKept s s := ⟨rfl, rfl, fun _ _ => rfl, rfl, rfl⟩

theorem SeenKept.trans {s t u : State} (h₁ : SeenKept s t) (h₂ : SeenKept t u) : SeenKept s u where
  straps := h₂.straps.trans h₁.straps
  accepted := h₂.accepted.trans h₁.accepted
  peers i hi := (h₂.peers i (h₁.straps ▸ hi)).trans (h₁.peers i hi)
  own := ⟨h₂.own.1.trans h₁.own.1, h₂.own.2.trans h₁.own.2⟩

theorem SeenKept.of_view {s t : State} (hs : t.straps = s.straps) (hv : t.view = s.view) : SeenKept s t := by
  have hentry : ∀ i, t.entry i = s.entry i := fun i => by rw [State.entry, hv]; rfl
  have hown : t.ownEntry = s.ownEntry := by rw [State.ownEntry, hs, hentry]; rfl
  exact ⟨hs, by rw [hv], fun i _ => hentry i, by rw [hown], by rw [hown]⟩

section
variable {s t : State}

theorem LinkOnly.seen (h : LinkOnly s t) : SeenKept s t := .of_view h.straps_eq h.view_eq
theorem CondOnly.seen (h : CondOnly s t) : SeenKept s t := .of_view h.straps_eq h.view_eq
theorem StageOnly.seen (h : StageOnly s t) : SeenKept s t := .of_view h.straps_eq h.view_eq
theorem FanOnly.seen (h : FanOnly s t) : SeenKept s t := .of_view h.straps_eq h.view_eq
theorem DamperOnly.seen (h : DamperOnly s t) : SeenKept s t := .of_view h.straps_eq h.view_eq

end

theorem modOwn_seen {g : Entry → Entry} (hg : ∀ e, (g e).state = e.state ∧ (g e).cab = e.cab) (s : State) :
    SeenKept s (modOwn g s) where
  straps := rfl
  accepted := rfl
  peers _ hi := entry_modEntry_other s g hi
  own := by
    have h : (modOwn g s).ownEntry = g s.ownEntry := ownEntry_modEntry_own s g
    rw [h]
    exact hg _

theorem recomputes_seen : Recomputes SeenKept where
  refl := .refl
  trans := .trans
  alloc _ _ := .of_view rfl rfl
  claims p s := modOwn_seen (g := fun e => { e with claims := p }) (fun _ => ⟨rfl, rfl⟩) s
  intents p s := modOwn_seen (g := fun e => { e with intents := p }) (fun _ => ⟨rfl, rfl⟩) s
  cut c s := (cut_only c s).seen
  due s := (demandDue_only s).seen
  recheck c s := (recheck_only c s).seen

theorem reformClaims_seen (s : State) : SeenKept s (reformClaims s) := recomputes_seen.reformClaims s

theorem finish_seen (s : State) : SeenKept s (finish s) := by
  have note : ∀ u : State, SeenKept u (noteDraw u) := fun u =>
    modOwn_seen (g := fun e => { e with draw := capNat 255 u.drawNow }) (fun _ => ⟨rfl, rfl⟩) u
  have attempt : ∀ u : State, SeenKept u (admissionAttempt u) := fun u => by
    rcases admissionAttempt_does u with h | ⟨i, st, -, -, -, h⟩ | ⟨i, st, -, -, -, h⟩
    · rw [h]; exact .refl u
    · rw [h]; exact .of_view rfl rfl
    · rw [h]; exact .of_view rfl rfl
  have pay : SeenKept s (payAttempt s) := by
    unfold payAttempt
    split
    · exact .trans (t := { s with attemptDue := false }) (.of_view rfl rfl) ((note _).trans (attempt _))
    · exact .refl s
  exact (pay.trans (note _)).trans (.of_view rfl rfl)

/-- The choice of the cab station rests on who is a candidate (R106). -/
theorem cabChoice_congr {s t : State} (h : ∀ i, (t.entry i).isCab = (s.entry i).isCab) : t.cabChoice = s.cabChoice := by
  unfold State.cabChoice
  simp only [h]

theorem SeenKept.cabChoice_eq {s t : State} (h : SeenKept s t) : t.cabChoice = s.cabChoice :=
  cabChoice_congr fun i => by
    by_cases hi : i = s.straps.station
    · subst hi
      have ht : t.entry s.straps.station = t.ownEntry := by rw [State.ownEntry, h.straps]
      have hs : s.entry s.straps.station = s.ownEntry := rfl
      rw [ht, hs, Entry.isCab, Entry.isCab, h.own.1, h.own.2]
    · rw [h.peers i hi]

/-! ### Adoption keeps the view -/

theorem handOffZone_seen (z : Fin 4) (n m : Nat) (s : State) : SeenKept s (handOffZone z n m s) := (handOffZone_only z n m s).seen

theorem handCurtain_seen (d : Fin 3) (s : State) : SeenKept s (handCurtain d s) := by
  unfold handCurtain
  exact ((handOffSingle_only _ _ _ s).seen.trans (commandFan_only _ _ _).seen).trans (reformClaims_seen _)

theorem modDoor_seen (d : Fin 3) (g : Door → Door) (s : State) : SeenKept s (s.modDoor d g) := .of_view rfl rfl

theorem modZone_seen (z : Fin 4) (g : Zone → Zone) (s : State) : SeenKept s (s.modZone z g) := .of_view rfl rfl

theorem setCurtain_seen (d : Fin 3) (c : Curtain) (t : Timer) (s : State) : SeenKept s (setCurtain d c t s) := by
  unfold setCurtain
  split
  · split
    · exact .refl s
    · dsimp only
      split
      · exact modDoor_seen _ _ s
      · exact (modDoor_seen _ _ s).trans (handCurtain_seen d _)
  · exact .refl s

theorem barCurtain_seen (d : Fin 3) (s : State) : SeenKept s (barCurtain d s) := by
  unfold barCurtain
  split
  · split
    · exact setCurtain_seen _ _ _ s
    · exact .refl s
  · exact .refl s

theorem ventCurtain_seen (d : Fin 3) (s : State) : SeenKept s (ventCurtain d s) := by
  unfold ventCurtain
  split
  · split
    · exact setCurtain_seen _ _ _ s
    · exact setCurtain_seen _ _ _ s
    · exact .refl s
    · exact .refl s
  · exact .refl s

theorem layoverCurtain_seen (d : Fin 3) (s : State) : SeenKept s (layoverCurtain d s) := by
  unfold layoverCurtain
  split
  · split
    · exact barCurtain_seen d s
    · exact .refl s
  · exact .refl s

theorem enterOff_seen (z : Fin 4) (s : State) : SeenKept s (enterOff z s) := by
  unfold enterOff
  split
  · split
    · exact .refl s
    · exact ((modZone_seen z _ s).trans (modFan_only _ _ _).seen).trans (handOffZone_seen z 0 0 _)
  · exact .refl s

theorem capZone_seen (z : Fin 4) (s : State) : SeenKept s (capZone z s) := by
  unfold capZone
  split
  · dsimp only
    split
    · exact .refl s
    · exact ((modZone_seen z _ s).trans (handOffZone_seen z _ _ _)).trans (reformClaims_seen _)
  · exact .refl s

theorem enterOffAll_seen (s : State) : SeenKept s (enterOffAll s) :=
  ((((enterOff_seen 0 s).trans (enterOff_seen 1 _)).trans (enterOff_seen 2 _)).trans (enterOff_seen 3 _)).trans
    (recheck_only _ _).seen

theorem ventCurtains_seen (s : State) : SeenKept s (ventCurtains s) :=
  ((ventCurtain_seen 0 s).trans (ventCurtain_seen 1 _)).trans (ventCurtain_seen 2 _)

theorem layoverCurtains_seen (s : State) : SeenKept s (layoverCurtains s) :=
  ((layoverCurtain_seen 0 s).trans (layoverCurtain_seen 1 _)).trans (layoverCurtain_seen 2 _)

theorem capZones_seen (s : State) : SeenKept s (capZones s) :=
  (((capZone_seen 0 s).trans (capZone_seen 1 _)).trans (capZone_seen 2 _)).trans (capZone_seen 3 _)

theorem ventGained_seen (s : State) : SeenKept s (ventGained s) :=
  ((((enterOffAll_seen s).trans (ventCurtains_seen _)).trans (reformClaims_seen _)).trans (rechooseZoneFans_only _).seen).trans
    (retarget_only _).seen

theorem ventLost_seen (s : State) : SeenKept s (ventLost s) :=
  ((reformClaims_seen s).trans (rechooseZoneFans_only _).seen).trans (retarget_only _).seen

/-! ### The five parts of an adoption (R151) -/

/-- The own car's offset, where it changes. -/
def offsetAdopted (old new : InUse) (s : State) : State :=
  if old.offsets.ofCar s.straps.car = new.offsets.ofCar s.straps.car then s else writeOffsets (new.offsets.ofCar s.straps.car) s

/-- VENT_ONLY, where it changes. -/
def ventAdopted (old new : InUse) (s : State) : State :=
  if new.flags.ventOnly && !old.flags.ventOnly then ventGained s
  else if old.flags.ventOnly && !new.flags.ventOnly then ventLost s
  else s

/-- ECO, where it is gained. -/
def ecoAdopted (old new : InUse) (s : State) : State := if new.flags.eco && !old.flags.eco then capZones s else s

/-- LAYOVER, where it is gained. -/
def layoverAdopted (old new : InUse) (s : State) : State :=
  if new.flags.layover && !old.flags.layover then layoverCurtains s else s

/-- RECIRC, where it changes. -/
def recircAdopted (old new : InUse) (s : State) : State := if new.flags.recirc = old.flags.recirc then s else retarget s

theorem setInUse_eq (new : InUse) (s : State) : setInUse new s =
    recircAdopted s.inUse new (layoverAdopted s.inUse new (ecoAdopted s.inUse new (ventAdopted s.inUse new
      (offsetAdopted s.inUse new { s with inUse := new })))) := rfl

theorem ventAdopted_seen (old new : InUse) (s : State) : SeenKept s (ventAdopted old new s) := by
  unfold ventAdopted
  split
  · exact ventGained_seen s
  · split
    · exact ventLost_seen s
    · exact .refl s

theorem setInUse_seen (new : InUse) (s : State) : SeenKept s (setInUse new s) := by
  rw [setInUse_eq]
  have hoffset : ∀ u : State, SeenKept u (offsetAdopted s.inUse new u) := fun u => by
    unfold offsetAdopted
    split
    · exact .refl u
    · exact .of_view rfl rfl
  have heco : ∀ u : State, SeenKept u (ecoAdopted s.inUse new u) := fun u => by
    unfold ecoAdopted
    split
    · exact capZones_seen u
    · exact .refl u
  have hlayover : ∀ u : State, SeenKept u (layoverAdopted s.inUse new u) := fun u => by
    unfold layoverAdopted
    split
    · exact layoverCurtains_seen u
    · exact .refl u
  have hrecirc : ∀ u : State, SeenKept u (recircAdopted s.inUse new u) := fun u => by
    unfold recircAdopted
    split
    · exact .refl u
    · exact (retarget_only u).seen
  exact SeenKept.trans (t := { s with inUse := new }) (.of_view rfl rfl)
    ((((hoffset _).trans (ventAdopted_seen _ _ _)).trans (heco _)).trans (hlayover _) |>.trans (hrecirc _))

theorem setInUse_inUse (new : InUse) (s : State) : (setInUse new s).inUse = new := (adopt_only s.inUse { s with inUse := new }).inUse_eq

theorem takeWord_seen (s : State) : SeenKept s (takeWord s) := by
  unfold takeWord
  split
  · exact setInUse_seen _ s
  · exact .refl s

/-! ### The transmit list but for its figures -/

/-- Where OVERRIDE entries wait on the list. -/
def State.overrides (s : State) : List Bool := s.link.list.map (fun e => e.frame.isOverride)

/-- The attempt stands, the entries keep their kinds as far as OVERRIDE goes, and what joins behind them is no OVERRIDE entry. -/
structure ListGrows (s t : State) : Prop where
  attempt : t.link.attempt = s.link.attempt
  grows : ∃ k, t.overrides = s.overrides ++ List.replicate k false

theorem ListGrows.refl (s : State) : ListGrows s s := ⟨rfl, 0, (List.append_nil _).symm⟩

theorem ListGrows.trans {s t u : State} (h₁ : ListGrows s t) (h₂ : ListGrows t u) : ListGrows s u := by
  obtain ⟨ha₁, k₁, hk₁⟩ := h₁
  obtain ⟨ha₂, k₂, hk₂⟩ := h₂
  exact ⟨ha₂.trans ha₁, k₁ + k₂, by rw [hk₂, hk₁, List.append_assoc, List.replicate_append_replicate]⟩

theorem ListGrows.of_link {s t : State} (h : t.link = s.link) : ListGrows s t :=
  ⟨by rw [h], 0, by rw [State.overrides, h]; exact (List.append_nil _).symm⟩

/-- An OVERRIDE entry that waits goes on waiting. -/
theorem ListGrows.holds {s t : State} (h : ListGrows s t) (hs : true ∈ s.overrides) : true ∈ t.overrides := by
  obtain ⟨k, hk⟩ := h.grows
  rw [hk]
  exact List.mem_append_left _ hs

/-- No OVERRIDE entry joins. -/
theorem ListGrows.lacks {s t : State} (h : ListGrows s t) (hs : true ∉ s.overrides) : true ∉ t.overrides := by
  obtain ⟨k, hk⟩ := h.grows
  rw [hk, List.mem_append, List.mem_replicate]
  rintro (hmem | ⟨-, hfalse⟩)
  · exact hs hmem
  · cases hfalse

/-- A change of entries that keeps their kinds. -/
theorem mapEntries_grows {s : State} (b : Bool) {g : Bool → TxEntry → TxEntry}
    (hg : ∀ b e, (g b e).frame.isOverride = e.frame.isOverride) : ListGrows s (s.withList (mapEntries b g s.link.list)) := by
  have hmap : ∀ (l : List TxEntry) (b : Bool), (mapEntries b g l).map (fun e => e.frame.isOverride)
      = l.map (fun e => e.frame.isOverride) := fun l => by
    induction l with
    | nil => exact fun _ => rfl
    | cons e l ih => exact fun b => by rw [mapEntries, List.map_cons, List.map_cons, hg, ih]
  exact ⟨rfl, 0, (hmap _ _).trans (List.append_nil _).symm⟩

theorem isOverride_figures (s : State) (f : Frame) : (s.figures f).isOverride = f.isOverride := by
  cases f with
  | override b => unfold State.figures State.overrideFrame; cases s.word <;> rfl
  | _ => rfl

theorem refreshList_grows (s : State) : ListGrows s (refreshList s) :=
  mapEntries_grows s.headSending fun b e => by
    split
    · rfl
    · exact isOverride_figures s e.frame

theorem joinList_grows {f : Frame} (hf : f.isOverride = false) (s : State) : ListGrows s (joinList f s) :=
  ⟨rfl, 1, by simp [State.overrides, joinList, hf]⟩

theorem isOverride_of_sameKind {a b : Frame} (h : sameKind a b = true) : a.isOverride = b.isOverride := by
  have code : ∀ f : Frame, f.isOverride = (kindCode f == 5#4) := fun f => by cases f <;> rfl
  rw [code, code, beq_iff_eq.1 h]

/-- A frame that replaces a waiting entry of its kind. -/
theorem replaceWaiting_grows (f : Frame) (s : State) : ListGrows s (s.withList (mapEntries s.headSending
    (fun sending e => if sameKind e.frame f then e.replace sending f else e) s.link.list)) :=
  mapEntries_grows s.headSending fun b e => by
    split
    · next h => exact (isOverride_of_sameKind h).symm
    · rfl

theorem queueSingle_grows {f : Frame} (hf : f.isOverride = false) (s : State) : ListGrows s (queueSingle f s) := by
  unfold queueSingle
  split
  · exact replaceWaiting_grows f s
  · exact joinList_grows hf s

/-- A queued OVERRIDE frame waits. -/
theorem queueSingle_overrides {f : Frame} (hf : f.isOverride = true) (s : State) : true ∈ (queueSingle f s).overrides := by
  unfold queueSingle
  split
  · next hw =>
    obtain ⟨e, he, hkind⟩ := List.any_eq_true.1 hw
    refine (replaceWaiting_grows f s).holds (List.mem_map.2 ⟨e, he, ?_⟩)
    rw [isOverride_of_sameKind hkind, hf]
  · exact List.mem_map.2 ⟨⟨f, 0, 0, false⟩, List.mem_append_right _ (List.mem_singleton.2 rfl), hf⟩

theorem queueStatus_grows (s : State) : ListGrows s (queueStatus s) := by
  unfold queueStatus
  split
  · exact .refl s
  · exact queueSingle_grows rfl s

theorem latch_grows (c : Condition) (s : State) : ListGrows s (latch c s) := by
  unfold latch
  split
  · exact .refl s
  · exact .trans (t := { s with cond := { s.cond with latched := withFlag s.cond.latched c } }) (.of_link rfl) (queueStatus_grows _)

theorem recheck_grows (c : Condition) (s : State) : ListGrows s (recheck c s) := by
  unfold recheck
  split
  · unfold raiseCondition
    split
    · exact .refl s
    · exact (ListGrows.trans (s := s) (t := { s with cond := { s.cond with current := withFlag s.cond.current c } }) (.of_link rfl)
        (refreshList_grows _)).trans (latch_grows c _)
  · exact .trans (t := { s with cond := { s.cond with current := withoutFlag s.cond.current c } }) (.of_link rfl)
      (refreshList_grows _)

theorem demandDue_grows (s : State) : ListGrows s (demandDue s) := by
  unfold demandDue
  split
  · exact .refl s
  · split
    · exact .refl s
    · split
      · exact ⟨rfl, 0, (List.append_nil _).symm⟩
      · exact joinList_grows rfl s

theorem modOwn_grows (g : Entry → Entry) (s : State) : ListGrows s (modOwn g s) :=
  .trans (t := s.modEntry s.straps.station g) (.of_link rfl) (refreshList_grows _)

theorem recomputes_grows : Recomputes ListGrows where
  refl := .refl
  trans := .trans
  alloc _ _ := .of_link rfl
  claims _ s := modOwn_grows _ s
  intents _ s := modOwn_grows _ s
  cut c s := .of_link (cut_only c s).link_eq
  due := demandDue_grows
  recheck := recheck_grows

theorem noteDraw_grows (s : State) : ListGrows s (noteDraw s) := .trans (t := writeDraw s) (.of_link rfl) (refreshList_grows _)

theorem payAttempt_grows (s : State) : ListGrows s (payAttempt s) := by
  have attempt : ∀ u : State, ListGrows u (admissionAttempt u) := fun u => by
    rcases admissionAttempt_does u with h | ⟨i, st, -, -, -, h⟩ | ⟨i, st, -, -, -, h⟩
    · rw [h]; exact .refl u
    · rw [h]; exact .of_link rfl
    · rw [h]; exact .of_link rfl
  unfold payAttempt
  split
  · exact ListGrows.trans (t := { s with attemptDue := false }) (.of_link rfl) ((noteDraw_grows _).trans (attempt _))
  · exact .refl s

theorem finish_grows (s : State) : ListGrows s (finish s) :=
  ((payAttempt_grows s).trans (noteDraw_grows _)).trans (.of_link rfl)

/-! ### What is owed -/

theorem cut_attemptDue (c : Cls) (s : State) : (cut c s).attemptDue = s.attemptDue := by
  have front : ∀ (g : Cls → List Nat) (l : List Cls) (u : State),
      (l.foldl (fun s c => queueFront c (g c) s) u).attemptDue = u.attemptDue := fun g l => by
    induction l with
    | nil => exact fun _ => rfl
    | cons d l ih => exact fun u => ih _
  have off : ∀ (l : List Nat) (u : State), (l.foldl (fun s i => modStage i Stage.toQueued s) u).attemptDue = u.attemptDue :=
    fun l => by
      induction l with
      | nil => exact fun _ => rfl
      | cons i l ih => exact fun u => ih _
  exact (front _ _ _).trans (off _ s)

theorem recomputes_attemptDue : Recomputes (fun s t => t.attemptDue = s.attemptDue) where
  refl _ := rfl
  trans h₁ h₂ := h₂.trans h₁
  alloc _ _ := rfl
  claims _ _ := rfl
  intents _ _ := rfl
  cut := cut_attemptDue
  due s := (demandDue_only s).attemptDue_eq
  recheck c s := (recheck_only c s).attemptDue_eq

end Sys2Proof.Machine
end

section
/-! Hearing a station (R97, R100): what it leaves before the choice of the cab station is made again, what follows a change of
that choice (R106), and what a frame that is set aside amounts to. -/

namespace Sys2Proof.Machine

/-! ### Up to the choice of the cab station -/

/-- What hearing `source` leaves before the choice of the cab station is made again: its entry is `e`, and a recomputation has
taken the change of it. -/
structure State.Counts (s : State) (source : Station) (e : Entry) (u : State) : Prop where
  share : ShareOnly s u
  due : u.attemptDue = s.attemptDue
  sharing : u.alloc.sharing = s.alloc.sharing
  entry : u.entry source = e
  peers : ∀ i, i ≠ source → i ≠ s.straps.station → u.entry i = s.entry i
  own : u.ownEntry.state = s.ownEntry.state ∧ u.ownEntry.cab = s.ownEntry.cab
  accepted : u.view.accepted = s.view.accepted
  grows : ListGrows s u

theorem modEntry_counts {s : State} {source : Station} (g : Entry → Entry) (hne : source ≠ s.straps.station) :
    s.Counts source (g (s.entry source)) (s.modEntry source g) where
  share := modEntry_only source g s
  due := rfl
  sharing := rfl
  entry := entry_modEntry_same s source g
  peers _ hi _ := entry_modEntry_other s g hi
  own := by rw [ownEntry_modEntry_peer s g hne]; exact ⟨rfl, rfl⟩
  accepted := rfl
  grows := .of_link rfl

theorem State.Counts.recompute {s u : State} {source : Station} {e : Entry} (h : s.Counts source e u)
    (hne : source ≠ s.straps.station) : s.Counts source e (recompute u) := by
  have seen : SeenKept u (Machine.recompute u) := recomputes_seen.recompute u
  have hstraps : u.straps = s.straps := h.share.straps_eq
  exact
    { share := h.share.trans (recompute_only u)
      due := (recomputes_attemptDue.recompute u).trans h.due
      sharing := (recompute_sharing u).trans h.sharing
      entry := (seen.peers source (hstraps ▸ hne)).trans h.entry
      peers := fun i hi hown => (seen.peers i (hstraps ▸ hown)).trans (h.peers i hi hown)
      own := ⟨seen.own.1.trans h.own.1, seen.own.2.trans h.own.2⟩
      accepted := seen.accepted.trans h.accepted
      grows := h.grows.trans (recomputes_grows.recompute u) }

theorem hear_counts {s : State} {source : Station} (f : Frame) (hne : source ≠ s.straps.station) :
    ∃ u, s.Counts source ((s.entry source).heard s.clock f) u ∧ hear source f s =
      if (s.entry source).state = ((s.entry source).heard s.clock f).state
        ∧ (s.entry source).cab = ((s.entry source).heard s.clock f).cab then u else reevaluate u := by
  have heard := modEntry_counts (Entry.heard s.clock f) hne
  by_cases h : (s.entry source).state = ((s.entry source).heard s.clock f).state
      ∧ (s.entry source).claims = ((s.entry source).heard s.clock f).claims
      ∧ (s.entry source).intents = ((s.entry source).heard s.clock f).intents
  · exact ⟨_, heard, by simp only [hear, entryChanged, if_pos h]⟩
  · exact ⟨_, heard.recompute hne, by simp only [hear, entryChanged, if_neg h]⟩

/-! ### The accepted cab station changes (R106, R107) -/

/-- The view with another accepted cab station. -/
def State.accepting (new : Option Station) (s : State) : State := { s with view := { s.view with accepted := new } }

/-- A cab node becomes its own accepted cab station (R150). -/
def ownTaken (s : State) : State := recheck .roleConflict (queueSingle (takeWord s).overrideFrame (takeWord s))

/-- Another station, or none, becomes the accepted cab station (R149). -/
def otherTaken (s : State) : State :=
  recheck .roleConflict (if s.straps.cab then withdrawOverride (holdInUse s) else holdInUse s)

theorem acceptedChanged_eq (new : Option Station) (s : State) : acceptedChanged new s =
    if s.straps.cab = true ∧ new = some s.straps.station then ownTaken (s.accepting new) else otherTaken (s.accepting new) := by
  have hchanged : acceptedChanged new s = if (s.straps.cab && (s.accepting new).ownCab) = true
      then ownTaken (s.accepting new) else otherTaken (s.accepting new) := rfl
  have hown : (s.straps.cab && (s.accepting new).ownCab) = true ↔ s.straps.cab = true ∧ new = some s.straps.station := by
    rw [Bool.and_eq_true]
    exact and_congr_right fun _ => beq_iff_eq
  rw [hchanged]
  simp only [hown]

theorem holdInUse_eq (s : State) : holdInUse s = { s with
    inUse := if s.inUse.mode = .following ∨ s.inUse.mode = .own then
      { s.inUse with mode := .holding, silence := .stopped, hold := s.timer 60000 } else s.inUse } := by
  unfold holdInUse
  cases hm : s.inUse.mode <;> simp [enterHolding]

theorem ownTaken_seen (s : State) : SeenKept s (ownTaken s) :=
  ((takeWord_seen s).trans (queueSingle_only _ _).seen).trans (recheck_only _ _).seen

/-- Who sets the state in use changes; what it says stands. -/
theorem holdInUse_says (s : State) :
    (holdInUse s).inUse.flags = s.inUse.flags ∧ (holdInUse s).inUse.offsets = s.inUse.offsets := by
  rw [holdInUse_eq]
  dsimp only
  split
  · exact ⟨rfl, rfl⟩
  · exact ⟨rfl, rfl⟩

/-- What another accepted cab station changes. -/
theorem otherTaken_frame (s : State) :
    ∃ l c, otherTaken s = { s with link := l, cond := c, inUse := (holdInUse s).inUse } := by
  have hheld := holdInUse_eq s
  unfold otherTaken
  split
  · obtain ⟨l, c, h⟩ := recheck_only .roleConflict (withdrawOverride (holdInUse s))
    exact ⟨l, c, by rw [h, hheld]; rfl⟩
  · obtain ⟨l, c, h⟩ := recheck_only .roleConflict (holdInUse s)
    exact ⟨l, c, by rw [h, hheld]⟩

theorem otherTaken_inUse (s : State) : (otherTaken s).inUse = (holdInUse s).inUse := by
  unfold otherTaken
  split
  · exact (recheck_only _ _).inUse_eq
  · exact (recheck_only _ _).inUse_eq

theorem overrides_withdrawOverride (s : State) : true ∉ (withdrawOverride s).overrides := by
  intro h
  obtain ⟨e, he, hov⟩ := List.mem_map.1 h
  have := (List.mem_filter.1 he).2
  rw [hov] at this
  cases this

/-- The attempt of an OVERRIDE entry at the head runs on without an entry (R122). -/
theorem attempt_withdrawOverride {s : State} {x : TxEntry} {rest : List TxEntry} {a : Attempt} (hlist : s.link.list = x :: rest)
    (hx : x.frame.isOverride = true) (ha : s.link.attempt = some a) :
    (withdrawOverride s).link.attempt = some { a with withdrawn := true } := by
  cases hw : a.withdrawn <;>
    simp [withdrawOverride, hlist, hx, ha, State.headSending, hw]
  rw [← hw]

/-- ROLE_CONFLICT follows the accepted cab station (R107). -/
theorem recheck_roleConflict {s u : State} (hs : u.straps = s.straps) (ha : u.view.accepted = s.view.accepted) :
    flagSet (recheck .roleConflict u).cond.current .roleConflict
      = (s.straps.cab && !(s.view.accepted == some s.straps.station)) := by
  rw [recheck_current, if_pos rfl, conditionHolds, hs, ha]

theorem ownTaken_roleConflict (s : State) : flagSet (ownTaken s).cond.current .roleConflict
    = (s.straps.cab && !(s.view.accepted == some s.straps.station)) :=
  have seen : SeenKept s (queueSingle (takeWord s).overrideFrame (takeWord s)) :=
    (takeWord_seen s).trans (queueSingle_only _ _).seen
  recheck_roleConflict seen.straps seen.accepted

theorem otherTaken_roleConflict (s : State) : flagSet (otherTaken s).cond.current .roleConflict
    = (s.straps.cab && !(s.view.accepted == some s.straps.station)) := by
  unfold otherTaken
  split
  · exact recheck_roleConflict (by rw [holdInUse_eq]; rfl) (by rw [holdInUse_eq]; rfl)
  · exact recheck_roleConflict (by rw [holdInUse_eq]) (by rw [holdInUse_eq])

theorem ownTaken_inUse {s : State} {w : OvrWord} (hw : s.word = some w) : (ownTaken s).inUse =
    { mode := .own, flags := w.flags, offsets := w.offsets, layover := w.layoverLeft, boost := s.boostLeft,
      source := some s.straps.station, silence := .stopped, hold := .stopped } := by
  have hkeeps : (ownTaken s).inUse = (takeWord s).inUse :=
    (recheck_only _ _).inUse_eq.trans (queueSingle_only _ _).inUse_eq
  rw [hkeeps, takeWord, hw]
  exact setInUse_inUse _ s

theorem isOverride_overrideFrame (s : State) : s.overrideFrame.isOverride = true := by
  unfold State.overrideFrame
  split <;> rfl

theorem ownTaken_overrides (s : State) : true ∈ (ownTaken s).overrides :=
  (recheck_grows _ _).holds (queueSingle_overrides (isOverride_overrideFrame _) _)

theorem otherTaken_of_cab {s : State} (hcab : s.straps.cab = true) :
    ListGrows (withdrawOverride (holdInUse s)) (otherTaken s) := by
  unfold otherTaken
  rw [if_pos hcab]
  exact recheck_grows _ _

theorem otherTaken_overrides {s : State} (hcab : s.straps.cab = true) : true ∉ (otherTaken s).overrides :=
  (otherTaken_of_cab hcab).lacks (overrides_withdrawOverride _)

theorem otherTaken_attempt {s : State} (hcab : s.straps.cab = true) {x : TxEntry} {rest : List TxEntry} {a : Attempt}
    (hlist : s.link.list = x :: rest) (hx : x.frame.isOverride = true) (ha : s.link.attempt = some a) :
    (otherTaken s).link.attempt = some { a with withdrawn := true } := by
  have hlink : (holdInUse s).link = s.link := by rw [holdInUse_eq]
  rw [(otherTaken_of_cab hcab).attempt]
  exact attempt_withdrawOverride (hlink ▸ hlist) hx (hlink ▸ ha)

/-! ### After the closing -/

/-- An OVERRIDE entry that waits at a step's end carries the figures as they stand (R120). -/
theorem finish_carries {s : State} (h : true ∈ s.overrides) :
    ∃ x ∈ (finish s).link.list, x.frame = (finish s).overrideFrame := by
  obtain ⟨x, hx, hov⟩ := List.mem_map.1 ((finish_grows s).holds h)
  refine ⟨x, hx, ?_⟩
  have hfigures : (finish s).figures x.frame = x.frame :=
    (figures_congr rfl rfl rfl rfl rfl rfl rfl rfl _).trans (refreshList_carries (writeDraw (payAttempt s)) x hx)
  cases hframe : x.frame with
  | override b => rw [hframe] at hfigures; exact hfigures.symm
  | _ => rw [hframe] at hov; cases hov

theorem forall_of_overrides {s : State} (h : true ∉ s.overrides) : ∀ x ∈ s.link.list, x.frame.isOverride = false :=
  fun x hx => Bool.eq_false_iff.2 fun hov => h (List.mem_map.2 ⟨x, hx, hov⟩)

/-- The head of a list that grows keeps its kind. -/
theorem ListGrows.head {s t : State} (h : ListGrows s t) {x : TxEntry} {rest : List TxEntry} (hlist : s.link.list = x :: rest)
    (hx : x.frame.isOverride = true) : ∃ y rest', t.link.list = y :: rest' ∧ y.frame.isOverride = true := by
  obtain ⟨k, hk⟩ := h.grows
  have hs : s.overrides = true :: rest.map (fun e => e.frame.isOverride) := by
    rw [State.overrides, hlist, List.map_cons, hx]
  rw [hs, List.cons_append] at hk
  obtain ⟨y, rest', hcons, hy, -⟩ := List.map_eq_cons_iff.1 hk
  exact ⟨y, rest', hcons, hy⟩

section
variable {s u t : State} {source : Station} {e : Entry}

/-- Nothing follows where the accepted cab station stands. -/
theorem State.Counts.takesNone (h : s.Counts source e u) (ht : t = finish u) : s.TakesChoice t := by
  have hacc : t.view.accepted = s.view.accepted := by rw [ht, (finish_seen u).accepted, h.accepted]
  refine ⟨fun _ => ?_, fun hne => absurd hacc hne, fun hne => absurd hacc hne⟩
  obtain ⟨st, q, p, n, v, l, o, hf⟩ := finish_frame u
  rw [ht, hf]
  exact h.share.inUse_eq

/-- A cab node that becomes its own accepted cab station takes its word (R150). -/
theorem State.Counts.takesOwn (h : s.Counts source e u) (hcab : s.straps.cab = true)
    (hne : some s.straps.station ≠ s.view.accepted) (ht : t = finish (ownTaken (u.accepting (some s.straps.station)))) :
    s.TakesChoice t := by
  have hstraps : u.straps = s.straps := h.share.straps_eq
  have hacc : t.view.accepted = some s.straps.station := by
    rw [ht, (finish_seen _).accepted, (ownTaken_seen _).accepted]; rfl
  obtain ⟨st, q, p, n, v, l, o, hf⟩ := finish_frame (ownTaken (u.accepting (some s.straps.station)))
  refine ⟨fun heq => absurd (hacc.symm.trans heq) hne, fun _ _ _ => ⟨?_, fun w hw => ⟨?_, ?_⟩⟩, fun _ hother => ?_⟩
  · rw [ht, hf]
    refine (ownTaken_roleConflict _).trans ?_
    simp [State.accepting, hstraps]
  · rw [ht, hf]
    have hword : (u.accepting (some s.straps.station)).word = some w := h.share.word_eq.trans hw
    have hboost : (u.accepting (some s.straps.station)).boostLeft = s.boostLeft := by
      simp only [State.boostLeft, State.accepting, h.share.defrost_eq]
    refine (ownTaken_inUse hword).trans ?_
    rw [hboost]
    simp [State.accepting, hstraps]
  · rw [ht]
    exact finish_carries (ownTaken_overrides _)
  · rcases hother with h' | h'
    · rw [hcab] at h'; cases h'
    · exact absurd hacc h'

/-- Another accepted cab station, or none (R107, R149). -/
theorem State.Counts.takesOther (h : s.Counts source e u) {new : Option Station}
    (hother : ¬ (s.straps.cab = true ∧ new = some s.straps.station)) (hne : new ≠ s.view.accepted)
    (ht : t = finish (otherTaken (u.accepting new))) (hlatch : s.LatchesHold → t.LatchesHold) : s.TakesChoice t := by
  have hstraps : (u.accepting new).straps = s.straps := h.share.straps_eq
  have hlink : (u.accepting new).link = u.link := rfl
  obtain ⟨st, q, p, n, v, l, o, hf⟩ := finish_frame (otherTaken (u.accepting new))
  obtain ⟨l', c', hframe⟩ := otherTaken_frame (u.accepting new)
  have hacc : t.view.accepted = new := by
    rw [ht, (finish_seen _).accepted, hframe]; rfl
  have hconflict : flagSet t.cond.current .roleConflict = s.straps.cab := by
    rw [ht, hf]
    refine (otherTaken_roleConflict _).trans ?_
    rw [hstraps]
    cases hcab : s.straps.cab with
    | false => rfl
    | true =>
      have hnot : new ≠ some s.straps.station := fun he => hother ⟨hcab, he⟩
      simpa [State.accepting] using hnot
  refine ⟨fun heq => absurd (hacc.symm.trans heq) hne, fun _ hcab hown => absurd ⟨hcab, hacc.symm.trans hown⟩ hother,
    fun _ _ => ⟨?_, hconflict, fun hcab => ?_⟩⟩
  · have hclock : t.clock = s.clock := by rw [ht, hf, hframe]; exact h.share.clock_eq
    have huse : t.inUse = (holdInUse (u.accepting new)).inUse := by rw [ht, hf]; exact otherTaken_inUse _
    have hheld : (u.accepting new).inUse = s.inUse := h.share.inUse_eq
    have htimer : (u.accepting new).timer 60000 = .running (timeAfter s.clock 60000) := by
      rw [← h.share.clock_eq]; rfl
    rw [huse, holdInUse_eq, hclock]
    simp only [hheld, htimer]
  · have hcab' : (u.accepting new).straps.cab = true := by rw [hstraps]; exact hcab
    refine ⟨?_, fun hl => ?_, fun x rest a hlist hx ha => ?_⟩
    · rw [ht]
      exact forall_of_overrides ((finish_grows _).lacks (otherTaken_overrides hcab'))
    · exact latchesHold_iff.1 (hlatch hl) _ (hconflict.trans hcab)
    · obtain ⟨y, rest', hy, hyov⟩ := h.grows.head hlist hx
      rw [ht, (finish_grows _).attempt]
      exact otherTaken_attempt hcab' hy hyov (h.grows.attempt.trans ha)

end

/-! ### Hearing a station -/

/-- What hearing a station can be: the accepted cab station stands, or its choice changes it. -/
inductive HearDoes (s u : State) (same : Prop) (t : State) : Prop
  | stands (h : t = u) (choice : ¬ same → u.cabChoice = s.view.accepted)
  | own (hsame : ¬ same) (hne : u.cabChoice ≠ s.view.accepted) (hcab : s.straps.cab = true)
      (hown : u.cabChoice = some s.straps.station) (h : t = ownTaken (u.accepting (some s.straps.station)))
  | other (hsame : ¬ same) (hne : u.cabChoice ≠ s.view.accepted)
      (hother : ¬ (s.straps.cab = true ∧ u.cabChoice = some s.straps.station)) (h : t = otherTaken (u.accepting u.cabChoice))

/-- The entry of a station that a frame leaves with its state and cab flag. -/
def State.SameSeen (s : State) (source : Station) (e : Entry) : Prop :=
  (s.entry source).state = e.state ∧ (s.entry source).cab = e.cab

theorem hear_does {s : State} {source : Station} (f : Frame) (hne : source ≠ s.straps.station) :
    ∃ u, s.Counts source ((s.entry source).heard s.clock f) u
      ∧ HearDoes s u (s.SameSeen source ((s.entry source).heard s.clock f)) (hear source f s) := by
  obtain ⟨u, hu, heq⟩ := hear_counts f hne
  refine ⟨u, hu, ?_⟩
  by_cases hsame : s.SameSeen source ((s.entry source).heard s.clock f)
  · exact .stands (heq.trans (if_pos hsame)) fun h => absurd hsame h
  · rw [heq.trans (if_neg hsame)]
    by_cases hchoice : u.cabChoice = u.view.accepted
    · exact .stands (if_pos hchoice) fun _ => hchoice.trans hu.accepted
    · have hchanged : reevaluate u = acceptedChanged u.cabChoice u := if_neg hchoice
      have hnew : u.cabChoice ≠ s.view.accepted := fun h => hchoice (h.trans hu.accepted.symm)
      rw [hchanged, acceptedChanged_eq, hu.share.straps_eq]
      by_cases hown : s.straps.cab = true ∧ u.cabChoice = some s.straps.station
      · rw [if_pos hown]
        exact .own hsame hnew hown.1 hown.2 (by rw [hown.2])
      · rw [if_neg hown]
        exact .other hsame hnew hown rfl

section
variable {s u t : State} {source : Station} {e : Entry} {same : Prop}

/-- The entry of the source and of the other peers, and the choice, as a station is heard. -/
theorem HearDoes.view (hd : HearDoes s u same t) (hu : s.Counts source e u) :
    t.straps = s.straps ∧ (∀ i, i ≠ s.straps.station → t.entry i = u.entry i) ∧ t.cabChoice = u.cabChoice
      ∧ (same → t.view.accepted = s.view.accepted) ∧ (¬ same → t.view.accepted = u.cabChoice) := by
  have hstraps : u.straps = s.straps := hu.share.straps_eq
  cases hd with
  | stands h choice =>
    rw [h]
    exact ⟨hstraps, fun _ _ => rfl, rfl, fun _ => hu.accepted, fun hs => hu.accepted.trans (choice hs).symm⟩
  | own hsame hne hcab hown h =>
    have seen : SeenKept (u.accepting (some s.straps.station)) t := h ▸ ownTaken_seen _
    exact ⟨seen.straps.trans hstraps, fun i hi => seen.peers i (hstraps.symm ▸ hi), seen.cabChoice_eq,
      fun hs => absurd hs hsame, fun _ => seen.accepted.trans hown.symm⟩
  | other hsame hne hother h =>
    obtain ⟨l, c, hframe⟩ := otherTaken_frame (u.accepting u.cabChoice)
    rw [h, hframe]
    exact ⟨hstraps, fun _ _ => rfl, rfl, fun hs => absurd hs hsame, fun _ => rfl⟩

theorem HearDoes.takesChoice (hd : HearDoes s u same t) (hu : s.Counts source e u)
    (hlatch : s.LatchesHold → (finish t).LatchesHold) : s.TakesChoice (finish t) := by
  cases hd with
  | stands h choice => exact hu.takesNone (by rw [h])
  | own hsame hne hcab hown h => exact hu.takesOwn hcab (hown ▸ hne) (by rw [h])
  | other hsame hne hother h => exact hu.takesOther hother hne (by rw [h]) hlatch

/-- A node that does not take its own word changes no more than a recomputation and the hold of the state in use do. -/
theorem HearDoes.frame (hd : HearDoes s u same t) (hu : s.Counts source e u)
    (h : ¬ (s.straps.cab = true ∧ t.view.accepted ≠ s.view.accepted ∧ t.view.accepted = some s.straps.station)) :
    ∃ st q a v l c i, t = { s with stages := st, queue := q, alloc := a, view := v, link := l, cond := c, inUse := i }
      ∧ a.sharing = s.alloc.sharing ∧ i.flags = s.inUse.flags ∧ i.offsets = s.inUse.offsets := by
  obtain ⟨st, q, d, a, v, l, c, hshare⟩ := hu.share
  have hsharing : a.sharing = s.alloc.sharing := by have := hu.sharing; rw [hshare] at this; exact this
  obtain rfl : d = s.attemptDue := by have := hu.due; rw [hshare] at this; exact this
  cases hd with
  | stands heq choice => exact ⟨st, q, a, v, l, c, s.inUse, heq.trans hshare, hsharing, rfl, rfl⟩
  | own hsame hne hcab hown heq =>
    have hacc : t.view.accepted = some s.straps.station := by rw [heq, (ownTaken_seen _).accepted]; rfl
    exact absurd ⟨hcab, fun he => hne (hown.trans (hacc.symm.trans he)), hacc⟩ h
  | other hsame hne hother heq =>
    obtain ⟨l', c', hframe⟩ := otherTaken_frame (u.accepting u.cabChoice)
    obtain ⟨hflags, hoffsets⟩ := holdInUse_says (u.accepting u.cabChoice)
    have huse : (u.accepting u.cabChoice).inUse = s.inUse := hu.share.inUse_eq
    rw [huse] at hflags hoffsets
    refine ⟨st, q, a, { v with accepted := u.cabChoice }, l', c', _, ?_, hsharing, hflags, hoffsets⟩
    rw [heq, hframe, State.accepting, hshare]

end

/-- A step that does nothing but hear a station (R97, R100, R106). -/
theorem finish_hear_hears {s : State} (hs : s.Ready) {source : Station} (f : Frame) (hne : source ≠ s.straps.station) :
    s.Hears source (finish (hear source f s)) := by
  obtain ⟨u, hu, hd⟩ := hear_does f hne
  obtain ⟨hstraps, hpeers, hchoice, hsame, hother⟩ := hd.view hu
  have seen : SeenKept (hear source f s) (finish (hear source f s)) := finish_seen _
  have hentry : ∀ i, i ≠ s.straps.station → (finish (hear source f s)).entry i = u.entry i := fun i hi =>
    (seen.peers i (hstraps.symm ▸ hi)).trans (hpeers i hi)
  exact
    { peers := fun i hi hown => (hentry i hown).trans (hu.peers i hi hown)
      choice := by
        rw [hentry source hne, hu.entry, seen.accepted, seen.cabChoice_eq, hchoice]
        split
        · next h => exact hsame ⟨h.1.symm, h.2.symm⟩
        · next h => exact hother fun h' => h ⟨h'.1.symm, h'.2.symm⟩
      handed := hd.takesChoice hu fun h => (finish_plain _).keeps.latches ((hear_keeps f hne).latches h)
      rest := by
        obtain ⟨st, q, p, n, v, l, o, hf⟩ := finish_frame (hear source f s)
        obtain ⟨_, _, _, _, _, _, _, _, _, _, _, _, huse⟩ := hear_only source f s
        rw [hf, huse]
        exact congrArg (fun a => ({ s with attemptDue := a } : State)) hs.settled.symm
      still := fun h => by
        have hframe := hd.frame hu fun ⟨hcab, hacc, hown⟩ => by
          rw [← seen.accepted] at hacc hown
          rcases h with h | h | h
          · exact hacc h
          · rw [hcab] at h; cases h
          · exact h hown
        obtain ⟨st, q, a, v, l, c, i, hframe, -⟩ := hframe
        have hdue : (hear source f s).attemptDue = false := by rw [hframe]; exact hs.settled
        obtain ⟨v', l', o', hf⟩ := finish_frame_of_settled hdue
        rw [hf, hframe] }

/-- A frame that only its source's entry takes (R97). -/
theorem finish_hear_onlyHears {s : State} (hs : s.Ready) {source : Station} (b : OverrideBody) (hne : source ≠ s.straps.station) :
    s.OnlyHears source (finish (hear source (.override b) s)) where
  entry := by
    obtain ⟨u, hu, hd⟩ := hear_does (.override b) hne
    obtain ⟨hstraps, hpeers, -⟩ := hd.view hu
    rw [(finish_seen _).peers source (hstraps.symm ▸ hne), hpeers source hne, hu.entry]
    rfl
  hears := finish_hear_hears hs _ hne
  alive := fun halive => by
    have hkeeps : (s.entry source).heard s.clock (.override b) = { s.entry source with lastHeard := some s.clock } := by
      simp [Entry.heard, Entry.takeFrame, halive]
    have hhear : hear source (.override b) s = s.hearing source := by
      have hmod : s.modEntry source (Entry.heard s.clock (.override b)) = s.hearing source := by
        rw [State.modEntry, hkeeps]; rfl
      rw [hear, hmod, hkeeps]
      simp [entryChanged]
    rw [hhear]
    exact finish_closes_none _ hs.settled

end Sys2Proof.Machine
end

section
/-! The adoption of a changed state in use (R151): what each of its parts makes of the zones, the doors, the zone fans and the
damper. -/

namespace Sys2Proof.Machine

/-! ### Parts that act on zones, and parts that act on curtains -/

/-- A part of an adoption that acts on the zones and hands their counts on. -/
structure ZoneStep (s t : State) : Prop where
  only : AdoptOnly s t
  doors : t.doors = s.doors
  damper : t.damper = s.damper
  sharing : t.alloc.sharing = s.alloc.sharing
  fans : ∀ f, (t.fan? f).isSome = (s.fan? f).isSome

theorem ZoneStep.refl (s : State) : ZoneStep s s := ⟨.refl s, rfl, rfl, rfl, fun _ => rfl⟩

theorem ZoneStep.trans {s t u : State} (h₁ : ZoneStep s t) (h₂ : ZoneStep t u) : ZoneStep s u where
  only := h₁.only.trans h₂.only
  doors := h₂.doors.trans h₁.doors
  damper := h₂.damper.trans h₁.damper
  sharing := h₂.sharing.trans h₁.sharing
  fans f := (h₂.fans f).trans (h₁.fans f)

/-- A part of an adoption that acts on the curtains and hands their counts on. -/
structure CurtainStep (s t : State) : Prop where
  only : AdoptOnly s t
  zones : t.zones = s.zones
  damper : t.damper = s.damper
  sharing : t.alloc.sharing = s.alloc.sharing
  fans : ∀ z, t.fan? (.zone z) = s.fan? (.zone z)

theorem CurtainStep.refl (s : State) : CurtainStep s s := ⟨.refl s, rfl, rfl, rfl, fun _ => rfl⟩

theorem CurtainStep.trans {s t u : State} (h₁ : CurtainStep s t) (h₂ : CurtainStep t u) : CurtainStep s u where
  only := h₁.only.trans h₂.only
  zones := h₂.zones.trans h₁.zones
  damper := h₂.damper.trans h₁.damper
  sharing := h₂.sharing.trans h₁.sharing
  fans z := (h₂.fans z).trans (h₁.fans z)

theorem modZone_zoneStep (z : Fin 4) (g : Zone → Zone) (s : State) : ZoneStep s (s.modZone z g) :=
  ⟨modZone_only z g s, rfl, rfl, rfl, fun _ => rfl⟩

theorem handOffZone_zoneStep (z : Fin 4) (n m : Nat) (s : State) : ZoneStep s (handOffZone z n m s) :=
  have h := handOffZone_only z n m s
  ⟨h.toAdoptOnly, h.doors_eq, h.damper_eq, by rw [h.alloc_eq], fun f => by rw [fan?_congr h.fans_eq]⟩

theorem recheck_zoneStep (c : Condition) (s : State) : ZoneStep s (recheck c s) :=
  have h := recheck_only c s
  ⟨h.toAdoptOnly, h.doors_eq, h.damper_eq, by rw [h.alloc_eq], fun f => by rw [fan?_congr h.fans_eq]⟩

theorem reformClaims_zoneStep (s : State) : ZoneStep s (reformClaims s) :=
  have h := reformClaims_only s
  ⟨h.toAdoptOnly, h.doors_eq, h.damper_eq, reformClaims_sharing s, fun f => by rw [fan?_congr h.fans_eq]⟩

theorem reformClaims_curtainStep (s : State) : CurtainStep s (reformClaims s) :=
  have h := reformClaims_only s
  ⟨h.toAdoptOnly, h.zones_eq, h.damper_eq, reformClaims_sharing s, fun _ => fan?_congr h.fans_eq _⟩

/-! ### A zone goes OFF (R9) -/

/-- The record of a zone that VENT_ONLY takes OFF. -/
def Zone.offTaken (r : Zone) : Zone :=
  if r.state = .off then r else { r with state := .off, wanted := 0, offer := 0, demand := 0, limited := false }

theorem enterOff_zoneStep (z : Fin 4) (s : State) : ZoneStep s (enterOff z s) := by
  have fan : ∀ u : State, ZoneStep u (u.modFan (.zone z) (fun b => { b with demandLevel := 1 })) := fun u =>
    ⟨(modFan_only _ _ u).toAdoptOnly, rfl, rfl, rfl, fun f => by
      rw [fan?_modFan u (.zone z) f (g := fun b => { b with demandLevel := 1 }) (fun _ => rfl)]
      split
      · exact Option.isSome_map
      · rfl⟩
  unfold enterOff
  split
  · split
    · exact .refl s
    · exact ((modZone_zoneStep z _ s).trans (fan _)).trans (handOffZone_zoneStep z 0 0 _)
  · exact .refl s

theorem enterOff_zone? (z y : Fin 4) (s : State) :
    (enterOff z s).zone? y = if y = z then (s.zone? y).map Zone.offTaken else s.zone? y := by
  have handed : ∀ u : State, (handOffZone z 0 0 u).zone? y = u.zone? y := fun u => by
    rw [State.zone?, (handOffZone_only z 0 0 u).zones_eq]; rfl
  unfold enterOff
  split
  · next r hr =>
    split
    · next hoff =>
      split
      · next he => subst he; rw [hr, Option.map_some, Zone.offTaken, if_pos hoff]
      · rfl
    · next hon =>
      rw [handed]
      split
      · next he =>
        subst he
        exact (zone?_modZone_same s y _).trans (by rw [hr, Option.map_some, Option.map_some, Zone.offTaken, if_neg hon])
      · next hne => exact zone?_modZone_other s _ hne
  · next hnone =>
    split
    · next he => subst he; rw [hnone]; rfl
    · rfl

theorem enterOffAll_zoneStep (s : State) : ZoneStep s (enterOffAll s) :=
  ((((enterOff_zoneStep 0 s).trans (enterOff_zoneStep 1 _)).trans (enterOff_zoneStep 2 _)).trans (enterOff_zoneStep 3 _)).trans
    (recheck_zoneStep _ _)

theorem enterOffAll_zone? (s : State) (y : Fin 4) : (enterOffAll s).zone? y = (s.zone? y).map Zone.offTaken := by
  have hrecheck : ∀ u : State, (recheck .zoneSensor u).zone? y = u.zone? y := fun u => by
    rw [State.zone?, (recheck_only .zoneSensor u).zones_eq]; rfl
  unfold enterOffAll
  rw [hrecheck, enterOff_zone? 3, enterOff_zone? 2, enterOff_zone? 1, enterOff_zone? 0]
  fin_cases y <;> rfl

/-! ### A zone's count is capped (R20) -/

/-- The record of a zone whose count the ECO cap takes. -/
def Zone.capTaken (r : Zone) : Zone := { r with wanted := min r.wanted ((r.avail + 1) / 2) }

theorem capZone_zoneStep (z : Fin 4) (s : State) : ZoneStep s (capZone z s) := by
  unfold capZone
  split
  · dsimp only
    split
    · exact .refl s
    · exact ((modZone_zoneStep z _ s).trans (handOffZone_zoneStep z _ _ _)).trans (reformClaims_zoneStep _)
  · exact .refl s

theorem capZone_fans (z : Fin 4) (s : State) : (capZone z s).fans = s.fans := by
  unfold capZone
  split
  · dsimp only
    split
    · rfl
    · exact (reformClaims_only _).fans_eq.trans (handOffZone_only _ _ _ _).fans_eq
  · rfl

theorem capZone_zone? (z y : Fin 4) (s : State) :
    (capZone z s).zone? y = if y = z then (s.zone? y).map Zone.capTaken else s.zone? y := by
  have handed : ∀ (n m : Nat) (u : State), (reformClaims (handOffZone z n m u)).zone? y = u.zone? y := fun n m u => by
    rw [State.zone?, (reformClaims_only _).zones_eq, (handOffZone_only z n m u).zones_eq]; rfl
  unfold capZone
  split
  · next r hr =>
    have hcap : ecoCap true r.avail r.wanted = min r.wanted ((r.avail + 1) / 2) := ecoCap_eq true r.avail r.wanted
    dsimp only
    rw [hcap]
    split
    · next hsame =>
      split
      · next he => subst he; rw [hr, Option.map_some, Zone.capTaken, hsame]
      · rfl
    · rw [handed]
      split
      · next he =>
        subst he
        exact (zone?_modZone_same s y _).trans (by rw [hr]; rfl)
      · next hne => exact zone?_modZone_other s _ hne
  · next hnone =>
    split
    · next he => subst he; rw [hnone]; rfl
    · rfl

theorem capZones_zoneStep (s : State) : ZoneStep s (capZones s) :=
  (((capZone_zoneStep 0 s).trans (capZone_zoneStep 1 _)).trans (capZone_zoneStep 2 _)).trans (capZone_zoneStep 3 _)

theorem capZones_fans (s : State) : (capZones s).fans = s.fans := by
  unfold capZones
  rw [capZone_fans, capZone_fans, capZone_fans, capZone_fans]

theorem capZones_zone? (s : State) (y : Fin 4) : (capZones s).zone? y = (s.zone? y).map Zone.capTaken := by
  unfold capZones
  rw [capZone_zone? 3, capZone_zone? 2, capZone_zone? 1, capZone_zone? 0]
  fin_cases y <;> rfl

/-! ### A curtain is set (R41, R43, R44) -/

theorem handCurtain_curtainStep (d : Fin 3) (s : State) : CurtainStep s (handCurtain d s) := by
  have hand : ∀ n, CurtainStep s (handOffSingle (.curtain d) .curtain n s) := fun n =>
    have h := handOffSingle_only (.curtain d) .curtain n s
    ⟨h.toAdoptOnly, h.zones_eq, h.damper_eq, by rw [h.alloc_eq], fun _ => fan?_congr h.fans_eq _⟩
  have command : ∀ (n : Nat) (u : State), CurtainStep u (commandFan (.curtain d) n u) := fun n u =>
    have h := commandFan_only (.curtain d) n u
    ⟨h.toAdoptOnly, h.zones_eq, h.damper_eq, by rw [h.alloc_eq], fun z => by
      rw [commandFan_fan?]; exact if_neg fun he => by cases he⟩
  unfold handCurtain
  exact ((hand _).trans (command _ _)).trans (reformClaims_curtainStep _)

theorem setCurtain_curtainStep (d : Fin 3) (c : Curtain) (timer : Timer) (s : State) : CurtainStep s (setCurtain d c timer s) := by
  have set : ∀ g : Door → Door, CurtainStep s (s.modDoor d g) := fun g => ⟨modDoor_only d g s, rfl, rfl, rfl, fun _ => rfl⟩
  unfold setCurtain
  split
  · split
    · exact .refl s
    · dsimp only
      split
      · exact set _
      · exact (set _).trans (handCurtain_curtainStep d _)
  · exact .refl s

theorem door?_modDoor_other (s : State) {d y : Fin 3} (g : Door → Door) (h : y ≠ d) : (s.modDoor d g).door? y = s.door? y :=
  List.getElem?_modify_ne g s.doors (fun he => h (Fin.ext he.symm))

/-- The record of a door whose curtain is set: a door without curtain stages has no curtain. -/
def Door.curtainSet (g : DoorCfg) (c : Curtain) (timer : Timer) (r : Door) : Door :=
  if g.curtainStages = 0 then r else { r with curtain := c, runOn := timer }

theorem door?_handCurtain (d y : Fin 3) (s : State) : (handCurtain d s).door? y = s.door? y := by
  rw [State.door?, (handCurtain_only d s).doors_eq]; rfl

theorem setCurtain_door?_other {d y : Fin 3} (h : y ≠ d) (c : Curtain) (timer : Timer) (s : State) :
    (setCurtain d c timer s).door? y = s.door? y := by
  unfold setCurtain
  split
  · split
    · rfl
    · dsimp only
      split
      · exact door?_modDoor_other s _ h
      · exact (door?_handCurtain d y _).trans (door?_modDoor_other s _ h)
  · rfl

theorem setCurtain_door?_same {d : Fin 3} {s : State} {r : Door} {g : DoorCfg} (hr : s.door? d = some r)
    (hg : s.doorCfg? d = some g) (c : Curtain) (timer : Timer) :
    (setCurtain d c timer s).door? d = some (r.curtainSet g c timer) := by
  unfold setCurtain Door.curtainSet
  rw [hr, hg]
  dsimp only
  split
  · exact hr
  · have hset : (s.modDoor d (fun r => { r with curtain := c, runOn := timer })).door? d
        = some { r with curtain := c, runOn := timer } := (door?_modDoor_same s d _).trans (by rw [hr]; rfl)
    split
    · exact hset
    · exact (door?_handCurtain d d _).trans hset

/-- The record of a door when VENT_ONLY is gained (R44). -/
def Door.vented (g : DoorCfg) (r : Door) : Door :=
  match r.curtain with
  | .wanted => r.curtainSet g .barred .stopped
  | .runOn => r.curtainSet g .off .stopped
  | .off => r
  | .barred => r

/-- The record of a door when LAYOVER is gained (R43). -/
def Door.laidOver (now : Time) (g : DoorCfg) (r : Door) : Door :=
  if r.pastMark now = true ∧ r.curtain = .wanted then r.curtainSet g .barred .stopped else r

theorem ventCurtain_curtainStep (d : Fin 3) (s : State) : CurtainStep s (ventCurtain d s) := by
  unfold ventCurtain
  split
  · split
    · exact setCurtain_curtainStep _ _ _ s
    · exact setCurtain_curtainStep _ _ _ s
    · exact .refl s
    · exact .refl s
  · exact .refl s

theorem layoverCurtain_curtainStep (d : Fin 3) (s : State) : CurtainStep s (layoverCurtain d s) := by
  unfold layoverCurtain barCurtain
  split
  · split
    · split
      · split
        · exact setCurtain_curtainStep _ _ _ s
        · exact .refl s
      · exact .refl s
    · exact .refl s
  · exact .refl s

theorem ventCurtain_door?_other {d y : Fin 3} (h : y ≠ d) (s : State) : (ventCurtain d s).door? y = s.door? y := by
  unfold ventCurtain
  split
  · split
    · exact setCurtain_door?_other h _ _ s
    · exact setCurtain_door?_other h _ _ s
    · rfl
    · rfl
  · rfl

theorem ventCurtain_door?_same {d : Fin 3} {s : State} {r : Door} {g : DoorCfg} (hr : s.door? d = some r)
    (hg : s.doorCfg? d = some g) : (ventCurtain d s).door? d = some (r.vented g) := by
  unfold ventCurtain Door.vented
  rw [hr]
  dsimp only
  cases r.curtain with
  | wanted => exact setCurtain_door?_same hr hg _ _
  | runOn => exact setCurtain_door?_same hr hg _ _
  | off => exact hr
  | barred => exact hr

theorem layoverCurtain_door?_other {d y : Fin 3} (h : y ≠ d) (s : State) : (layoverCurtain d s).door? y = s.door? y := by
  unfold layoverCurtain barCurtain
  split
  · split
    · split
      · split
        · exact setCurtain_door?_other h _ _ s
        · rfl
      · rfl
    · rfl
  · rfl

theorem layoverCurtain_door?_same {d : Fin 3} {s : State} {r : Door} {g : DoorCfg} (hr : s.door? d = some r)
    (hg : s.doorCfg? d = some g) : (layoverCurtain d s).door? d = some (r.laidOver s.clock g) := by
  unfold layoverCurtain barCurtain Door.laidOver
  rw [hr]
  dsimp only
  by_cases hpast : r.pastMark s.clock = true
  · rw [if_pos hpast]
    by_cases hwanted : r.curtain = .wanted
    · rw [if_pos hwanted, if_pos ⟨hpast, hwanted⟩]
      exact setCurtain_door?_same hr hg _ _
    · rw [if_neg hwanted, if_neg fun h => hwanted h.2]
      exact hr
  · rw [if_neg hpast, if_neg fun h => hpast h.1]
    exact hr

/-- A change made at each door in turn. -/
theorem eachDoor_door? {f : Fin 3 → State → State} {k : Door → Door} {s : State} {y : Fin 3} {r : Door}
    (keep : ∀ d u, CurtainStep u (f d u)) (other : ∀ d u, y ≠ d → (f d u).door? y = u.door? y)
    (same : ∀ u, u.config = s.config → u.clock = s.clock → u.door? y = some r → (f y u).door? y = some (k r))
    (hr : s.door? y = some r) : (f 2 (f 1 (f 0 s))).door? y = some (k r) := by
  have h₁ := keep 0 s
  have h₂ := h₁.trans (keep 1 _)
  have hy : y = 0 ∨ y = 1 ∨ y = 2 := by fin_cases y <;> decide
  rcases hy with rfl | rfl | rfl
  · rw [other 2 _ (by decide), other 1 _ (by decide)]
    exact same s rfl rfl hr
  · rw [other 2 _ (by decide)]
    exact same _ h₁.only.config_eq h₁.only.clock_eq ((other 0 s (by decide)).trans hr)
  · exact same _ h₂.only.config_eq h₂.only.clock_eq
      ((other 1 _ (by decide)).trans ((other 0 s (by decide)).trans hr))

section
variable {s : State} {y : Fin 3} {r : Door} {g : DoorCfg}

theorem ventCurtains_door? (hr : s.door? y = some r) (hg : s.doorCfg? y = some g) :
    (ventCurtains s).door? y = some (r.vented g) :=
  eachDoor_door? (k := Door.vented g) ventCurtain_curtainStep (fun _ u h => ventCurtain_door?_other h u)
    (fun u hc _ hu => ventCurtain_door?_same hu (by rw [State.doorCfg?, hc]; exact hg)) hr

theorem layoverCurtains_door? (hr : s.door? y = some r) (hg : s.doorCfg? y = some g) :
    (layoverCurtains s).door? y = some (r.laidOver s.clock g) :=
  eachDoor_door? (k := Door.laidOver s.clock g) layoverCurtain_curtainStep (fun _ u h => layoverCurtain_door?_other h u)
    (fun u hc hk hu => by
      rw [← hk]
      exact layoverCurtain_door?_same hu (by rw [State.doorCfg?, hc]; exact hg)) hr

end

theorem ventCurtains_curtainStep (s : State) : CurtainStep s (ventCurtains s) :=
  ((ventCurtain_curtainStep 0 s).trans (ventCurtain_curtainStep 1 _)).trans (ventCurtain_curtainStep 2 _)

theorem layoverCurtains_curtainStep (s : State) : CurtainStep s (layoverCurtains s) :=
  ((layoverCurtain_curtainStep 0 s).trans (layoverCurtain_curtainStep 1 _)).trans (layoverCurtain_curtainStep 2 _)

/-! ### The zone fans are chosen again (R157) -/

theorem rechooseZoneFan_fan? (z : Fin 4) (f : FanId) (s : State) : (rechooseZoneFan z s).fan? f =
    if f = .zone z then (s.fan? f).map (fun b => b.commanded s.clock (s.zoneFanLevel b.demandLevel)) else s.fan? f := by
  unfold rechooseZoneFan
  split
  · next b hb =>
    rw [commandFan_fan?]
    split
    · next he => subst he; rw [hb]; rfl
    · rfl
  · next hnone =>
    split
    · next he => subst he; rw [hnone]; rfl
    · rfl

/-- In VENT_ONLY every zone fan runs at level 2, in the join listen at 0 (R157). -/
theorem rechooseZoneFans_level {s : State} (hvent : s.inUse.flags.ventOnly = true) (z : Fin 4) (h : (s.fan? (.zone z)).isSome) :
    ∃ b, (rechooseZoneFans s).fan? (.zone z) = some b ∧ b.level = if s.alloc.sharing = .joining then 0 else 2 := by
  have level : ∀ (u : State), FanOnly s u → ∀ n, u.zoneFanLevel n = if s.alloc.sharing = .joining then 0 else 2 :=
    fun u hu n => by rw [State.zoneFanLevel, hu.alloc_eq, hu.inUse_eq, hvent, if_pos rfl]
  have own : ∀ u, FanOnly s u → (u.fan? (.zone z)).isSome → ∃ b, (rechooseZoneFan z u).fan? (.zone z) = some b
      ∧ b.level = if s.alloc.sharing = .joining then 0 else 2 := fun u hu hf => by
    obtain ⟨b, hb⟩ := Option.isSome_iff_exists.1 hf
    refine ⟨_, (rechooseZoneFan_fan? z _ u).trans (by rw [if_pos rfl, hb]; rfl), ?_⟩
    rw [Blower.commanded_level, level u hu]
  have other : ∀ y u, z ≠ y → (rechooseZoneFan y u).fan? (.zone z) = u.fan? (.zone z) := fun y u hne => by
    rw [rechooseZoneFan_fan?, if_neg fun he => hne (FanId.zone.inj he)]
  have h₁ := rechooseZoneFan_only 0 s
  have h₂ := h₁.trans (rechooseZoneFan_only 1 _)
  have h₃ := h₂.trans (rechooseZoneFan_only 2 _)
  unfold rechooseZoneFans
  have hz : z = 0 ∨ z = 1 ∨ z = 2 ∨ z = 3 := by fin_cases z <;> decide
  rcases hz with rfl | rfl | rfl | rfl
  · rw [other 3 _ (by decide), other 2 _ (by decide), other 1 _ (by decide)]
    exact own s (.refl s) h
  · rw [other 3 _ (by decide), other 2 _ (by decide)]
    exact own _ h₁ (by rw [other 0 _ (by decide)]; exact h)
  · rw [other 3 _ (by decide)]
    exact own _ h₂ (by rw [other 1 _ (by decide), other 0 _ (by decide)]; exact h)
  · exact own _ h₃ (by rw [other 2 _ (by decide), other 1 _ (by decide), other 0 _ (by decide)]; exact h)

/-! ### The damper's target (R159) -/

/-- The damper that takes a target count (R159); an overdue stall expiry stands where the motor drives on (R160, log 40). -/
def Damper.aimed (deadband : Nat) (now : Time) (target : Nat) (d : Damper) : Damper :=
  if target = d.target then d
  else if d.state = .tracking then { d with
    target := target, motor := motorFor deadband d.position target
    stall := if motorFor deadband d.position target = d.motor then d.stall
      else if motorFor deadband d.position target = .stopped then .stopped
      else if d.stall.isDue now then d.stall
      else .running (timeAfter now 500) }
  else { d with target := target }

theorem keepStall_damper (before : Timer) (s : State) : (keepStall before s).damper =
    if before.isDue s.clock ∧ s.damper.motor ≠ .stopped then { s.damper with stall := before } else s.damper := by
  unfold keepStall
  split <;> rfl

theorem setMotor_damper (m : Motor) (s : State) : (setMotor m s).damper =
    if m = s.damper.motor then s.damper
    else { s.damper with motor := m, stall := if m = .stopped then .stopped else .running (timeAfter s.clock 500) } := by
  unfold setMotor
  split <;> rfl

theorem trackMotor_damper (s : State) : (trackMotor s).damper =
    if s.damper.state = .tracking then (setMotor (motorFor s.config.deadband s.damper.position s.damper.target) s).damper
    else s.damper := by
  unfold trackMotor
  split <;> rfl

theorem retarget_damper (s : State) : (retarget s).damper = s.damper.aimed s.config.deadband s.clock s.targetCount := by
  have hretarget : (retarget s).damper = if s.targetCount = s.damper.target then s.damper else (keepStall s.damper.stall
      (trackMotor (s.modDamper (fun d => { d with target := s.targetCount })))).damper := by
    unfold retarget
    split <;> rfl
  rw [hretarget]
  unfold Damper.aimed
  by_cases hsame : s.targetCount = s.damper.target
  · rw [if_pos hsame, if_pos hsame]
  rw [if_neg hsame, if_neg hsame, keepStall_damper, (trackMotor_only _).clock_eq]
  by_cases htracking : s.damper.state = .tracking
  · have htrack : (trackMotor (s.modDamper (fun d => { d with target := s.targetCount }))).damper =
        if motorFor s.config.deadband s.damper.position s.targetCount = s.damper.motor
        then { s.damper with target := s.targetCount }
        else { s.damper with
          target := s.targetCount, motor := motorFor s.config.deadband s.damper.position s.targetCount
          stall := if motorFor s.config.deadband s.damper.position s.targetCount = .stopped then .stopped
            else .running (timeAfter s.clock 500) } :=
      (trackMotor_damper _).trans ((if_pos htracking).trans (setMotor_damper _ _))
    rw [htrack, if_pos htracking]
    by_cases hmotor : motorFor s.config.deadband s.damper.position s.targetCount = s.damper.motor
    · rw [if_pos hmotor, if_pos hmotor, hmotor]
      split
      · rfl
      · rfl
    · rw [if_neg hmotor, if_neg hmotor]
      by_cases hstop : motorFor s.config.deadband s.damper.position s.targetCount = .stopped
      · rw [if_pos hstop, if_pos hstop]
        exact if_neg fun h => h.2 hstop
      · rw [if_neg hstop, if_neg hstop]
        by_cases hdue : s.damper.stall.isDue s.clock = true
        · rw [if_pos hdue]
          exact if_pos ⟨hdue, hstop⟩
        · rw [if_neg hdue]
          exact if_neg fun h => hdue h.1
  · have htrack : (trackMotor (s.modDamper (fun d => { d with target := s.targetCount }))).damper =
        { s.damper with target := s.targetCount } := (trackMotor_damper _).trans (if_neg htracking)
    rw [htrack, if_neg htracking]
    split
    · rfl
    · rfl

namespace Damper

variable (deadband : Nat) (now : Time) (target : Nat) (d : Damper)

theorem aimed_target : (d.aimed deadband now target).target = target := by
  unfold Damper.aimed
  split
  · next h => exact h.symm
  · split <;> rfl

theorem aimed_doorOpen : (d.aimed deadband now target).doorOpen = d.doorOpen := by
  unfold Damper.aimed
  split
  · rfl
  · split <;> rfl

/-- A target that stands moves nothing. -/
theorem aimed_aimed : (d.aimed deadband now target).aimed deadband now target = d.aimed deadband now target :=
  if_pos (aimed_target deadband now target d).symm

end Damper

end Sys2Proof.Machine
end

section
/-! A state in use that replaces another (R148, R151): the zones, the doors, the zone fans and the damper it leaves. -/

namespace Sys2Proof.Machine

theorem zone?_congr {s t : State} (h : t.zones = s.zones) (z : Fin 4) : t.zone? z = s.zone? z := by
  rw [State.zone?, h]; rfl

theorem door?_congr {s t : State} (h : t.doors = s.doors) (y : Fin 3) : t.door? y = s.door? y := by
  rw [State.door?, h]; rfl

/-! ### VENT_ONLY changes -/

/-- What a gain of VENT_ONLY comes to before the zone fans are chosen again. -/
def ventHanded (s : State) : State := reformClaims (ventCurtains (enterOffAll s))

theorem ventGained_eq (s : State) : ventGained s = retarget (rechooseZoneFans (ventHanded s)) := rfl

theorem ventHanded_only (s : State) : AdoptOnly s (ventHanded s) :=
  ((enterOffAll_only s).trans (ventCurtains_only _)).trans (reformClaims_only _).toAdoptOnly

theorem ventHanded_damper (s : State) : (ventHanded s).damper = s.damper := by
  rw [ventHanded, (reformClaims_only _).damper_eq, (ventCurtains_curtainStep _).damper, (enterOffAll_zoneStep s).damper]

theorem ventGained_zone? (s : State) (z : Fin 4) : (ventGained s).zone? z = (s.zone? z).map Zone.offTaken := by
  rw [ventGained_eq, zone?_congr (retarget_only _).zones_eq, zone?_congr (rechooseZoneFans_only _).zones_eq, ventHanded,
    zone?_congr (reformClaims_only _).zones_eq, zone?_congr (ventCurtains_curtainStep _).zones]
  exact enterOffAll_zone? s z

theorem ventLost_zone? (s : State) (z : Fin 4) : (ventLost s).zone? z = s.zone? z := by
  unfold ventLost
  rw [zone?_congr (retarget_only _).zones_eq, zone?_congr (rechooseZoneFans_only _).zones_eq,
    zone?_congr (reformClaims_only _).zones_eq]

theorem ventGained_door? {s : State} {y : Fin 3} {r : Door} {g : DoorCfg} (hr : s.door? y = some r)
    (hg : s.doorCfg? y = some g) : (ventGained s).door? y = some (r.vented g) := by
  rw [ventGained_eq, door?_congr (retarget_only _).doors_eq, door?_congr (rechooseZoneFans_only _).doors_eq, ventHanded,
    door?_congr (reformClaims_only _).doors_eq]
  refine ventCurtains_door? ((door?_congr (enterOffAll_zoneStep s).doors y).trans hr) ?_
  rw [State.doorCfg?, (enterOffAll_only s).config_eq]
  exact hg

theorem ventLost_door? (s : State) (y : Fin 3) : (ventLost s).door? y = s.door? y := by
  unfold ventLost
  rw [door?_congr (retarget_only _).doors_eq, door?_congr (rechooseZoneFans_only _).doors_eq,
    door?_congr (reformClaims_only _).doors_eq]

theorem ventGained_fan {s : State} (hvent : s.inUse.flags.ventOnly = true) (z : Fin 4) (h : (s.fan? (.zone z)).isSome) :
    ∃ b, (ventGained s).fan? (.zone z) = some b ∧ b.level = if s.alloc.sharing = .joining then 0 else 2 := by
  have hsharing : (ventHanded s).alloc.sharing = s.alloc.sharing := by
    rw [ventHanded, reformClaims_sharing, (ventCurtains_curtainStep _).sharing, (enterOffAll_zoneStep s).sharing]
  have hfan : ((ventHanded s).fan? (.zone z)).isSome := by
    rw [ventHanded, fan?_congr (reformClaims_only _).fans_eq, (ventCurtains_curtainStep _).fans, (enterOffAll_zoneStep s).fans]
    exact h
  have hvent' : (ventHanded s).inUse.flags.ventOnly = true := by rw [(ventHanded_only s).inUse_eq]; exact hvent
  obtain ⟨b, hb, hlevel⟩ := rechooseZoneFans_level hvent' z hfan
  exact ⟨b, (fan?_congr (retarget_only _).fans_eq _).trans hb, by rw [hlevel, hsharing]⟩

theorem targetCount_congr {s t : State} (hi : t.inUse = s.inUse) (hd : t.damper.doorOpen = s.damper.doorOpen)
    (hc : t.config = s.config) : t.targetCount = s.targetCount := by
  unfold State.targetCount State.targetFraction
  rw [hi, hd, hc]

/-- The damper as a change of VENT_ONLY or RECIRC leaves it. -/
def State.damperAimed (s : State) : Damper := s.damper.aimed s.config.deadband s.clock s.targetCount

theorem retarget_damper_of {s u : State} (h : AdoptOnly s u) (hd : u.damper = s.damper) :
    (retarget u).damper = s.damperAimed := by
  rw [retarget_damper, targetCount_congr h.inUse_eq (by rw [hd]) h.config_eq, hd, h.config_eq, h.clock_eq]
  rfl

theorem ventGained_damper (s : State) : (ventGained s).damper = s.damperAimed :=
  retarget_damper_of ((ventHanded_only s).trans (rechooseZoneFans_only _).toAdoptOnly)
    ((rechooseZoneFans_only _).damper_eq.trans (ventHanded_damper s))

theorem ventLost_damper (s : State) : (ventLost s).damper = s.damperAimed :=
  retarget_damper_of ((reformClaims_only s).toAdoptOnly.trans (rechooseZoneFans_only _).toAdoptOnly)
    ((rechooseZoneFans_only _).damper_eq.trans (reformClaims_only s).damper_eq)

/-! ### Each part of an adoption -/

section
variable (old new : InUse) (s : State)

theorem offsetAdopted_zone? (z : Fin 4) : (offsetAdopted old new s).zone? z = (s.zone? z).map (fun r =>
    if old.offsets.ofCar s.straps.car = new.offsets.ofCar s.straps.car then r
    else { r with pendingOffset := new.offsets.ofCar s.straps.car }) := by
  unfold offsetAdopted
  split
  · cases s.zone? z <;> rfl
  · exact List.getElem?_map

/-- The pending offset is all that an offset's change reaches. -/
theorem offsetAdopted_frame : ∃ zs, offsetAdopted old new s = { s with zones := zs } := by
  unfold offsetAdopted
  split
  · exact ⟨s.zones, rfl⟩
  · exact ⟨_, rfl⟩

theorem ventAdopted_zone? (z : Fin 4) : (ventAdopted old new s).zone? z = (s.zone? z).map (fun r =>
    if (new.flags.ventOnly && !old.flags.ventOnly) = true then r.offTaken else r) := by
  unfold ventAdopted
  split
  · exact ventGained_zone? s z
  · refine Eq.trans ?_ (Option.map_id' (x := s.zone? z)).symm
    split
    · exact ventLost_zone? s z
    · rfl

theorem ecoAdopted_zone? (z : Fin 4) : (ecoAdopted old new s).zone? z = (s.zone? z).map (fun r =>
    if (new.flags.eco && !old.flags.eco) = true then r.capTaken else r) := by
  unfold ecoAdopted
  split
  · exact capZones_zone? s z
  · exact (Option.map_id' (x := s.zone? z)).symm

theorem layoverAdopted_curtainStep : CurtainStep s (layoverAdopted old new s) := by
  unfold layoverAdopted
  split
  · exact layoverCurtains_curtainStep s
  · exact .refl s

theorem recircAdopted_only : DamperOnly s (recircAdopted old new s) := by
  unfold recircAdopted
  split
  · exact .refl s
  · exact retarget_only s

theorem ecoAdopted_zoneStep : ZoneStep s (ecoAdopted old new s) := by
  unfold ecoAdopted
  split
  · exact capZones_zoneStep s
  · exact .refl s

theorem ecoAdopted_fans : (ecoAdopted old new s).fans = s.fans := by
  unfold ecoAdopted
  split
  · exact capZones_fans s
  · rfl

theorem ventAdopted_only : AdoptOnly s (ventAdopted old new s) := by
  unfold ventAdopted
  split
  · exact ventGained_only s
  · split
    · exact ventLost_only s
    · exact .refl s

theorem ventAdopted_door? {y : Fin 3} {r : Door} {g : DoorCfg} (hr : s.door? y = some r) (hg : s.doorCfg? y = some g) :
    (ventAdopted old new s).door? y = some (if (new.flags.ventOnly && !old.flags.ventOnly) = true then r.vented g else r) := by
  unfold ventAdopted
  split
  · exact ventGained_door? hr hg
  · split
    · exact (ventLost_door? s y).trans hr
    · exact hr

theorem layoverAdopted_door? {y : Fin 3} {r : Door} {g : DoorCfg} (hr : s.door? y = some r) (hg : s.doorCfg? y = some g) :
    (layoverAdopted old new s).door? y
      = some (if (new.flags.layover && !old.flags.layover) = true then r.laidOver s.clock g else r) := by
  unfold layoverAdopted
  split
  · exact layoverCurtains_door? hr hg
  · exact hr

theorem ventAdopted_damper : (ventAdopted old new s).damper =
    if new.flags.ventOnly = old.flags.ventOnly then s.damper else s.damperAimed := by
  unfold ventAdopted
  cases hn : new.flags.ventOnly <;> cases ho : old.flags.ventOnly
  · rfl
  · exact ventLost_damper s
  · exact ventGained_damper s
  · rfl

end

/-! ### The whole adoption -/

/-- The state in use is replaced, and an offset's change has been taken. -/
def State.offered (new : InUse) (s : State) : State := offsetAdopted s.inUse new { s with inUse := new }

theorem offered_frame (new : InUse) (s : State) : ∃ zs, s.offered new = { s with inUse := new, zones := zs } :=
  offsetAdopted_frame s.inUse new { s with inUse := new }

/-- The adoption up to the ECO cap. -/
def State.capped (new : InUse) (s : State) : State := ecoAdopted s.inUse new (ventAdopted s.inUse new (s.offered new))

theorem setInUse_eq_capped (new : InUse) (s : State) :
    setInUse new s = recircAdopted s.inUse new (layoverAdopted s.inUse new (s.capped new)) := setInUse_eq new s

section
variable (new : InUse) (s : State)

theorem capped_only : AdoptOnly (s.offered new) (s.capped new) :=
  (ventAdopted_only _ _ _).trans (ecoAdopted_zoneStep _ _ _).only

/-- What the adoption makes of a zone (R9, R20, R151). -/
theorem setInUse_zone? (z : Fin 4) : (setInUse new s).zone? z = (s.zone? z).map (fun r =>
    let r1 := if s.inUse.offsets.ofCar s.straps.car = new.offsets.ofCar s.straps.car then r
      else { r with pendingOffset := new.offsets.ofCar s.straps.car }
    let r2 := if (new.flags.ventOnly && !s.inUse.flags.ventOnly) = true then r1.offTaken else r1
    if (new.flags.eco && !s.inUse.flags.eco) = true then r2.capTaken else r2) := by
  rw [setInUse_eq_capped, zone?_congr (recircAdopted_only _ _ _).zones_eq, zone?_congr (layoverAdopted_curtainStep _ _ _).zones,
    State.capped, ecoAdopted_zone?, ventAdopted_zone?, State.offered, offsetAdopted_zone?, Option.map_map, Option.map_map]
  rfl

/-- What the adoption makes of a door (R43, R44). -/
theorem setInUse_door? {y : Fin 3} {r : Door} {g : DoorCfg} (hr : s.door? y = some r) (hg : s.doorCfg? y = some g) :
    (setInUse new s).door? y = some (
      let r1 := if (new.flags.ventOnly && !s.inUse.flags.ventOnly) = true then r.vented g else r
      if (new.flags.layover && !s.inUse.flags.layover) = true then r1.laidOver s.clock g else r1) := by
  obtain ⟨zs, hoffered⟩ := offered_frame new s
  have hclock : (s.capped new).clock = s.clock := by rw [(capped_only new s).clock_eq, hoffered]
  have hcfg : (s.capped new).doorCfg? y = some g := by
    rw [State.doorCfg?, (capped_only new s).config_eq, hoffered]; exact hg
  have hvent := ventAdopted_door? s.inUse new (s.offered new) (y := y) (r := r) (g := g) (by rw [hoffered]; exact hr)
    (by rw [hoffered]; exact hg)
  rw [setInUse_eq_capped, door?_congr (recircAdopted_only _ _ _).doors_eq]
  refine (layoverAdopted_door? s.inUse new (s.capped new)
    ((door?_congr (ecoAdopted_zoneStep s.inUse new _).doors y).trans hvent) hcfg).trans ?_
  rw [hclock]

/-- A gain of VENT_ONLY commands every zone fan (R157). -/
theorem setInUse_zoneFan (h : (new.flags.ventOnly && !s.inUse.flags.ventOnly) = true) (z : Fin 4)
    (hfan : (s.fan? (.zone z)).isSome) :
    ∃ b, (setInUse new s).fan? (.zone z) = some b ∧ b.level = if s.alloc.sharing = .joining then 0 else 2 := by
  obtain ⟨zs, hoffered⟩ := offered_frame new s
  have hgained : ventAdopted s.inUse new (s.offered new) = ventGained (s.offered new) := if_pos h
  have hnew : new.flags.ventOnly = true := (Bool.and_eq_true_iff.1 h).1
  rw [setInUse_eq_capped, fan?_congr (recircAdopted_only _ _ _).fans_eq, (layoverAdopted_curtainStep _ _ _).fans, State.capped,
    fan?_congr (ecoAdopted_fans _ _ _), hgained]
  have hsharing : (s.offered new).alloc.sharing = s.alloc.sharing := by rw [hoffered]
  rw [← hsharing]
  refine ventGained_fan ?_ z ?_
  · rw [hoffered]; exact hnew
  · rw [hoffered]; exact hfan

/-- What the adoption makes of the damper (R159). -/
theorem setInUse_damper : (setInUse new s).damper =
    if new.flags.ventOnly = s.inUse.flags.ventOnly ∧ new.flags.recirc = s.inUse.flags.recirc then s.damper
    else ({ s with inUse := new } : State).damperAimed := by
  obtain ⟨zs, hoffered⟩ := offered_frame new s
  have hdamper : (layoverAdopted s.inUse new (s.capped new)).damper =
      if new.flags.ventOnly = s.inUse.flags.ventOnly then s.damper else ({ s with inUse := new } : State).damperAimed := by
    rw [(layoverAdopted_curtainStep _ _ _).damper, State.capped, (ecoAdopted_zoneStep _ _ _).damper, ventAdopted_damper, hoffered]
    rfl
  have honly : AdoptOnly (s.offered new) (layoverAdopted s.inUse new (s.capped new)) :=
    (capped_only new s).trans (layoverAdopted_curtainStep _ _ _).only
  have hdoor : (layoverAdopted s.inUse new (s.capped new)).damper.doorOpen = s.damper.doorOpen := by
    rw [hdamper]
    split
    · rfl
    · exact Damper.aimed_doorOpen _ _ _ _
  have hcount : (layoverAdopted s.inUse new (s.capped new)).targetCount = ({ s with inUse := new } : State).targetCount :=
    targetCount_congr (by rw [honly.inUse_eq, hoffered]) hdoor (by rw [honly.config_eq, hoffered])
  rw [setInUse_eq_capped, recircAdopted]
  by_cases hrecirc : new.flags.recirc = s.inUse.flags.recirc
  · rw [if_pos hrecirc, hdamper]
    simp only [hrecirc, and_true]
  · rw [if_neg hrecirc, if_neg fun h => hrecirc h.2, retarget_damper, hcount, hdamper, honly.config_eq, honly.clock_eq, hoffered]
    split
    · rfl
    · exact Damper.aimed_aimed _ _ _ _

end

end Sys2Proof.Machine
end

section
/-! An OVERRIDE frame (R148): its source is heard, and the accepted cab station's state in use is adopted. -/

namespace Sys2Proof.Machine

/-! ### Zones and doors, as the adoption is stated -/

theorem ventTaken_eq (gained had : Bool) {state : ZoneState} {r : Zone} (h : r.state = state) :
    (if (gained && !had) = true then r.offTaken else r) =
      if gained = true ∧ ¬ had = true ∧ state ≠ .off then
        { r with state := .off, wanted := 0, offer := 0, demand := 0, limited := false } else r := by
  subst h
  unfold Zone.offTaken
  cases gained <;> cases had <;> simp only [Bool.and_false, Bool.and_true, Bool.not_true, Bool.not_false, Bool.false_eq_true,
    not_true_eq_false, not_false_eq_true, false_and, and_false, true_and, if_true, if_false]
  split
  · next hoff => rw [if_neg fun h => h hoff]
  · rfl

theorem capTaken_eq (gained had : Bool) {avail : Nat} {r : Zone} (h : r.avail = avail) :
    (if (gained && !had) = true then r.capTaken else r) =
      if gained = true ∧ ¬ had = true then { r with wanted := min r.wanted ((avail + 1) / 2) } else r := by
  subst h
  unfold Zone.capTaken
  cases gained <;> cases had <;> rfl

/-- The record of a door once VENT_ONLY and LAYOVER are adopted: what bars its curtain, and what stops it (R43, R44). -/
theorem curtainsAdopted_eq (gainsVent gainsLayover : Bool) (now : Time) (g : DoorCfg) (r : Door) :
    (let r1 := if gainsVent = true then r.vented g else r
      if gainsLayover = true then r1.laidOver now g else r1) =
    if g.curtainStages = 0 then r
    else if r.curtain = .wanted ∧ (gainsVent = true ∨ (gainsLayover = true ∧ r.pastMark now = true)) then
      { r with curtain := .barred, runOn := .stopped }
    else if gainsVent = true ∧ r.curtain = .runOn then { r with curtain := .off, runOn := .stopped }
    else r := by
  by_cases hnone : g.curtainStages = 0
  · have hset : ∀ (r : Door) c timer, r.curtainSet g c timer = r := fun r c timer => if_pos hnone
    have hvented : r.vented g = r := by
      unfold Door.vented
      split
      · exact hset _ _ _
      · exact hset _ _ _
      · rfl
      · rfl
    have hlaid : r.laidOver now g = r := by
      unfold Door.laidOver
      rw [hset, ite_self]
    simp only [hvented, hlaid, ite_self, if_pos hnone]
  · have hset : ∀ (r : Door) c timer, r.curtainSet g c timer = { r with curtain := c, runOn := timer } :=
      fun r c timer => if_neg hnone
    rw [if_neg hnone]
    cases gainsVent with
    | true => cases hc : r.curtain <;> simp [Door.vented, Door.laidOver, hset, hc]
    | false =>
      by_cases hbars : gainsLayover = true ∧ r.pastMark now = true ∧ r.curtain = .wanted
      · obtain ⟨hgained, hpast, hwanted⟩ := hbars
        simp [Door.laidOver, hset, hgained, hpast, hwanted]
      · have hstands : (if gainsLayover = true then r.laidOver now g else r) = r := by
          split
          · next h => exact if_neg fun hb => hbars ⟨h, hb⟩
          · rfl
        have hbar : ¬ (r.curtain = .wanted ∧ (false = true ∨ gainsLayover = true ∧ r.pastMark now = true)) :=
          fun ⟨hwanted, h⟩ => h.elim (fun h => by cases h) fun ⟨hgained, hpast⟩ => hbars ⟨hgained, hpast, hwanted⟩
        rw [if_neg hbar]
        exact hstands

/-! ### A station other than the accepted one, and the accepted one -/

/-- A source that stays a candidate changes no choice (R106). -/
theorem HearDoes.accepted_stands {s u : State} {source : Station} {b : OverrideBody}
    (hu : s.Counts source ((s.entry source).heard s.clock (.override b)) u)
    (hd : HearDoes s u (s.SameSeen source ((s.entry source).heard s.clock (.override b))) t)
    (h : (s.entry source).state = .alive ∨ ((s.entry source).state = .stale ∧ s.view.accepted = s.cabChoice)) :
    t.view.accepted = s.view.accepted := by
  obtain ⟨-, -, -, hsame, hother⟩ := hd.view hu
  rcases h with halive | ⟨hstale, haccepted⟩
  · refine hsame ⟨halive, ?_⟩
    simp [Entry.heard, Entry.takeFrame, halive]
  · have hnot : ¬ s.SameSeen source ((s.entry source).heard s.clock (.override b)) := fun h => by
      have := h.1
      rw [hstale] at this
      cases this
    rw [hother hnot, haccepted]
    refine cabChoice_congr fun i => ?_
    by_cases hi : i = source
    · subst hi
      rw [hu.entry]
      simp [Entry.isCab, Entry.heard, Entry.takeFrame, hstale]
    · by_cases hown : i = s.straps.station
      · subst hown
        have hi' : u.entry s.straps.station = u.ownEntry := by rw [State.ownEntry, hu.share.straps_eq]
        rw [hi', Entry.isCab, hu.own.1, hu.own.2]
        rfl
      · rw [hu.peers i hi hown]

theorem readOverride_eq (now : Time) (source : Station) (b : OverrideBody) : readOverride now source b =
    { mode := .following
      flags := ⟨b.flags.getLsbD 0, b.flags.getLsbD 1, b.flags.getLsbD 2, b.flags.getLsbD 3, b.flags.getLsbD 4⟩
      offsets := ⟨offsetOf b.offset0, offsetOf b.offset1, offsetOf b.offset2⟩
      layover := min 60 b.layover.toNat, boost := min 120 b.boost.toNat, source := some source
      silence := .running (timeAfter now 5000), hold := .stopped } := by
  rw [← capNat_eq_min, ← capNat_eq_min]
  rfl

/-- What a step leaves that adopts the state in use `new` in `s` (R151), but for the source's entry. -/
structure State.Adopts (s : State) (new : InUse) (t : State) : Prop where
  inUse : t.inUse = new
  zones : ∀ z r, s.zone? z = some r →
    let r1 := if s.inUse.offsets.ofCar s.straps.car = new.offsets.ofCar s.straps.car then r
      else { r with pendingOffset := new.offsets.ofCar s.straps.car }
    let r2 := if new.flags.ventOnly = true ∧ ¬ s.inUse.flags.ventOnly = true ∧ r.state ≠ .off then
        { r1 with state := .off, wanted := 0, offer := 0, demand := 0, limited := false }
      else r1
    t.zone? z = some (if new.flags.eco = true ∧ ¬ s.inUse.flags.eco = true then
      { r2 with wanted := min r2.wanted ((r.avail + 1) / 2) } else r2)
  doors : ∀ y r g, s.door? y = some r → s.doorCfg? y = some g →
    let gainsVent := new.flags.ventOnly && !s.inUse.flags.ventOnly
    let gainsLayover := new.flags.layover && !s.inUse.flags.layover
    t.door? y = some (if g.curtainStages = 0 then r
      else if r.curtain = .wanted ∧ (gainsVent = true ∨ (gainsLayover = true ∧ r.pastMark s.clock = true)) then
        { r with curtain := .barred, runOn := .stopped }
      else if gainsVent = true ∧ r.curtain = .runOn then { r with curtain := .off, runOn := .stopped }
      else r)
  fans : (new.flags.ventOnly && !s.inUse.flags.ventOnly) = true → ∀ z b, s.fan? (.zone z) = some b →
    ∃ b', t.fan? (.zone z) = some b' ∧ b'.level = if s.alloc.sharing = .joining then 0 else 2
  damper : t.damper =
    if new.flags.ventOnly = s.inUse.flags.ventOnly ∧ new.flags.recirc = s.inUse.flags.recirc then s.damper
    else ({ s with inUse := new } : State).damperAimed
  rest : { t with
    zones := s.zones, doors := s.doors, stages := s.stages, queue := s.queue, pacing := s.pacing, seq := s.seq,
    alloc := s.alloc, view := s.view, link := s.link, inUse := s.inUse, fans := s.fans, damper := s.damper,
    cond := s.cond, outputs := s.outputs } = s

/-- The adoption takes the state in use that stood before its source was heard: a hold changes who sets it and nothing it
says. -/
theorem finish_setInUse_adopts {s u : State} (hs : s.attemptDue = false) {st q a v l c i}
    (hu : u = { s with stages := st, queue := q, alloc := a, view := v, link := l, cond := c, inUse := i })
    (hsharing : a.sharing = s.alloc.sharing) (hflags : i.flags = s.inUse.flags) (hoffsets : i.offsets = s.inUse.offsets)
    (new : InUse) : s.Adopts new (finish (setInUse new u)) := by
  have huflags : u.inUse.flags = s.inUse.flags := by rw [hu]; exact hflags
  have huoffsets : u.inUse.offsets = s.inUse.offsets := by rw [hu]; exact hoffsets
  have hcar : u.straps.car = s.straps.car := by rw [hu]
  obtain ⟨st', q', p', n', v', l', o', hfinish⟩ := finish_frame (setInUse new u)
  constructor
  case inUse => rw [hfinish]; exact setInUse_inUse new u
  case zones =>
    intro z r hz
    dsimp only
    have hzones : (finish (setInUse new u)).zones = (setInUse new u).zones := by rw [hfinish]
    rw [zone?_congr hzones, setInUse_zone?, show u.zone? z = some r by rw [hu]; exact hz, Option.map_some,
      huflags, huoffsets, hcar]
    dsimp only
    rw [ventTaken_eq (state := r.state) _ _ (by split <;> rfl),
      capTaken_eq (avail := r.avail) _ _ (by split <;> split <;> rfl)]
  case doors =>
    intro y r g hr hg
    dsimp only
    have hdoors : (finish (setInUse new u)).doors = (setInUse new u).doors := by rw [hfinish]
    rw [door?_congr hdoors, setInUse_door? new u (r := r) (g := g) (by rw [hu]; exact hr) (by rw [hu]; exact hg),
      curtainsAdopted_eq, huflags, show u.clock = s.clock by rw [hu]]
  case fans =>
    intro hgains z b hb
    have hfans : (finish (setInUse new u)).fans = (setInUse new u).fans := by rw [hfinish]
    have hkept : u.fans = s.fans := by rw [hu]
    rw [fan?_congr hfans, ← hsharing, show a = u.alloc by rw [hu]]
    refine setInUse_zoneFan new u (by rw [huflags]; exact hgains) z ?_
    rw [fan?_congr hkept, hb]
    rfl
  case damper =>
    have hdamper : (finish (setInUse new u)).damper = (setInUse new u).damper := by rw [hfinish]
    rw [hdamper, setInUse_damper, huflags, hu]
    rfl
  case rest =>
    obtain ⟨_, _, _, _, _, _, _, _, _, _, _, _, hset⟩ := setInUse_only new u
    rw [hfinish, hset, hu]
    exact congrArg (fun a => ({ s with attemptDue := a } : State)) hs.symm

/-! ### The frame -/

/-- Settles O45: up to the choice of the cab station the frame is heard as any other; the accepted station's is then adopted. -/
theorem overrideFrameIsAdopted : Obligations.OverrideFrameIsAdopted := by
  intro s source b hs hne hpower hcase offset flags offsets car gainsVent gainsLayover d fraction target motor
  have hexec : exec (.overrideFrame source b) s = .next (finish (takeOverride source b (hear source (.override b) s))) := by
    refine Eq.trans (b := whileRunning (receive source (.override b) (takeOverride source b)) s) rfl ?_
    rw [whileRunning_running _ s hs.running, receive, if_neg hne, if_neg hpower]
  obtain ⟨u, hu, hd⟩ := hear_does (.override b) hne
  obtain ⟨hstraps, hpeers, -⟩ := hd.view hu
  have hentry : (hear source (.override b) s).entry source = (s.entry source).heard s.clock (.override b) :=
    (hpeers source hne).trans hu.entry
  have htake : SeenKept (hear source (.override b) s) (takeOverride source b (hear source (.override b) s)) := by
    unfold takeOverride
    split
    · exact setInUse_seen _ _
    · exact .refl _
  have seen := htake.trans (finish_seen _)
  refine ⟨_, hexec, fun hstands => ?_, fun hother => ?_, fun haccepted => ?_⟩
  · rw [seen.accepted]
    refine hd.accepted_stands hu (hstands.imp_right fun hstale => ⟨hstale, ?_⟩)
    refine hcase.elim (fun halive => ?_) fun hfollows => hfollows hs.running
    rw [hstale] at halive
    cases halive
  · have hset : takeOverride source b (hear source (.override b) s) = hear source (.override b) s :=
      if_neg fun h => hother (seen.accepted.trans h)
    rw [hset]
    exact finish_hear_onlyHears hs b hne
  · have hheard : (hear source (.override b) s).view.accepted = some source := seen.accepted.symm.trans haccepted
    have hset : takeOverride source b (hear source (.override b) s) =
        setInUse (readOverride (hear source (.override b) s).clock source b) (hear source (.override b) s) := if_pos hheard
    have hsource := seen.peers source (hstraps.symm ▸ hne)
    rw [hentry] at hsource
    obtain ⟨st, q, a, v, l, c, i, hframe, hsharing, hflags, hoffsets⟩ := hd.frame hu fun h =>
      hne (Option.some.inj (hheard.symm.trans h.2.2))
    have hclock : (hear source (.override b) s).clock = s.clock := by rw [hframe]
    rw [hset, hclock] at hsource ⊢
    have adopts := finish_setInUse_adopts hs.settled hframe hsharing hflags hoffsets (readOverride s.clock source b)
    refine ⟨by rw [hsource]; rfl, by rw [hsource]; rfl, adopts.inUse.trans (readOverride_eq s.clock source b), adopts.zones,
      adopts.doors, adopts.fans, ?_, adopts.rest⟩
    rw [adopts.damper]
    by_cases hsame : flags.ventOnly = s.inUse.flags.ventOnly ∧ flags.recirc = s.inUse.flags.recirc
    · exact (if_pos hsame).trans (if_pos (Or.inr hsame)).symm
    · refine (if_neg hsame).trans ?_
      by_cases htarget : target = d.target
      · exact (if_pos htarget).trans (if_pos (Or.inl htarget)).symm
      · exact (if_neg htarget).trans (if_neg fun h => h.elim htarget hsame).symm

end Sys2Proof.Machine
end

section
/-! An input filter over a run of samples (R25), and the events on one draft list (R35 to R37). -/

namespace Sys2Proof.Machine

/-! ### The input filter -/

theorem Filter.sample_fresh (k n : Nat) (l : Bool) : Filter.sample ⟨none, k⟩ n l = (⟨some l, 0⟩, none) := rfl

theorem Filter.sample_equal (a : Bool) (k n : Nat) : Filter.sample ⟨some a, k⟩ n a = (⟨some a, 0⟩, none) := if_pos rfl

/-- A sample that ends a run is an accepted change. -/
theorem Filter.sample_accepts (a : Bool) {k n : Nat} (h : n ≤ k + 1) :
    Filter.sample ⟨some a, k⟩ n (!a) = (⟨some (!a), 0⟩, some (!a)) :=
  (if_neg (by cases a <;> decide)).trans (if_pos h)

/-- A sample that differs lengthens a run that it does not end. -/
theorem Filter.sample_differs (a : Bool) {k n : Nat} (h : ¬ n ≤ k + 1) :
    Filter.sample ⟨some a, k⟩ n (!a) = (⟨some a, k + 1⟩, none) :=
  (if_neg (by cases a <;> decide)).trans (if_neg h)

/-- A run shorter than the filter's length is counted. -/
theorem Filter.foldl_differs (a : Bool) {n : Nat} : ∀ {m : Nat}, m < n →
    (List.replicate m (!a)).foldl (fun f l => (Filter.sample f n l).1) ⟨some a, 0⟩ = ⟨some a, m⟩
  | 0, _ => rfl
  | m + 1, h => by
    rw [List.replicate_succ', List.foldl_append, Filter.foldl_differs a (Nat.lt_of_succ_lt h)]
    exact congrArg Prod.fst (Filter.sample_differs a (Nat.not_le_of_gt h))

/-- Settles O15. -/
theorem filterAcceptsARun : Obligations.FilterAcceptsARun := by
  intro n a hn
  refine ⟨fun m hm => ⟨Filter.foldl_differs a hm, ?_⟩, ?_, fun k => Filter.sample_equal a k n, fun k => Filter.sample_fresh k n a⟩
  · by_cases hlast : m + 1 = n
    · rw [if_pos hlast, Filter.sample_accepts a hlast.ge]
    · rw [if_neg hlast, Filter.sample_differs a (by omega)]
  · obtain ⟨m, rfl⟩ : ∃ m, n = m + 1 := ⟨n - 1, by omega⟩
    rw [List.replicate_succ', List.foldl_append, Filter.foldl_differs a (Nat.lt_succ_self m)]
    exact congrArg Prod.fst (Filter.sample_accepts a (Nat.le_refl (m + 1)))

/-! ### Events on one draft list -/

/-- The smallest contribution of a list is that of its first record with none below it. -/
theorem smallest_eq {f : Draft → Nat} : ∀ {l : List Draft} {i : Nat} {d : Draft} (k : Nat), l[i]? = some d →
    (∀ d' ∈ l, f d ≤ f d') → (∀ (j : Nat) d', j < i → l[j]? = some d' → f d < f d') → smallest f k l = some (k + i, f d)
  | [], _, _, _, h, _, _ => by cases h
  | x :: l, 0, d, k, h, hmin, _ => by
    obtain rfl : x = d := Option.some.inj h
    have rest : ∀ (l : List Draft) (k : Nat), (∀ d' ∈ l, f x ≤ f d') → ∀ j c, smallest f k l = some (j, c) → f x ≤ c := by
      intro l
      induction l with
      | nil => intro _ _ _ _ hc; cases hc
      | cons y l ih =>
        intro k hl j c hc
        unfold smallest at hc
        split at hc
        · cases hc; exact hl y (List.mem_cons_self ..)
        · next j' c' hrest =>
          have hle := ih (k + 1) (fun d' h' => hl d' (List.mem_cons_of_mem _ h')) j' c' hrest
          split at hc
          · cases hc; exact hl y (List.mem_cons_self ..)
          · cases hc; exact hle
    unfold smallest
    split
    · rfl
    · next j c hc => rw [if_pos (rest l (k + 1) (fun d' h' => hmin d' (List.mem_cons_of_mem _ h')) j c hc)]; rfl
  | x :: l, i + 1, d, k, h, hmin, hfirst => by
    have ih := smallest_eq (k + 1) (i := i) (by simpa using h) (fun d' h' => hmin d' (List.mem_cons_of_mem _ h'))
      (fun j d' hj hd' => hfirst (j + 1) d' (Nat.succ_lt_succ hj) (by simpa using hd'))
    unfold smallest
    rw [ih]
    dsimp only
    rw [if_neg (Nat.not_le_of_gt (hfirst 0 x (Nat.succ_pos i) rfl)), Nat.add_right_comm, Nat.add_assoc]

theorem anyFor_iff {l : List Draft} {station : Station} {door : Fin 3} :
    l.any (fun d => d.isFor station door) = true ↔ ∃ d ∈ l, d.isFor station door = true := List.any_eq_true

section
variable (f : Draft → Nat) {x : Draft} {l : List Draft}

/-- A record for the door is replaced in its place (R35). -/
theorem draftOpened_replaces (h : ∃ d ∈ l, d.isFor x.station x.door = true) (hw : 0 < x.weight) :
    draftOpened f x l = l.map (fun d => if d.station = x.station ∧ d.door = x.door then x else d) := by
  unfold draftOpened
  rw [if_pos (anyFor_iff.2 h), if_neg (Nat.pos_iff_ne_zero.1 hw)]
  simp only [Draft.isFor_iff]

/-- A record for the door is removed by a weight of 0 (R35). -/
theorem draftOpened_removes (h : ∃ d ∈ l, d.isFor x.station x.door = true) (hw : x.weight = 0) :
    draftOpened f x l = l.filter (fun d => ¬ (d.station = x.station ∧ d.door = x.door)) := by
  unfold draftOpened
  rw [if_pos (anyFor_iff.2 h), if_pos hw]
  refine List.filter_congr fun d _ => ?_
  rw [Bool.eq_iff_iff, Bool.not_eq_true', ← Bool.not_eq_true, Draft.isFor_iff, decide_eq_true_eq]

/-- A door without a record gets one, at the back of a list that has room (R35), and in a full list by R36. -/
theorem draftOpened_new (h : ∀ d ∈ l, d.isFor x.station x.door = false) : draftOpened f x l =
    if x.weight = 0 then l else if l.length < 8 then l ++ [x] else replaceSmallest f x l := by
  have hany : ¬ l.any (fun d => d.isFor x.station x.door) = true := fun hany => by
    obtain ⟨d, hd, hfor⟩ := anyFor_iff.1 hany
    rw [h d hd] at hfor
    cases hfor
  unfold draftOpened
  rw [if_neg hany]

end

/-- Settles O19. -/
theorem draftEventsActOnTheList : Obligations.DraftEventsActOnTheList := by
  intro f x l
  refine ⟨draftOpened_replaces f, draftOpened_removes f, fun hnone => ⟨fun hw => ?_, fun hw hroom => ?_, fun hw hfull i d hd hmin
    hfirst => ?_⟩, fun now total => ⟨List.length_map _, fun i d hd => ?_⟩⟩
  · rw [draftOpened_new f hnone, if_pos hw]
  · rw [draftOpened_new f hnone, if_neg (by omega), if_pos hroom]
  · rw [draftOpened_new f hnone, if_neg (by omega), if_neg (by omega), replaceSmallest, smallest_eq 0 hd hmin hfirst]
    simp only [Nat.zero_add]
  · rw [draftClosed, List.getElem?_map, hd]
    simp only [Option.map_some, Bool.and_eq_true, Draft.isFor_iff, beq_iff_eq, and_assoc]

end Sys2Proof.Machine
end

section
/-! What one relation of states must keep for a whole hand-off, and for a whole adoption, to keep it; and a curtain's hand-off by
what it leaves of the transmit list, the stages and the fan (R41, R49). -/

namespace Sys2Proof.Machine

/-! ### What each change of a hand-off keeps -/

/-- A relation of states that each single change of an adoption keeps (R151): those of a recomputation, and of the records that an
adoption writes. -/
structure Adopts (R : State → State → Prop) : Prop extends Recomputes R where
  stages : ∀ {s t}, StageOnly s t → R s t
  damper : ∀ {s t}, DamperOnly s t → R s t
  fans : ∀ s l, R s { s with fans := l }
  zones : ∀ s l, R s { s with zones := l }
  doors : ∀ s l, R s { s with doors := l }
  inUse : ∀ s i, R s { s with inUse := i }

namespace Adopts

variable {R : State → State → Prop}

theorem commandFan (h : Adopts R) (f : FanId) (level : Nat) (s : State) : R s (commandFan f level s) := by
  have fan : ∀ (g : Blower → Blower) (u : State), R u (u.modFan f g) := fun g u => h.fans u _
  unfold Machine.commandFan
  split
  · exact h.refl s
  · dsimp only
    split
    · exact h.refl s
    · split
      · split
        · exact h.trans (fan _ s) (fan _ _)
        · exact fan _ s
        · exact fan _ s
        · exact fan _ s
      · split
        · have stopped := h.trans (h.trans (fan (fun b => { b with level := level }) s) (fan Blower.stop _)) (h.recheck .blowerFailed _)
          split
          · exact h.trans stopped (h.stages (blowerLoss_only f _))
          · exact stopped
        · exact fan _ s

theorem rechooseZoneFan (h : Adopts R) (z : Fin 4) (s : State) : R s (rechooseZoneFan z s) := by
  unfold Machine.rechooseZoneFan
  split
  · exact h.commandFan _ _ s
  · exact h.refl s

theorem rechooseZoneFans (h : Adopts R) (s : State) : R s (rechooseZoneFans s) :=
  h.trans (h.trans (h.trans (h.rechooseZoneFan 0 s) (h.rechooseZoneFan 1 _)) (h.rechooseZoneFan 2 _)) (h.rechooseZoneFan 3 _)

theorem handCurtain (h : Adopts R) (d : Fin 3) (s : State) : R s (handCurtain d s) :=
  h.trans (h.trans (h.stages (handOffSingle_only _ _ _ s)) (h.commandFan _ _ _)) (h.reformClaims _)

theorem setCurtain (h : Adopts R) (d : Fin 3) (c : Curtain) (timer : Timer) (s : State) : R s (setCurtain d c timer s) := by
  have set : ∀ g : Door → Door, R s (s.modDoor d g) := fun g => h.doors s _
  unfold Machine.setCurtain
  split
  · split
    · exact h.refl s
    · dsimp only
      split
      · exact set _
      · exact h.trans (set _) (h.handCurtain d _)
  · exact h.refl s

theorem ventCurtain (h : Adopts R) (d : Fin 3) (s : State) : R s (ventCurtain d s) := by
  unfold Machine.ventCurtain
  split
  · split
    · exact h.setCurtain _ _ _ s
    · exact h.setCurtain _ _ _ s
    · exact h.refl s
    · exact h.refl s
  · exact h.refl s

theorem layoverCurtain (h : Adopts R) (d : Fin 3) (s : State) : R s (layoverCurtain d s) := by
  have bar : R s (barCurtain d s) := by
    unfold barCurtain
    split
    · split
      · exact h.setCurtain _ _ _ s
      · exact h.refl s
    · exact h.refl s
  unfold Machine.layoverCurtain
  split
  · split
    · exact bar
    · exact h.refl s
  · exact h.refl s

theorem enterOff (h : Adopts R) (z : Fin 4) (s : State) : R s (enterOff z s) := by
  unfold Machine.enterOff
  split
  · split
    · exact h.refl s
    · exact h.trans (h.trans (h.zones s _) (h.fans _ _)) (h.stages (handOffZone_only z 0 0 _))
  · exact h.refl s

theorem capZone (h : Adopts R) (z : Fin 4) (s : State) : R s (capZone z s) := by
  unfold Machine.capZone
  split
  · dsimp only
    split
    · exact h.refl s
    · exact h.trans (h.trans (h.zones s _) (h.stages (handOffZone_only z _ _ _))) (h.reformClaims _)
  · exact h.refl s

theorem ventGained (h : Adopts R) (s : State) : R s (ventGained s) := by
  have off : R s (enterOffAll s) := h.trans (h.trans (h.trans (h.trans (h.enterOff 0 s) (h.enterOff 1 _)) (h.enterOff 2 _))
    (h.enterOff 3 _)) (h.recheck _ _)
  have vent : ∀ u, R u (ventCurtains u) := fun u =>
    h.trans (h.trans (h.ventCurtain 0 u) (h.ventCurtain 1 _)) (h.ventCurtain 2 _)
  exact h.trans (h.trans (h.trans (h.trans off (vent _)) (h.reformClaims _)) (h.rechooseZoneFans _)) (h.damper (retarget_only _))

theorem ventLost (h : Adopts R) (s : State) : R s (ventLost s) :=
  h.trans (h.trans (h.reformClaims s) (h.rechooseZoneFans _)) (h.damper (retarget_only _))

/-- An adoption keeps what each of its changes keeps. -/
theorem setInUse (h : Adopts R) (new : InUse) (s : State) : R s (setInUse new s) := by
  have offset : ∀ u, R u (offsetAdopted s.inUse new u) := fun u => by
    unfold offsetAdopted
    split
    · exact h.refl u
    · exact h.zones u _
  have vent : ∀ u, R u (ventAdopted s.inUse new u) := fun u => by
    unfold ventAdopted
    split
    · exact h.ventGained u
    · split
      · exact h.ventLost u
      · exact h.refl u
  have eco : ∀ u, R u (ecoAdopted s.inUse new u) := fun u => by
    unfold ecoAdopted
    split
    · exact h.trans (h.trans (h.trans (h.capZone 0 u) (h.capZone 1 _)) (h.capZone 2 _)) (h.capZone 3 _)
    · exact h.refl u
  have layover : ∀ u, R u (layoverAdopted s.inUse new u) := fun u => by
    unfold layoverAdopted
    split
    · exact h.trans (h.trans (h.layoverCurtain 0 u) (h.layoverCurtain 1 _)) (h.layoverCurtain 2 _)
    · exact h.refl u
  have recirc : ∀ u, R u (recircAdopted s.inUse new u) := fun u => by
    unfold recircAdopted
    split
    · exact h.refl u
    · exact h.damper (retarget_only u)
  rw [setInUse_eq]
  exact h.trans (h.inUse s new)
    (h.trans (h.trans (h.trans (h.trans (offset _) (vent _)) (eco _)) (layover _)) (recirc _))

theorem takeWord (h : Adopts R) (s : State) : R s (takeWord s) := by
  unfold Machine.takeWord
  split
  · exact h.setInUse _ s
  · exact h.refl s

end Adopts

/-- A relation that the closing's own changes keep is kept by the closing. -/
theorem finish_keeps_relation {R : State → State → Prop} (trans : ∀ {s t u}, R s t → R t u → R s u) (refl : ∀ s, R s s)
    (note : ∀ s, R s (noteDraw s)) (admission : ∀ {s t : State}, AdmitOnly s t → t.view = s.view → t.link = s.link → R s t)
    (drive : ∀ s, R s (driveOutputs s)) (s : State) : R s (finish s) := by
  have attempt : ∀ u : State, R u (admissionAttempt u) := fun u => by
    rcases admissionAttempt_does u with h | ⟨i, st, -, -, -, h⟩ | ⟨i, st, -, -, -, h⟩
    · rw [h]; exact refl u
    · rw [h]; exact admission (resume_only i u) rfl rfl
    · rw [h]; exact admission (admit_only i u) rfl rfl
  have pay : R s (payAttempt s) := by
    unfold payAttempt
    split
    · exact trans (t := { s with attemptDue := false })
        (admission ⟨s.stages, s.queue, false, s.pacing, s.seq, s.view, s.link, rfl⟩ rfl rfl)
        (trans (note _) (attempt _))
    · exact refl s
  exact trans (trans pay (note _)) (drive _)

/-! ### DOOR entries that wait (R121) -/

/-- A waiting entry of kind DOOR: its body, its failed attempts and its backoff wait. -/
def TxEntry.asDoor (w : TxEntry) : Option (DoorBody × Nat × Nat) :=
  match w.frame with
  | .door b => some (b, w.failed, w.backoff)
  | _ => none

/-- The transmit list as far as DOOR entries go. -/
def State.doorEntries (s : State) : List (Option (DoorBody × Nat × Nat)) := s.link.list.map TxEntry.asDoor

/-- The DOOR entries wait on in their places, and what joins behind them is no DOOR entry; a latch that is set stays set. -/
structure DoorsWait (s t : State) : Prop where
  grows : ∃ k, t.doorEntries = s.doorEntries ++ List.replicate k none
  latched : ∀ c, flagSet s.cond.latched c = true → flagSet t.cond.latched c = true

theorem DoorsWait.refl (s : State) : DoorsWait s s := ⟨⟨0, (List.append_nil _).symm⟩, fun _ h => h⟩

theorem DoorsWait.trans {s t u : State} (h₁ : DoorsWait s t) (h₂ : DoorsWait t u) : DoorsWait s u := by
  obtain ⟨⟨k₁, hk₁⟩, hl₁⟩ := h₁
  obtain ⟨⟨k₂, hk₂⟩, hl₂⟩ := h₂
  exact ⟨⟨k₁ + k₂, by rw [hk₂, hk₁, List.append_assoc, List.replicate_append_replicate]⟩, fun c h => hl₂ c (hl₁ c h)⟩

theorem DoorsWait.of_eq {s t : State} (hl : t.link.list = s.link.list) (hc : t.cond = s.cond) : DoorsWait s t :=
  ⟨⟨0, by rw [State.doorEntries, hl]; exact (List.append_nil _).symm⟩, fun c h => by rw [hc]; exact h⟩

/-- An entry's place keeps its DOOR entry, or keeps holding none. -/
theorem DoorsWait.entry {s t : State} (h : DoorsWait s t) {n : Nat} {w : TxEntry} (hw : s.link.list[n]? = some w) :
    ∃ w', t.link.list[n]? = some w' ∧ w'.asDoor = w.asDoor := by
  obtain ⟨k, hk⟩ := h.grows
  have hs : s.doorEntries[n]? = some w.asDoor := by rw [State.doorEntries, List.getElem?_map, hw]; rfl
  have ht : t.doorEntries[n]? = some w.asDoor := by
    rw [hk, List.getElem?_append_left (List.getElem?_eq_some_iff.1 hs).1, hs]
  rw [State.doorEntries, List.getElem?_map] at ht
  exact Option.map_eq_some_iff.1 ht

/-- A DOOR entry stands where one stood. -/
theorem DoorsWait.entry_back {s t : State} (h : DoorsWait s t) {n : Nat} {w : TxEntry} (hw : t.link.list[n]? = some w) :
    w.asDoor = none ∨ ∃ w', s.link.list[n]? = some w' ∧ w'.asDoor = w.asDoor := by
  obtain ⟨k, hk⟩ := h.grows
  have ht : t.doorEntries[n]? = some w.asDoor := by rw [State.doorEntries, List.getElem?_map, hw]; rfl
  rw [hk] at ht
  rcases Nat.lt_or_ge n s.doorEntries.length with hn | hn
  · rw [List.getElem?_append_left hn, State.doorEntries, List.getElem?_map] at ht
    exact .inr (Option.map_eq_some_iff.1 ht)
  · rw [List.getElem?_append_right hn] at ht
    exact .inl (List.eq_of_mem_replicate (List.mem_of_getElem? ht))

theorem TxEntry.isDoor_eq (w : TxEntry) : w.frame.isDoor = w.asDoor.isSome := by
  unfold TxEntry.asDoor
  cases w.frame <;> rfl

theorem TxEntry.asDoor_some {w : TxEntry} {b : DoorBody} {f k : Nat} :
    w.asDoor = some (b, f, k) ↔ w.frame = .door b ∧ w.failed = f ∧ w.backoff = k := by
  unfold TxEntry.asDoor
  cases w.frame <;> simp

/-- How many DOOR entries wait. -/
theorem DoorsWait.count {s t : State} (h : DoorsWait s t) :
    (t.link.list.filter (fun w => w.frame.isDoor)).length = (s.link.list.filter (fun w => w.frame.isDoor)).length := by
  have count : ∀ u : State, (u.link.list.filter (fun w => w.frame.isDoor)).length = (u.doorEntries.filter Option.isSome).length :=
    fun u => by
      rw [State.doorEntries, List.filter_map, List.length_map]
      exact congrArg (fun p => (u.link.list.filter p).length) (funext TxEntry.isDoor_eq)
  obtain ⟨k, hk⟩ := h.grows
  have hnone : (List.replicate k (none : Option (DoorBody × Nat × Nat))).filter Option.isSome = [] :=
    List.filter_eq_nil_iff.2 fun x hx => by rw [List.eq_of_mem_replicate hx]; exact Bool.false_ne_true
  rw [count, count, hk, List.filter_append, hnone, List.append_nil]

/-! ### What leaves the DOOR entries waiting -/

theorem mapEntries_asDoor {g : Bool → TxEntry → TxEntry} (hg : ∀ b e, (g b e).asDoor = e.asDoor) :
    ∀ (l : List TxEntry) (b : Bool), (mapEntries b g l).map TxEntry.asDoor = l.map TxEntry.asDoor
  | [], _ => rfl
  | e :: l, b => by rw [mapEntries, List.map_cons, List.map_cons, hg, mapEntries_asDoor hg l]

theorem withList_doorsWait {s : State} {l : List TxEntry} (h : l.map TxEntry.asDoor = s.doorEntries) : DoorsWait s (s.withList l) :=
  ⟨⟨0, h.trans (List.append_nil _).symm⟩, fun _ h => h⟩

theorem joinList_doorsWait {f : Frame} (hf : f.isDoor = false) (s : State) : DoorsWait s (joinList f s) := by
  have hnone : TxEntry.asDoor ⟨f, 0, 0, false⟩ = none := by
    cases f with
    | door b => cases hf
    | _ => rfl
  refine ⟨⟨1, ?_⟩, fun _ h => h⟩
  simp [State.doorEntries, joinList, hnone]

theorem isDoor_of_sameKind {a b : Frame} (h : sameKind a b = true) : a.isDoor = b.isDoor := by
  have code : ∀ f : Frame, f.isDoor = (kindCode f == 4#4) := fun f => by cases f <;> rfl
  rw [code, code, beq_iff_eq.1 h]

theorem replace_asDoor (b : Bool) {f : Frame} (hf : f.isDoor = false) {e : TxEntry} (he : e.frame.isDoor = false) :
    (e.replace b f).asDoor = e.asDoor := by
  have none_of : ∀ w : TxEntry, w.frame.isDoor = false → w.asDoor = none := fun w hw => by
    rw [TxEntry.isDoor_eq] at hw
    exact Option.isSome_eq_false_iff.1 hw |> Option.isNone_iff_eq_none.1
  rw [none_of e he, none_of _ hf]

theorem queueSingle_doorsWait {f : Frame} (hf : f.isDoor = false) (s : State) : DoorsWait s (queueSingle f s) := by
  unfold queueSingle
  split
  · refine withList_doorsWait (mapEntries_asDoor (fun b e => ?_) _ _)
    split
    · next h => exact replace_asDoor b hf ((isDoor_of_sameKind h).trans hf)
    · rfl
  · exact joinList_doorsWait hf s

theorem refreshList_doorsWait (s : State) : DoorsWait s (refreshList s) := by
  have kind : ∀ f : Frame, (s.figures f).isDoor = f.isDoor := fun f => by
    cases f with
    | override b => unfold State.figures State.overrideFrame; cases s.word <;> rfl
    | _ => rfl
  refine withList_doorsWait (mapEntries_asDoor (fun b e => ?_) _ _)
  split
  · rfl
  · next h =>
    cases hd : e.frame.isDoor with
    | false => exact replace_asDoor b ((kind _).trans hd) hd
    | true =>
      exfalso
      cases hframe : e.frame with
      | door b => rw [hframe] at h; exact h rfl
      | _ => rw [hframe] at hd; cases hd

theorem latch_doorsWait (c : Condition) (s : State) : DoorsWait s (latch c s) := by
  have status : ∀ u : State, DoorsWait u (queueStatus u) := fun u => by
    unfold queueStatus
    split
    · exact .refl u
    · exact queueSingle_doorsWait rfl u
  refine ⟨?_, fun c' h => by rw [latch_latched, h, Bool.or_true]⟩
  unfold latch
  split
  · exact (DoorsWait.refl s).grows
  · obtain ⟨k, hk⟩ := (status { s with cond := { s.cond with latched := withFlag s.cond.latched c } }).grows
    exact ⟨k, hk⟩

theorem recheck_doorsWait (c : Condition) (s : State) : DoorsWait s (recheck c s) := by
  have current : ∀ w : BitVec 16, DoorsWait s (refreshList { s with cond := { s.cond with current := w } }) := fun w => by
    obtain ⟨k, hk⟩ := (refreshList_doorsWait { s with cond := { s.cond with current := w } }).grows
    exact ⟨⟨k, hk⟩, fun _ h => h⟩
  unfold recheck
  split
  · unfold raiseCondition
    split
    · exact .refl s
    · exact (current _).trans (latch_doorsWait c _)
  · exact current _

theorem demandDue_doorsWait (s : State) : DoorsWait s (demandDue s) := by
  unfold demandDue
  split
  · exact .refl s
  · split
    · exact .refl s
    · split
      · exact .of_eq rfl rfl
      · exact joinList_doorsWait rfl s

theorem modOwn_doorsWait (g : Entry → Entry) (s : State) : DoorsWait s (modOwn g s) :=
  .trans (t := s.modEntry s.straps.station g) (.of_eq rfl rfl) (refreshList_doorsWait _)

theorem StageOnly.doorsWait {s t : State} (h : StageOnly s t) : DoorsWait s t := .of_eq (by rw [h.link_eq]) h.cond_eq

theorem DamperOnly.doorsWait {s t : State} (h : DamperOnly s t) : DoorsWait s t := .of_eq (by rw [h.link_eq]) h.cond_eq

theorem adopts_doorsWait : Adopts DoorsWait where
  refl := .refl
  trans := .trans
  alloc _ _ := .of_eq rfl rfl
  claims _ := modOwn_doorsWait _
  intents _ := modOwn_doorsWait _
  cut c s := (cut_only c s).doorsWait
  due := demandDue_doorsWait
  recheck := recheck_doorsWait
  stages := StageOnly.doorsWait
  damper := DamperOnly.doorsWait
  fans _ _ := .of_eq rfl rfl
  zones _ _ := .of_eq rfl rfl
  doors _ _ := .of_eq rfl rfl
  inUse _ _ := .of_eq rfl rfl

theorem finish_doorsWait (s : State) : DoorsWait s (finish s) :=
  finish_keeps_relation .trans .refl (fun _ => .trans (t := writeDraw _) (.of_eq rfl rfl) (refreshList_doorsWait _))
    (fun h _ hl => .of_eq (by rw [hl]) h.cond_eq) (fun _ => .of_eq rfl rfl) s

/-! ### A single owner's hand-off (R49) -/

/-- An owner that holds as many stages as are not FAULTY has no IDLE stage. -/
theorem noneIdle_of_goodCount {s : State} {o : Owner} {c : Cls} (h : s.goodCount o ≤ s.heldCount o c) : s.NoneIdle o := by
  have sub : ∀ l : List Stage, ((l.filter (fun st => st.heldFor o c)).length
      ≤ (l.filter (fun st => st.owner == o && !(st.state == .faulty))).length)
      ∧ ((l.filter (fun st => st.owner == o && !(st.state == .faulty))).length ≤ (l.filter (fun st => st.heldFor o c)).length →
        ∀ st ∈ l, st.owner = o → st.state ≠ .idle) := by
    intro l
    induction l with
    | nil => exact ⟨Nat.le_refl _, fun _ st hst => by cases hst⟩
    | cons x l ih =>
      obtain ⟨hle, hnone⟩ := ih
      have good_of_held : x.heldFor o c = true → (x.owner == o && !(x.state == .faulty)) = true := fun hx => by
        obtain ⟨ho, hheld, -⟩ := Stage.heldFor_iff.1 hx
        rcases (Stage.isHeld_iff x).1 hheld with hs | hs | hs <;> simp [ho, hs]
      rw [List.filter_cons, List.filter_cons]
      by_cases hx : x.heldFor o c = true
      · rw [if_pos hx, if_pos (good_of_held hx)]
        refine ⟨Nat.succ_le_succ hle, fun hcount st hst ho => ?_⟩
        rcases List.mem_cons.1 hst with rfl | hst
        · rcases (Stage.isHeld_iff st).1 (Stage.heldFor_iff.1 hx).2.1 with hs | hs | hs <;> simp [hs]
        · exact hnone (Nat.le_of_succ_le_succ hcount) st hst ho
      · rw [if_neg hx]
        by_cases hgood : (x.owner == o && !(x.state == .faulty)) = true
        · rw [if_pos hgood]
          exact ⟨Nat.le_succ_of_le hle, fun hcount => absurd (Nat.le_trans hcount hle) (Nat.not_succ_le_self _)⟩
        · rw [if_neg hgood]
          refine ⟨hle, fun hcount st hst ho hidle => ?_⟩
          rcases List.mem_cons.1 hst with rfl | hst
          · exact hgood (by simp [ho, hidle])
          · exact hnone hcount st hst ho hidle
  exact (sub s.stages).2 (heldCount_eq s o c ▸ h)

/-- After a hand-off the owner holds the handed count, or has no IDLE stage left (R49, R50, R52). -/
theorem handOffSingle_handed {s : State} (h : s.QueueSound) (o : Owner) (c : Cls) (n : Nat) :
    (handOffSingle o c n s).Handed o c n := by
  obtain ⟨hsound, hcount, -⟩ := withdrawTo_counts h o c (min n (s.goodCount o))
  have hle := Nat.le_trans (Nat.le_of_eq hcount) (Nat.min_le_left _ _)
  obtain ⟨-, hhanded, -⟩ := fillTo_counts hsound o c hle
  have hgood : (handOffSingle o c n s).goodCount o = s.goodCount o :=
    goodCount_of_faults (handOffSingle_faults h.clean o c n).faults o
  rcases hhanded with hmet | ⟨hlt, hnone⟩
  · change (handOffSingle o c n s).heldCount o c = _ at hmet
    rcases Nat.le_total n (s.goodCount o) with hn | hn
    · exact .inl (by rw [hmet, Nat.min_eq_left hn])
    · rw [Nat.min_eq_right hn] at hmet
      rcases Nat.eq_or_lt_of_le hn with he | hlt
      · exact .inl (hmet.trans he)
      · exact .inr ⟨by rw [hmet]; exact hlt, noneIdle_of_goodCount (by rw [hgood, hmet])⟩
  · exact .inr ⟨Nat.lt_of_lt_of_le hlt (Nat.min_le_left _ _), hnone⟩

/-! ### A curtain is handed on (R41, R49) -/

/-- The stages and the fan of a curtain follow whether it is wanted. -/
structure CurtainHanded (d : Fin 3) (g : DoorCfg) (c : Curtain) (s t : State) : Prop where
  stages : s.QueueSound → t.Handed (.curtain d) .curtain (if c.isWanted then g.curtainStages else 0)
  fan : ∀ b, s.fan? (.curtain d) = some b → ∃ b', t.fan? (.curtain d) = some b' ∧ b'.level = if c.isWanted then 1 else 0

/-- What stands before the hand-off and after it does not matter but for the stages' roles, the queue and the fan's level. -/
theorem CurtainHanded.congr {d : Fin 3} {g : DoorCfg} {c : Curtain} {s s' t t' : State} (h : CurtainHanded d g c s t)
    (hs : s.stages = s'.stages) (hq : s.queue = s'.queue) (hf : (s'.fan? (.curtain d)).isSome → (s.fan? (.curtain d)).isSome)
    (hr : t'.roles = t.roles) (hl : (t'.fan? (.curtain d)).map (·.level) = (t.fan? (.curtain d)).map (·.level)) :
    CurtainHanded d g c s' t' where
  stages hsound := Handed_of_roles hr (h.stages (queueSound_congr hs hq hsound))
  fan b hb := by
    obtain ⟨x, hx⟩ := Option.isSome_iff_exists.1 (hf (by rw [hb]; rfl))
    obtain ⟨b', hb', hlevel⟩ := h.fan x hx
    rw [hb', Option.map_some] at hl
    obtain ⟨b'', hb'', heq⟩ := Option.map_eq_some_iff.1 hl
    exact ⟨b'', hb'', heq.trans hlevel⟩

theorem handCurtain_handed {d : Fin 3} {s : State} {r : Door} {g : DoorCfg} (hr : s.door? d = some r)
    (hg : s.doorCfg? d = some g) (hn : g.curtainStages ≠ 0) : CurtainHanded d g r.curtain s (handCurtain d s) := by
  have hcount : s.curtainCount d = if r.curtain.isWanted then g.curtainStages else 0 := by rw [State.curtainCount, hr, hg]
  have hlevel : (if s.curtainCount d = 0 then 0 else 1) = if r.curtain.isWanted then 1 else 0 := by
    rw [hcount]
    cases r.curtain.isWanted with
    | false => rfl
    | true => exact if_neg hn
  have roles := ((commandFan_roles (.curtain d) (if s.curtainCount d = 0 then 0 else 1)
    (handOffSingle (.curtain d) .curtain (s.curtainCount d) s)).trans (reformClaims_roles _)).roles
  refine ⟨fun hsound => ?_, fun b hb => ?_⟩
  · rw [← hcount]
    exact Handed_of_roles roles (handOffSingle_handed hsound _ _ _)
  · refine ⟨b.commanded s.clock (if s.curtainCount d = 0 then 0 else 1), ?_, (Blower.commanded_level _ _ b).trans hlevel⟩
    have hstages := handOffSingle_only (.curtain d) .curtain (s.curtainCount d) s
    unfold handCurtain
    dsimp only
    rw [fan?_congr (reformClaims_only _).fans_eq, commandFan_fan?, if_pos rfl, fan?_congr hstages.fans_eq, hb, hstages.clock_eq]
    rfl

/-- Everything a curtain's move to `c` does to a door of record `r` (R41). -/
structure CurtainMoves (d : Fin 3) (g : DoorCfg) (r : Door) (c : Curtain) (timer : Timer) (s t : State) : Prop where
  step : CurtainStep s t
  door : t.door? d = some { r with curtain := c, runOn := timer }
  others : ∀ y, y ≠ d → t.door? y = s.door? y
  wait : DoorsWait s t
  handed : r.curtain.isWanted ≠ c.isWanted → g.curtainStages ≠ 0 → CurtainHanded d g c s t

/-- A curtain that does not move. -/
theorem CurtainMoves.refl {d : Fin 3} {s : State} {r : Door} (g : DoorCfg) (hr : s.door? d = some r) :
    CurtainMoves d g r r.curtain r.runOn s s :=
  ⟨.refl s, hr, fun _ _ => rfl, .refl s, fun h => absurd rfl h⟩

theorem setCurtain_moves {d : Fin 3} {s : State} {r : Door} {g : DoorCfg} (hr : s.door? d = some r)
    (hg : s.doorCfg? d = some g) (c : Curtain) (timer : Timer) :
    CurtainMoves d g r (if g.curtainStages = 0 then r.curtain else c) (if g.curtainStages = 0 then r.runOn else timer) s
      (setCurtain d c timer s) where
  step := setCurtain_curtainStep d c timer s
  door := (setCurtain_door?_same hr hg c timer).trans (by unfold Door.curtainSet; split <;> rfl)
  others y hy := setCurtain_door?_other hy c timer s
  wait := adopts_doorsWait.setCurtain d c timer s
  handed hne hn := by
    rw [if_neg hn] at hne ⊢
    have hset : (s.modDoor d (fun r => { r with curtain := c, runOn := timer })).door? d
        = some { r with curtain := c, runOn := timer } := (door?_modDoor_same s d _).trans (by rw [hr]; rfl)
    have hmove : setCurtain d c timer s = handCurtain d (s.modDoor d (fun r => { r with curtain := c, runOn := timer })) := by
      unfold setCurtain
      rw [hr, hg]
      dsimp only
      rw [if_neg hn, if_neg hne]
    rw [hmove]
    exact (handCurtain_handed hset hg hn).congr rfl rfl id rfl rfl

end Sys2Proof.Machine
end

section
/-! A DOOR frame of a peer (R34, R40): its source is heard, and the event reaches every zone's draft list. -/

namespace Sys2Proof.Machine

/-! ### Draft lists of the zones -/

/-- One change of every draft list, whatever the zone's number. -/
theorem draftsFrom_const (f : List Draft → List Draft) : ∀ (i : Nat) (l : List Zone),
    draftsFrom (fun _ => f) i l = l.map (fun z => { z with drafts := f z.drafts })
  | _, [] => rfl
  | i, z :: l => by rw [draftsFrom, draftsFrom_const f (i + 1) l, List.map_cons]

theorem draftsFrom_getElem? (g : Nat → List Draft → List Draft) : ∀ (l : List Zone) (i n : Nat),
    (draftsFrom g i l)[n]? = l[n]?.map (fun z => { z with drafts := g (i + n) z.drafts })
  | [], _, _ => rfl
  | z :: l, i, 0 => rfl
  | z :: l, i, n + 1 => by
    rw [draftsFrom, List.getElem?_cons_succ, List.getElem?_cons_succ, draftsFrom_getElem? g l, Nat.add_right_comm, Nat.add_assoc]

/-- A zone after every draft list has changed. -/
theorem zone?_mapDrafts (s : State) (g : Nat → List Draft → List Draft) (z : Fin 4) :
    (s.mapDrafts g).zone? z = (s.zone? z).map (fun r => { r with drafts := g z.val r.drafts }) := by
  have h := draftsFrom_getElem? g s.zones 0 z.val
  rwa [Nat.zero_add] at h

/-- A contribution reads the clock, LAYOVER in use, and the doors' states and opening times (R38). -/
theorem contribution_congr {s t : State} (hc : t.clock = s.clock) (hl : t.inUse.flags.layover = s.inUse.flags.layover)
    (hd : ∀ d, (t.door? d).map (fun r => (r.state, r.openedAt)) = (s.door? d).map (fun r => (r.state, r.openedAt))) :
    t.contribution = s.contribution := by
  have hopen : t.openContribution = s.openContribution := funext fun x => by
    have hdoor := hd x.door
    unfold State.openContribution
    cases ht : t.door? x.door with
    | none =>
      rw [ht, Option.map_none] at hdoor
      rw [Option.map_eq_none_iff.1 hdoor.symm]
    | some r =>
      rw [ht, Option.map_some] at hdoor
      obtain ⟨r', hr', heq⟩ := Option.map_eq_some_iff.1 hdoor.symm
      obtain ⟨hstate, hopened⟩ := Prod.mk.inj heq
      rw [hr']
      simp only [hstate, hopened, hc, hl]
  funext x
  unfold State.contribution
  rw [hopen, hc]

/-! ### Hearing a station that sends a DOOR frame -/

/-- A station heard with a DOOR frame stays a candidate for cab acceptance where it was one. -/
theorem isCab_heard_door (now : Time) (b : DoorBody) (e : Entry) (h : e.isCab = true) : (e.heard now (.door b)).isCab = true := by
  unfold Entry.isCab at h ⊢
  rw [Bool.and_eq_true] at h ⊢
  obtain ⟨hcab, hstate⟩ := h
  have hne : e.state ≠ .absent := fun he => by rw [he] at hstate; cases hstate
  simp [Entry.heard, Entry.takeFrame, hne, hcab]

/-- A peer that is heard can take the choice from another station, and cannot give it to the node itself (R106). -/
theorem choice_own_stands {s u : State} {source : Station} {e : Entry} (hu : s.Counts source e u)
    (hkeeps : (s.entry source).isCab = true → e.isCab = true) (hne : source ≠ s.straps.station)
    (hown : u.cabChoice = some s.straps.station) : s.cabChoice = some s.straps.station := by
  have same : ∀ i, i ≠ source → (u.entry i).isCab = (s.entry i).isCab := fun i hi => by
    by_cases ho : i = s.straps.station
    · have hi' : u.entry s.straps.station = u.ownEntry := by rw [State.ownEntry, hu.share.straps_eq]
      rw [ho, hi', Entry.isCab, hu.own.1, hu.own.2]
      rfl
    · rw [hu.peers i hi ho]
  obtain ⟨hcab, as, bs, hsplit, hbefore⟩ := List.find?_eq_some_iff_append.1 hown
  refine List.find?_eq_some_iff_append.2 ⟨(same _ hne.symm).symm.trans hcab, as, bs, hsplit, fun i hi => ?_⟩
  have hnot := hbefore i hi
  by_cases his : i = source
  · subst his
    rw [Bool.not_eq_true', hu.entry] at hnot
    rw [Bool.not_eq_true', Bool.eq_false_iff]
    exact fun h => by rw [hkeeps h] at hnot; cases hnot
  · rw [← same i his]
    exact hnot

/-- A DOOR frame of a station that is ALIVE, or with the choice of R106 in place, never makes the node its own cab station. -/
theorem hear_door_frame {s : State} {source : Station} (b : DoorBody) (hrun : s.phase = .running)
    (hne : source ≠ s.straps.station) (h : (s.entry source).state = .alive ∨ s.CabFollows) :
    ∃ st q a v l c i, hear source (.door b) s =
        { s with stages := st, queue := q, alloc := a, view := v, link := l, cond := c, inUse := i }
      ∧ i.flags = s.inUse.flags := by
  obtain ⟨u, hu, hd⟩ := hear_does (.door b) hne
  obtain ⟨-, -, -, hsame, hother⟩ := hd.view hu
  obtain ⟨st, q, a, v, l, c, i, hframe, -, hflags, -⟩ := hd.frame hu fun ⟨_, hacc, hown⟩ => by
    by_cases hs : s.SameSeen source ((s.entry source).heard s.clock (.door b))
    · exact hacc (hsame hs)
    · rcases h with halive | hfollows
      · exact hs ⟨by simp [Entry.heard, Entry.takeFrame, halive], by simp [Entry.heard, Entry.takeFrame, halive]⟩
      · have hchoice := choice_own_stands hu (isCab_heard_door _ b _) hne ((hother hs).symm.trans hown)
        exact hacc (hown.trans ((hfollows hrun).trans hchoice).symm)
  exact ⟨st, q, a, v, l, c, i, hframe, hflags⟩

/-- A station that is ALIVE is heard: nothing but its last-heard time changes (R97). -/
theorem hear_door_alive {s : State} {source : Station} (b : DoorBody) (h : (s.entry source).state = .alive) :
    hear source (.door b) s = s.hearing source := by
  have hkeeps : (s.entry source).heard s.clock (.door b) = { s.entry source with lastHeard := some s.clock } := by
    simp [Entry.heard, Entry.takeFrame, h]
  have hmod : s.modEntry source (Entry.heard s.clock (.door b)) = s.hearing source := by
    rw [State.modEntry, hkeeps]; rfl
  rw [hear, hmod, hkeeps]
  simp [entryChanged]

theorem finish_hear_entry {s : State} {source : Station} (b : DoorBody) (hne : source ≠ s.straps.station) :
    ((hear source (.door b) s).entry source).state = .alive
      ∧ ((hear source (.door b) s).entry source).lastHeard = some s.clock
      ∧ (hear source (.door b) s).straps = s.straps := by
  obtain ⟨u, hu, hd⟩ := hear_does (.door b) hne
  obtain ⟨hstraps, hpeers, -⟩ := hd.view hu
  rw [hpeers source hne, hu.entry]
  exact ⟨rfl, rfl, hstraps⟩

/-! ### The event acts -/

/-- What a DOOR frame that acts as `f` on every draft list leaves. -/
def State.DoorFrameActs (s : State) (source : Station) (b : DoorBody) (f : List Draft → List Draft) : Prop :=
  ∃ t, exec (.doorFrame source b) s = .next t
    ∧ (t.entry source).state = .alive ∧ (t.entry source).lastHeard = some s.clock
    ∧ (∀ z r, s.zone? z = some r → ∃ r', t.zone? z = some r' ∧ r'.drafts = f r.drafts)
    ∧ ((s.entry source).state = .alive →
        Closes { s.hearing source with zones := s.zones.map (fun z => { z with drafts := f z.drafts }) } t)

/-- The frame acts as what follows the view's handling acts on the zones. -/
theorem doorFrame_acts {s : State} {source : Station} {b : DoorBody} {f : List Draft → List Draft} (hs : s.Ready)
    (hown : source ≠ s.straps.station) (hpower : source ≠ s.config.powerStation)
    (hcase : (s.entry source).state = .alive ∨ s.CabFollows)
    (hacts : ∀ u : State, u.clock = s.clock → u.config = s.config → u.contribution = s.contribution → peerDoor source b u =
      { u with zones := u.zones.map (fun z => { z with drafts := f z.drafts }) }) : s.DoorFrameActs source b f := by
  obtain ⟨st, q, a, v, l, c, i, hheard, hflags⟩ := hear_door_frame b hs.running hown hcase
  obtain ⟨halive, hlast, hstraps⟩ := finish_hear_entry b hown
  have hdrafts : peerDoor source b (hear source (.door b) s) = { hear source (.door b) s with
      zones := s.zones.map (fun z => { z with drafts := f z.drafts }) } := by
    rw [hacts (hear source (.door b) s) (by rw [hheard]) (by rw [hheard])
      (contribution_congr (by rw [hheard]) (by rw [hheard, hflags]) (fun d => by rw [hheard]; rfl)), hheard]
  have hexec : exec (.doorFrame source b) s =
      .next (finish { hear source (.door b) s with zones := s.zones.map (fun z => { z with drafts := f z.drafts }) }) := by
    have hreceive : receive source (.door b) (peerDoor source b) s = peerDoor source b (hear source (.door b) s) := by
      rw [receive, if_neg hown, if_neg hpower]
    rw [← hdrafts, ← hreceive]
    exact whileRunning_running _ s hs.running
  have seen := finish_seen { hear source (.door b) s with zones := s.zones.map (fun z => { z with drafts := f z.drafts }) }
  have hentry := seen.peers source (hstraps.symm ▸ hown)
  refine ⟨_, hexec, by rw [hentry]; exact halive, by rw [hentry]; exact hlast, fun z r hr => ?_, fun h => ?_⟩
  · obtain ⟨_, _, _, _, _, _, _, hf⟩ := finish_frame
      { hear source (.door b) s with zones := s.zones.map (fun z => { z with drafts := f z.drafts }) }
    have hzone : s.zones[z.val]? = some r := hr
    refine ⟨{ r with drafts := f r.drafts }, ?_, rfl⟩
    rw [State.zone?, hf, List.getElem?_map, hzone]
    rfl
  · rw [hear_door_alive b h]
    exact finish_closes_none _ hs.settled

theorem doorIdOf_some {b : DoorBody} {car door : Fin 3} (hc : b.car = BitVec.ofNat 4 car.val)
    (hd : b.door = BitVec.ofNat 4 door.val) : doorIdOf b = some (car, door) := by
  have toNat : ∀ x : Fin 3, (BitVec.ofNat 4 x.val).toNat = x.val := by decide
  unfold doorIdOf
  rw [dif_pos (by rw [hc, toNat]; exact car.isLt), dif_pos (by rw [hd, toNat]; exact door.isLt)]
  simp only [hc, hd, toNat]

/-- A car or a door above 2, or another event, leaves the lists as they are (R34). -/
theorem peerDoor_aside {b : DoorBody} (h : 2 < b.car.toNat ∨ 2 < b.door.toNat ∨ 1 < b.event.toNat) (source : Station) (s : State) :
    peerDoor source b s = s := by
  unfold peerDoor
  split
  · rfl
  · next car door hid =>
    have hevent : 1 < b.event.toNat := by
      unfold doorIdOf at hid
      split at hid
      · split at hid
        · omega
        · cases hid
      · cases hid
    have h1 : b.event ≠ 1#8 := fun he => by rw [he] at hevent; exact absurd hevent (by decide)
    have h0 : b.event ≠ 0#8 := fun he => by rw [he] at hevent; exact absurd hevent (by decide)
    rw [if_neg h1, if_neg h0]

/-- Settles O20. -/
theorem doorFrameReachesTheDrafts : Obligations.DoorFrameReachesTheDrafts := by
  intro s source b hs hown hpower hcase
  have acts : ∀ f, _ → s.DoorFrameActs source b f := fun f => doorFrame_acts (f := f) hs hown hpower hcase
  have htotal : peerTotal b.decay = 10 * max 10 (min 120 b.decay.toNat) := by rw [peerTotal, capNat_eq_min]
  refine ⟨fun car door hcar hdoor => ⟨fun hevent => ?_, fun hevent => ?_⟩, fun haside => ?_⟩
  · refine acts _ fun u hclock hconfig hcontribution => ?_
    have hweight : u.peerWeight car b.weight = min 1000 b.weight.toNat * s.config.attenuation.getD car.val 0 / 1000 := by
      rw [State.peerWeight, capNat_eq_min, hconfig]
    rw [peerDoor, doorIdOf_some hcar hdoor]
    dsimp only
    rw [if_pos hevent, State.mapDrafts, draftsFrom_const, hweight, htotal, hcontribution]
  · refine acts _ fun u hclock hconfig hcontribution => ?_
    rw [peerDoor, doorIdOf_some hcar hdoor]
    dsimp only
    rw [if_neg (by rw [hevent]; decide), if_pos hevent, State.mapDrafts, draftsFrom_const, htotal, hclock]
  · refine acts id fun u _ _ _ => ?_
    rw [peerDoor_aside haside]
    have hid : (fun z : Zone => { z with drafts := id z.drafts }) = id := rfl
    rw [hid, List.map_id]

end Sys2Proof.Machine
end

section
/-! A door's event: the DOOR frame it queues (R31, R121), what it tells the damper drive (R45), and the three timers of a door (R29,
R42, R43). -/

namespace Sys2Proof.Machine

/-! ### The DOOR frame (R121) -/

/-- The entry is a DOOR frame for the door of `b`, that is (car, door index). -/
def TxEntry.SameDoor (b : DoorBody) (w : TxEntry) : Prop := ∃ c, w.frame = .door c ∧ c.car = b.car ∧ c.door = b.door

/-- Position `n` of a full list is the one a DOOR frame replaces: the newest entry of its door, or else the oldest DOOR entry. -/
def Replaces (b : DoorBody) (l : List TxEntry) (n : Nat) : Prop :=
  (∃ w, l[n]? = some w ∧ w.SameDoor b ∧ ∀ (k : Nat) x, n < k → l[k]? = some x → ¬ x.SameDoor b)
  ∨ ((∀ x ∈ l, ¬ x.SameDoor b) ∧ (∃ w, l[n]? = some w ∧ w.frame.isDoor = true)
    ∧ ∀ (k : Nat) x, k < n → l[k]? = some x → x.frame.isDoor = false)

/-- The DOOR frame `b` is queued on a list that held `l`. -/
structure DoorAnnounced (b : DoorBody) (l : List TxEntry) (t : State) : Prop where
  room : ¬ 3 ≤ (l.filter (fun w => w.frame.isDoor)).length → ∃ w ∈ t.link.list, w.frame = .door b
  full : 3 ≤ (l.filter (fun w => w.frame.isDoor)).length → ∀ (n : Nat) w, Replaces b l n → l[n]? = some w →
    (∃ w', t.link.list[n]? = some w' ∧ w'.frame = .door b ∧ w'.failed = 0 ∧ w'.backoff = w.backoff)
    ∧ ((∀ x ∈ l, ¬ x.SameDoor b) → flagSet t.cond.latched .linkOverrun = true)

theorem sameDoor_iff {b : DoorBody} {w : TxEntry} : sameDoor b w.frame = true ↔ w.SameDoor b := by
  unfold TxEntry.SameDoor sameDoor
  cases w.frame <;> simp

theorem TxEntry.SameDoor.iff_asDoor {b : DoorBody} {w : TxEntry} :
    w.SameDoor b ↔ ∃ c, w.asDoor.map Prod.fst = some c ∧ c.car = b.car ∧ c.door = b.door := by
  unfold TxEntry.SameDoor TxEntry.asDoor
  cases w.frame <;> simp

theorem modifyEntry_getElem? (g : Bool → TxEntry → TxEntry) : ∀ (l : List TxEntry) (b : Bool) (n : Nat) (w : TxEntry),
    l[n]? = some w → ∃ b', (modifyEntry b g n l)[n]? = some (g b' w)
  | [], _, _, _, h => by cases h
  | x :: l, b, 0, w, h => ⟨b, by obtain rfl : x = w := Option.some.inj h; rfl⟩
  | x :: l, b, n + 1, w, h => by
    obtain ⟨b', h'⟩ := modifyEntry_getElem? g l false n w (by simpa using h)
    exact ⟨b', by simpa [modifyEntry] using h'⟩

/-- The newest entry of a door is the first from the back. -/
theorem findIdx?_reverse_newest {p : TxEntry → Bool} {l : List TxEntry} {n : Nat} {w : TxEntry} (hw : l[n]? = some w)
    (hp : p w = true) (hlast : ∀ (k : Nat) x, n < k → l[k]? = some x → ¬ p x = true) :
    l.reverse.findIdx? p = some (l.length - 1 - n) := by
  obtain ⟨hn, hget⟩ := List.getElem?_eq_some_iff.1 hw
  refine List.findIdx?_eq_some_iff_getElem.2 ⟨by rw [List.length_reverse]; omega, ?_, fun j hj => ?_⟩
  · have : l.length - 1 - (l.length - 1 - n) = n := by omega
    simp only [List.getElem_reverse, this, hget, hp]
  · rw [List.getElem_reverse]
    exact hlast (l.length - 1 - j) _ (by omega) (List.getElem?_eq_getElem _)

theorem queueDoor_full {b : DoorBody} {s : State} (h : 3 ≤ (s.link.list.filter (fun w => w.frame.isDoor)).length) : queueDoor b s =
    match s.link.list.reverse.findIdx? (fun e => sameDoor b e.frame) with
    | some n => s.withList (modifyEntry s.headSending (fun g e => e.replace g (.door b)) (s.link.list.length - 1 - n) s.link.list)
    | none => match s.link.list.findIdx? (fun e => e.frame.isDoor) with
      | some n => latch .linkOverrun
          (s.withList (modifyEntry s.headSending (fun g e => e.replace g (.door b)) n s.link.list))
      | none => s := by
  unfold queueDoor
  exact if_neg (Nat.not_lt.2 h)

theorem queueDoor_announces (b : DoorBody) (s : State) : DoorAnnounced b s.link.list (queueDoor b s) where
  room h := by
    have hjoin : queueDoor b s = joinList (.door b) s := if_pos (Nat.lt_of_not_le h)
    rw [hjoin]
    exact ⟨⟨.door b, 0, 0, false⟩, List.mem_append_right _ (List.mem_singleton.2 rfl), rfl⟩
  full h n w hn hw := by
    obtain ⟨g, hg⟩ := modifyEntry_getElem? (fun g e => e.replace g (.door b)) s.link.list s.headSending n w hw
    rcases hn with ⟨w', hw', hsame, hlast⟩ | ⟨hnone, ⟨w', hw', hdoor⟩, hfirst⟩
    · have hlt := (List.getElem?_eq_some_iff.1 hw').1
      have hfind := findIdx?_reverse_newest (p := fun e => sameDoor b e.frame) hw' (sameDoor_iff.2 hsame)
        fun k x hk hx hp => hlast k x hk hx (sameDoor_iff.1 hp)
      have hpos : s.link.list.length - 1 - (s.link.list.length - 1 - n) = n := by omega
      rw [queueDoor_full h, hfind]
      dsimp only
      rw [hpos]
      exact ⟨⟨_, hg, rfl, rfl, rfl⟩, fun hnone => absurd hsame (hnone w' (List.mem_of_getElem? hw'))⟩
    · have hfind : s.link.list.reverse.findIdx? (fun e => sameDoor b e.frame) = none :=
        List.findIdx?_eq_none_iff.2 fun x hx => Bool.eq_false_iff.2 fun hp =>
          hnone x (List.mem_reverse.1 hx) (sameDoor_iff.1 hp)
      obtain ⟨hlt, hget⟩ := List.getElem?_eq_some_iff.1 hw'
      have holdest : s.link.list.findIdx? (fun e => e.frame.isDoor) = some n :=
        List.findIdx?_eq_some_iff_getElem.2 ⟨hlt, by rw [hget]; exact hdoor, fun j hj => by
          rw [hfirst j _ hj (List.getElem?_eq_getElem (Nat.lt_trans hj hlt))]; exact Bool.false_ne_true⟩
      rw [queueDoor_full h, hfind, holdest]
      dsimp only
      obtain ⟨w'', hw'', hdoor''⟩ := (latch_doorsWait .linkOverrun (s.withList (modifyEntry s.headSending
        (fun g e => e.replace g (.door b)) n s.link.list))).entry hg
      obtain ⟨hframe, hfailed, hbackoff⟩ := TxEntry.asDoor_some.1 (hdoor''.trans (TxEntry.asDoor_some.2 ⟨rfl, rfl, rfl⟩))
      exact ⟨⟨w'', hw'', hframe, hfailed, hbackoff⟩, fun _ => by rw [latch_latched]; rfl⟩

/-- A list whose DOOR entries have waited on announces a door as the list before it. -/
theorem DoorAnnounced.since {b : DoorBody} {s u t : State} (h : DoorAnnounced b u.link.list t) (hw : DoorsWait s u) :
    DoorAnnounced b s.link.list t := by
  have same : ∀ {x y : TxEntry}, y.asDoor = x.asDoor → (y.SameDoor b ↔ x.SameDoor b) := fun hxy => by
    rw [TxEntry.SameDoor.iff_asDoor, TxEntry.SameDoor.iff_asDoor, hxy]
  have notDoor : ∀ {x : TxEntry}, x.asDoor = none → ¬ x.SameDoor b := fun hx hsame => by
    obtain ⟨c, hc, -⟩ := TxEntry.SameDoor.iff_asDoor.1 hsame
    rw [hx] at hc
    cases hc
  have none_same : (∀ x ∈ s.link.list, ¬ x.SameDoor b) → ∀ x ∈ u.link.list, ¬ x.SameDoor b := fun hnone x hx => by
    obtain ⟨k, hk⟩ := List.getElem?_of_mem hx
    rcases hw.entry_back hk with hx' | ⟨y, hy, hyx⟩
    · exact notDoor hx'
    · rw [← same hyx]; exact hnone y (List.mem_of_getElem? hy)
  refine ⟨fun hroom => h.room (by rwa [hw.count]), fun hfull n w hn hwn => ?_⟩
  obtain ⟨w', hw', hdoor⟩ := hw.entry hwn
  have hreplaces : Replaces b u.link.list n := by
    rcases hn with ⟨x, hx, hsame, hlast⟩ | ⟨hnone, ⟨x, hx, hisDoor⟩, hfirst⟩
    · obtain rfl : x = w := Option.some.inj (hx.symm.trans hwn)
      refine .inl ⟨w', hw', (same hdoor).2 hsame, fun k y hk hy => ?_⟩
      rcases hw.entry_back hy with hy' | ⟨z, hz, hzy⟩
      · exact notDoor hy'
      · rw [← same hzy]; exact hlast k z hk hz
    · obtain rfl : x = w := Option.some.inj (hx.symm.trans hwn)
      refine .inr ⟨none_same hnone, ⟨w', hw', by rw [TxEntry.isDoor_eq, hdoor, ← TxEntry.isDoor_eq]; exact hisDoor⟩,
        fun k y hk hy => ?_⟩
      rw [TxEntry.isDoor_eq]
      rcases hw.entry_back hy with hy' | ⟨z, hz, hzy⟩
      · rw [hy']; rfl
      · rw [← hzy, ← TxEntry.isDoor_eq]; exact hfirst k z hk hz
  obtain ⟨⟨x, hx, hframe, hfailed, hbackoff⟩, hlatch⟩ := h.full (by rwa [hw.count]) n w' hreplaces hw'
  refine ⟨⟨x, hx, hframe, hfailed, hbackoff.trans ?_⟩, fun hnone => hlatch (none_same hnone)⟩
  have hisDoor : w.frame.isDoor = true := by
    rcases hn with ⟨y, hy, ⟨c, hc, -⟩, -⟩ | ⟨-, ⟨y, hy, hisDoor⟩, -⟩
    · obtain rfl : y = w := Option.some.inj (hy.symm.trans hwn)
      rw [hc]; rfl
    · obtain rfl : y = w := Option.some.inj (hy.symm.trans hwn)
      exact hisDoor
  rw [TxEntry.isDoor_eq] at hisDoor
  obtain ⟨⟨c, f, k⟩, hc⟩ := Option.isSome_iff_exists.1 hisDoor
  exact (TxEntry.asDoor_some.1 (hdoor.trans hc)).2.2.trans (TxEntry.asDoor_some.1 hc).2.2.symm

/-- A queued DOOR frame stands while the DOOR entries wait. -/
theorem DoorAnnounced.stands {b : DoorBody} {l : List TxEntry} {t t' : State} (h : DoorAnnounced b l t) (hw : DoorsWait t t') :
    DoorAnnounced b l t' := by
  refine ⟨fun hroom => ?_, fun hfull n w hn hwn => ?_⟩
  · obtain ⟨w, hmem, hframe⟩ := h.room hroom
    obtain ⟨n, hn⟩ := List.getElem?_of_mem hmem
    obtain ⟨w', hw', hdoor⟩ := hw.entry hn
    exact ⟨w', List.mem_of_getElem? hw', (TxEntry.asDoor_some.1 (hdoor.trans (TxEntry.asDoor_some.2 ⟨hframe, rfl, rfl⟩))).1⟩
  · obtain ⟨⟨x, hx, hframe, hfailed, hbackoff⟩, hlatch⟩ := h.full hfull n w hn hwn
    obtain ⟨x', hx', hdoor⟩ := hw.entry hx
    obtain ⟨hframe', hfailed', hbackoff'⟩ := TxEntry.asDoor_some.1 (hdoor.trans (TxEntry.asDoor_some.2 ⟨hframe, hfailed, hbackoff⟩))
    exact ⟨⟨x', hx', hframe', hfailed', hbackoff'⟩, fun hnone => hw.latched _ (hlatch hnone)⟩

/-- The body of a door's DOOR frame (R31). -/
def State.doorBody (s : State) (d : Fin 3) (g : DoorCfg) (event : Byte) (weight : Nat) : DoorBody :=
  { car := BitVec.ofNat 4 s.straps.car.val, door := BitVec.ofNat 4 d.val, event := event, weight := natHalf weight,
    decay := natByte g.decay }

/-- A door is announced after what leaves the DOOR entries waiting, and before more of it. -/
theorem announceDoor_announces {s u t : State} (d : Fin 3) (g : DoorCfg) (opened : Bool) (weight : Nat)
    (hstraps : u.straps = s.straps) (hu : DoorsWait s u) (ht : DoorsWait (announceDoor d g opened weight u) t) :
    DoorAnnounced (s.doorBody d g (if opened then 1#8 else 0#8) weight) s.link.list t := by
  have hqueue : announceDoor d g opened weight u = queueDoor (s.doorBody d g (if opened then 1#8 else 0#8) weight) u := by
    rw [State.doorBody, ← hstraps]; rfl
  rw [hqueue] at ht
  exact ((queueDoor_announces _ u).since hu).stands ht

/-! ### The damper drive is told (R45) -/

theorem noticeDamper_doorOpen (s : State) : (noticeDamper s).damper.doorOpen = s.anyDoorOpen := by
  unfold noticeDamper
  split
  · next h => exact h.symm
  · rw [retarget_damper, Damper.aimed_doorOpen]
    rfl

/-! ### What the closing leaves of doors, zones, fans and conditions -/

@[simp] theorem finish_doors (s : State) : (finish s).doors = s.doors := by
  obtain ⟨_, _, _, _, _, _, _, h⟩ := finish_frame s; rw [h]

@[simp] theorem finish_zones (s : State) : (finish s).zones = s.zones := by
  obtain ⟨_, _, _, _, _, _, _, h⟩ := finish_frame s; rw [h]

@[simp] theorem finish_fans (s : State) : (finish s).fans = s.fans := by
  obtain ⟨_, _, _, _, _, _, _, h⟩ := finish_frame s; rw [h]

@[simp] theorem finish_damper (s : State) : (finish s).damper = s.damper := by
  obtain ⟨_, _, _, _, _, _, _, h⟩ := finish_frame s; rw [h]

@[simp] theorem finish_cond (s : State) : (finish s).cond = s.cond := by
  obtain ⟨_, _, _, _, _, _, _, h⟩ := finish_frame s; rw [h]

@[simp] theorem finish_clock (s : State) : (finish s).clock = s.clock := by
  obtain ⟨_, _, _, _, _, _, _, h⟩ := finish_frame s; rw [h]

theorem finish_door? (s : State) (y : Fin 3) : (finish s).door? y = s.door? y := door?_congr (finish_doors s) y

/-! ### A door's timers -/

theorem DoorsWait.since {s t u : State} (h : DoorsWait t u) (hl : t.link.list = s.link.list) (hc : t.cond = s.cond) :
    DoorsWait s u := (DoorsWait.of_eq hl hc).trans h

theorem doorTimer_of_door? {s : State} {d : Fin 3} {r : Door} (f : Door → Timer) (h : s.door? d = some r) :
    s.doorTimer d f = f r := by simp [State.doorTimer, h]

/-- What a door's timer leaves of the other doors and of the other records. -/
def State.OtherDoorsStand (s : State) (d : Fin 3) (t : State) : Prop :=
  (∀ y, y ≠ d → t.door? y = s.door? y) ∧
    { t with
      clock := s.clock, doors := s.doors, stages := s.stages, queue := s.queue, pacing := s.pacing, seq := s.seq,
      alloc := s.alloc, view := s.view, link := s.link, fans := s.fans, damper := s.damper, cond := s.cond,
      outputs := s.outputs } = s

theorem finish_otherDoorsStand {s u : State} {d : Fin 3} {now : Time} (hs : s.attemptDue = false)
    (h : AdoptOnly { s with clock := now } u) (hz : u.zones = s.zones) (hd : ∀ y, y ≠ d → u.door? y = s.door? y) :
    s.OtherDoorsStand d (finish u) := by
  refine ⟨fun y hy => (finish_door? u y).trans (hd y hy), ?_⟩
  obtain ⟨_, _, _, _, _, _, _, hf⟩ := finish_frame u
  rw [hf]
  obtain ⟨_, _, _, _, _, _, _, _, zs, _, _, rfl⟩ := h
  obtain rfl : zs = s.zones := hz
  exact congrArg (fun a => ({ s with attemptDue := a } : State)) hs.symm

/-- A change of a door's record, as its own timer makes it. -/
theorem modDoor_clock_door? {s : State} {d : Fin 3} {r : Door} (hr : s.door? d = some r) (now : Time) (k : Door → Door) :
    (({ s with clock := now } : State).modDoor d k).door? d = some (k r) :=
  (door?_modDoor_same _ d k).trans (congrArg (Option.map k) hr)

/-- The record of a door that is stuck, before its curtain moves (R29). -/
def Door.jammed (r : Door) : Door := { r with state := .stuck, stuck := .stopped, layoverMark := .stopped }

section
variable {s : State} {d : Fin 3} {e : Time} {r : Door} {g : DoorCfg}

/-- The stuck expiry of an open door: its bullets, in order (R29). -/
theorem stuckExpiry_eq (hr : s.door? d = some r) (hg : s.doorCfg? d = some g) (hopen : r.state = .opened) :
    stuckExpiry d s = recheck .doorStuck (noticeDamper (announceDoor d g true (largestWeight g / 4)
      (setCurtain d .barred .stopped (s.modDoor d Door.jammed)))) := by
  have hrecord : (s.modDoor d (fun r => { r with stuck := .stopped })).modDoor d
      (fun r => { r with state := .stuck, layoverMark := .stopped }) = s.modDoor d Door.jammed := modDoor_modDoor s d _ _
  unfold stuckExpiry
  rw [hr, hg]
  dsimp only
  rw [if_pos hopen, hrecord]

/-- The stuck timer of an open door (R29, R32). -/
theorem stuckTimer_expires (hs : s.Ready) (hr : s.door? d = some r) (hg : s.doorCfg? d = some g) (he : r.stuck = .running e)
    (hopen : r.state = .opened) :
    ∃ t, exec (.stuckTimerExpiry d) s = .next t
      ∧ t.door? d = some { r with
          state := .stuck, stuck := .stopped, layoverMark := .stopped
          curtain := if g.curtainStages = 0 then r.curtain else .barred
          runOn := if g.curtainStages = 0 then r.runOn else .stopped }
      ∧ flagSet t.cond.current .doorStuck = true
      ∧ DoorAnnounced (s.doorBody d g 1#8 (largestWeight g / 4)) s.link.list t
      ∧ s.OtherDoorsStand d t := by
  have hexec : exec (.stuckTimerExpiry d) s = .next (finish (stuckExpiry d (advanceTo e s))) :=
    (show _ = atExpiry r.stuck (stuckExpiry d) s by rw [← doorTimer_of_door? Door.stuck hr]; rfl).trans
      (by rw [he, atExpiry_running e _ s hs.running])
  obtain ⟨now, hnow⟩ := advanceTo_eq e s
  have moves := setCurtain_moves (modDoor_clock_door? hr now Door.jammed) hg .barred .stopped
  have hstuck := stuckExpiry_eq (s := { s with clock := now }) hr hg hopen
  generalize hbarred : setCurtain d .barred .stopped (({ s with clock := now } : State).modDoor d Door.jammed) = barred
    at moves hstuck
  have announced := announceDoor_only d g true (largestWeight g / 4) barred
  have noticed := noticeDamper_only (announceDoor d g true (largestWeight g / 4) barred)
  have rechecked := recheck_only .doorStuck (noticeDamper (announceDoor d g true (largestWeight g / 4) barred))
  have htold := noticed.doors_eq.trans announced.doors_eq
  have hdoors := rechecked.doors_eq.trans htold
  rw [hnow, hstuck] at hexec
  refine ⟨_, hexec, ?_, ?_, ?_, finish_otherDoorsStand (now := now) hs.settled ?_ ?_ fun y hy => ?_⟩
  · exact (finish_door? _ d).trans ((door?_congr hdoors d).trans moves.door)
  · rw [finish_cond, recheck_current, if_pos rfl, conditionHolds]
    exact List.any_eq_true.2 ⟨_, List.mem_of_getElem? ((door?_congr htold d).trans moves.door), rfl⟩
  · refine announceDoor_announces d g true (largestWeight g / 4) moves.step.only.straps_eq
      (moves.wait.since rfl rfl) ?_
    exact (noticed.doorsWait.trans (recheck_doorsWait _ _)).trans (finish_doorsWait _)
  · exact ((((modDoor_only d _ _).trans moves.step.only).trans announced.toAdoptOnly).trans noticed.toAdoptOnly).trans
      rechecked.toAdoptOnly
  · exact rechecked.zones_eq.trans (noticed.zones_eq.trans (announced.zones_eq.trans moves.step.zones))
  · exact (door?_congr hdoors y).trans ((moves.others y hy).trans (door?_modDoor_other _ _ hy))

/-- A door's curtain moves at a timer of its own, and nothing else does. -/
theorem curtainTimer_leaves {u v : State} {now : Time} {ds : List Door} {x : Door} {c : Curtain} {timer : Timer} (hs : s.Ready)
    (hk : CurtainMoves d g x c timer v u) (hv : v = { s with clock := now, doors := ds })
    (hother : ∀ y, y ≠ d → v.door? y = s.door? y) :
    (finish u).door? d = some { x with curtain := c, runOn := timer } ∧ s.OtherDoorsStand d (finish u)
      ∧ (finish u).damper = s.damper := by
  subst hv
  exact ⟨(finish_door? u d).trans hk.door,
    finish_otherDoorsStand (now := now) hs.settled (AdoptOnly.trans ⟨_, _, _, _, _, _, _, _, _, _, _, rfl⟩ hk.step.only)
      hk.step.zones fun y hy => (hk.others y hy).trans (hother y hy),
    (finish_damper u).trans hk.step.damper⟩

/-- The layover mark (R43). -/
theorem layoverMark_expires (hs : s.Ready) (hr : s.door? d = some r) (hg : s.doorCfg? d = some g) (he : r.layoverMark = .running e) :
    let barred := s.inUse.flags.layover && r.curtain == .wanted && g.curtainStages != 0
    ∃ t, exec (.layoverMarkExpiry d) s = .next t
      ∧ t.door? d = some { r with
          layoverMark := .stopped, curtain := if barred then .barred else r.curtain
          runOn := if barred then .stopped else r.runOn }
      ∧ s.OtherDoorsStand d t ∧ t.damper = s.damper := by
  have hexec : exec (.layoverMarkExpiry d) s = .next (finish (layoverMarkExpiry d (advanceTo e s))) :=
    (show _ = atExpiry r.layoverMark (layoverMarkExpiry d) s by rw [← doorTimer_of_door? Door.layoverMark hr]; rfl).trans
      (by rw [he, atExpiry_running e _ s hs.running])
  obtain ⟨now, hnow⟩ := advanceTo_eq e s
  rw [hnow] at hexec
  refine ⟨_, hexec, ?_⟩
  have hdoor := modDoor_clock_door? hr now (fun r => { r with layoverMark := .stopped })
  have hother : ∀ y, y ≠ d → (({ s with clock := now } : State).modDoor d (fun r => { r with layoverMark := .stopped })).door? y
      = s.door? y := fun y hy => door?_modDoor_other _ _ hy
  by_cases hbar : s.inUse.flags.layover = true ∧ r.curtain = .wanted
  · have hmove : layoverMarkExpiry d { s with clock := now } = setCurtain d .barred .stopped
        (({ s with clock := now } : State).modDoor d (fun r => { r with layoverMark := .stopped })) := by
      refine (if_pos hbar.1).trans ?_
      unfold barCurtain
      rw [hdoor]
      exact if_pos hbar.2
    rw [hmove]
    have leaves := curtainTimer_leaves hs (setCurtain_moves hdoor hg .barred .stopped) rfl hother
    by_cases hn : g.curtainStages = 0 <;> simpa [hbar.1, hbar.2, hn] using leaves
  · have hmove : layoverMarkExpiry d { s with clock := now } =
        ({ s with clock := now } : State).modDoor d (fun r => { r with layoverMark := .stopped }) := by
      unfold layoverMarkExpiry
      dsimp only
      split
      · next hlayover =>
        unfold barCurtain
        rw [hdoor]
        exact if_neg fun hc => hbar ⟨hlayover, hc⟩
      · rfl
    rw [hmove]
    have hnot : (s.inUse.flags.layover && r.curtain == .wanted && g.curtainStages != 0) = false := by
      rw [Bool.eq_false_iff]
      intro h
      simp only [Bool.and_eq_true, beq_iff_eq] at h
      exact hbar h.1
    rw [hnot]
    exact curtainTimer_leaves hs (CurtainMoves.refl g hdoor) rfl hother

/-- The end of the run-on (R42). -/
theorem runOn_expires (hs : s.Ready) (hr : s.door? d = some r) (hg : s.doorCfg? d = some g) (he : r.runOn = .running e)
    (hc : r.curtain = .runOn) (hn : g.curtainStages ≠ 0) :
    ∃ t, exec (.runOnExpiry d) s = .next t ∧ t.door? d = some { r with curtain := .off, runOn := .stopped }
      ∧ s.OtherDoorsStand d t ∧ t.damper = s.damper := by
  have hexec : exec (.runOnExpiry d) s = .next (finish (runOnExpiry d (advanceTo e s))) :=
    (show _ = atExpiry r.runOn (runOnExpiry d) s by rw [← doorTimer_of_door? Door.runOn hr]; rfl).trans
      (by rw [he, atExpiry_running e _ s hs.running])
  obtain ⟨now, hnow⟩ := advanceTo_eq e s
  rw [hnow] at hexec
  refine ⟨_, hexec, ?_⟩
  have hr' : ({ s with clock := now } : State).door? d = some r := hr
  have hmove : runOnExpiry d { s with clock := now } = setCurtain d .off .stopped { s with clock := now } := by
    unfold runOnExpiry
    rw [hr']
    exact if_pos hc
  have moves := setCurtain_moves hr' hg .off .stopped
  rw [if_neg hn, if_neg hn] at moves
  rw [hmove]
  exact curtainTimer_leaves hs moves rfl fun _ _ => rfl

end

/-- Settles O18. -/
theorem doorTimersExpire : Obligations.DoorTimersExpire := by
  intro s d e r g hs hr hg
  refine ⟨fun he hopen => ?_, fun he => layoverMark_expires hs hr hg he, fun he hc hn => runOn_expires hs hr hg he hc hn⟩
  obtain ⟨t, hexec, hdoor, hflag, announced, others⟩ := stuckTimer_expires hs hr hg he hopen
  exact ⟨t, hexec, hdoor, hflag, fun hroom => announced.room (Nat.not_le_of_lt hroom), others⟩

end Sys2Proof.Machine
end

section
/-! The sample of the inputs (R25): the doors, the keys, the tachometers and the contactor feedback, each by what a sample without an
accepted change of a door and without a key press makes of it. -/

namespace Sys2Proof.Machine

/-! ### A filter by its two cases -/

/-- The sample ends a run of samples that differ. -/
def Filter.turns (f : Filter) (n : Nat) (l : Bool) : Bool := f.level == some (!l) && decide (n ≤ f.run + 1)

/-- The filter after a sample. -/
def Filter.sampled (f : Filter) (n : Nat) (l : Bool) : Filter :=
  if f.level = some (!l) ∧ f.turns n l = false then { f with run := f.run + 1 } else ⟨some l, 0⟩

/-- The filter after a sample that equals its level. -/
def Filter.still (f : Filter) : Filter := { f with run := 0 }

theorem Filter.sample_eq (f : Filter) (n : Nat) (l : Bool) :
    f.sample n l = (f.sampled n l, if f.turns n l = true then some l else none) := by
  obtain ⟨level, run⟩ := f
  cases level with
  | none => rfl
  | some a =>
    by_cases ha : a = l
    · subst ha
      have hne : (some a == some (!a)) = false := by cases a <;> rfl
      rw [Filter.sample_equal]
      simp [Filter.sampled, Filter.turns]
    · obtain rfl : a = !l := by cases a <;> cases l <;> simp_all
      have hdiffers := Filter.sample_differs (!l) (k := run) (n := n)
      have haccepts := Filter.sample_accepts (!l) (k := run) (n := n)
      rw [Bool.not_not] at hdiffers haccepts
      by_cases hn : n ≤ run + 1
      · rw [haccepts hn]
        simp [Filter.sampled, Filter.turns, hn]
      · rw [hdiffers hn]
        simp [Filter.sampled, Filter.turns, hn]

theorem Filter.sampled_of_level {f : Filter} {l : Bool} (h : f.level = some l) (n : Nat) : f.sampled n l = f.still := by
  unfold Filter.sampled Filter.still
  rw [if_neg fun hne => by rw [h] at hne; cases l <;> simp at hne, h]

theorem Filter.turns_of_level {f : Filter} {l : Bool} (h : f.level = some l) (n : Nat) : f.turns n l = false := by
  unfold Filter.turns
  rw [h]
  cases l <;> rfl

/-! ### One door -/

/-- A door after a sample without an accepted change: the first sample sets its state (R25, R26). -/
def Door.sampled (now : Time) (cfg : Option DoorCfg) (level : Bool) (r : Door) : Door :=
  match cfg with
  | none => r
  | some g =>
    let r' : Door := { r with filter := r.filter.sampled g.filter level }
    if r.filter.level ≠ none then r' else if level then r'.opening now else r'.closing

/-- The doors whose accepted level a sample of door `d` could change do not change it. -/
def State.DoorQuiet (s : State) (d : Fin 3) (level : Bool) : Prop :=
  ∀ r g, s.door? d = some r → s.doorCfg? d = some g → r.filter.turns g.filter level = false

/-- No sample of door `d` is its first. -/
def State.DoorSet (s : State) (d : Fin 3) : Prop :=
  ∀ r g, s.door? d = some r → s.doorCfg? d = some g → r.filter.level ≠ none

/-- What a sample of door `d` leaves that makes no accepted change. -/
structure DoorSampled (d : Fin 3) (level : Bool) (s t : State) : Prop where
  frame : ∃ ds x, t = { s with doors := ds, damper := x }
  door : t.door? d = (s.door? d).map (Door.sampled s.clock (s.doorCfg? d) level)
  others : ∀ y, y ≠ d → t.door? y = s.door? y
  kept : s.DoorSet d → t.damper = s.damper ∧ t.doors.map Door.state = s.doors.map Door.state
  told : ¬ s.DoorSet d → t.damper.doorOpen = t.anyDoorOpen

theorem anyDoorOpen_of_states {s t : State} (h : t.doors.map Door.state = s.doors.map Door.state) :
    t.anyDoorOpen = s.anyDoorOpen := by
  have key : ∀ u : State, u.anyDoorOpen = (u.doors.map Door.state).any (fun x => x == .opened) := fun u => by
    rw [List.any_map]; rfl
  rw [key, key, h]

/-- A sample that leaves a door as it is. -/
theorem DoorSampled.refl {d : Fin 3} {level : Bool} {s : State} (hset : s.DoorSet d)
    (h : (s.door? d).map (Door.sampled s.clock (s.doorCfg? d) level) = s.door? d) : DoorSampled d level s s :=
  ⟨⟨_, _, rfl⟩, h.symm, fun _ _ => rfl, fun _ => ⟨rfl, rfl⟩, fun hn => absurd hset hn⟩

theorem sampleDoor_quiet {d : Fin 3} {level : Bool} {s : State} (h : s.DoorQuiet d level) :
    DoorSampled d level s (sampleDoor d level s) := by
  cases hr : s.door? d with
  | none =>
    have hs : sampleDoor d level s = s := by unfold sampleDoor; rw [hr]
    rw [hs]
    exact .refl (fun r g hr' => by rw [hr] at hr'; cases hr') (by rw [hr]; rfl)
  | some r =>
    cases hg : s.doorCfg? d with
    | none =>
      have hs : sampleDoor d level s = s := by unfold sampleDoor; rw [hr, hg]
      rw [hs]
      exact .refl (fun r g _ hg' => by rw [hg] at hg'; cases hg') (by rw [hr, hg]; rfl)
    | some g =>
      have hquiet := h r g hr hg
      have hsample := Filter.sample_eq r.filter g.filter level
      rw [hquiet, if_neg Bool.false_ne_true] at hsample
      have hdoor : ∀ k : Door → Door, (s.modDoor d k).door? d = some (k r) := fun k =>
        (door?_modDoor_same s d k).trans (by rw [hr]; rfl)
      by_cases hfirst : r.filter.level = none
      · have hs : sampleDoor d level s = noticeDamper (s.modDoor d (fun r' =>
            if level then Door.opening s.clock { r' with filter := r.filter.sampled g.filter level }
            else Door.closing { r' with filter := r.filter.sampled g.filter level })) := by
          unfold sampleDoor
          rw [hr, hg]
          dsimp only
          rw [if_pos hfirst, hsample]
          exact congrArg noticeDamper (modDoor_modDoor s d _ _)
        obtain ⟨x, hx⟩ := noticeDamper_only (s.modDoor d (fun r' =>
            if level then Door.opening s.clock { r' with filter := r.filter.sampled g.filter level }
            else Door.closing { r' with filter := r.filter.sampled g.filter level }))
        have hdoors := congrArg State.doors hx
        refine ⟨⟨_, x, by rw [hs, hx]; rfl⟩, ?_, fun y hy => ?_, fun hset => absurd hfirst (hset r g hr hg), fun _ => ?_⟩
        · rw [hs, door?_congr hdoors d]
          refine (hdoor _).trans ?_
          rw [hr, Option.map_some, hg, Door.sampled]
          exact congrArg some (if_neg fun hn => hn hfirst).symm
        · rw [hs, door?_congr hdoors y]
          exact door?_modDoor_other s _ hy
        · rw [hs, noticeDamper_doorOpen, State.anyDoorOpen, State.anyDoorOpen, hdoors]
      · have hs : sampleDoor d level s = s.modDoor d (fun r' => { r' with filter := r.filter.sampled g.filter level }) := by
          unfold sampleDoor
          rw [hr, hg]
          dsimp only
          rw [if_neg hfirst, hsample]
        have hset : s.DoorSet d := fun r' g' hr' _ => by rw [hr] at hr'; exact Option.some.inj hr' ▸ hfirst
        rw [hs]
        refine ⟨⟨_, _, rfl⟩, ?_, fun y hy => door?_modDoor_other s _ hy,
          fun _ => ⟨rfl, map_modify_eq fun _ _ => rfl⟩, fun hn => absurd hset hn⟩
        rw [hdoor, hr, Option.map_some, hg, Door.sampled]
        exact congrArg some (if_pos hfirst).symm

/-! ### The doors in table order -/

/-- The sample of every door. -/
def sampleDoors (p : Pins) (s : State) : State :=
  sampleDoor 2 (p.doors.getLsbD 2) (sampleDoor 1 (p.doors.getLsbD 1) (sampleDoor 0 (p.doors.getLsbD 0) s))

/-- What a sample of the doors leaves that makes no accepted change. -/
structure DoorsSampled (p : Pins) (s t : State) : Prop where
  frame : ∃ ds x, t = { s with doors := ds, damper := x }
  door : ∀ d, t.door? d = (s.door? d).map (Door.sampled s.clock (s.doorCfg? d) (p.doors.getLsbD d.val))
  kept : (∀ d, s.DoorSet d) → t.damper = s.damper ∧ t.doors.map Door.state = s.doors.map Door.state
  told : ¬ (∀ d, s.DoorSet d) → t.damper.doorOpen = t.anyDoorOpen

theorem doorSet_congr {s t : State} {d : Fin 3} (hd : t.door? d = s.door? d) (hc : t.config = s.config) :
    t.DoorSet d ↔ s.DoorSet d := by rw [State.DoorSet, State.DoorSet, hd, State.doorCfg?, State.doorCfg?, hc]

theorem doorQuiet_congr {s t : State} {d : Fin 3} {level : Bool} (h : s.DoorQuiet d level) (hd : t.door? d = s.door? d)
    (hc : t.config = s.config) : t.DoorQuiet d level := by
  rw [State.DoorQuiet, hd, State.doorCfg?, hc]; exact h

theorem sampleDoors_quiet {p : Pins} {s : State} (h : ∀ d : Fin 3, s.DoorQuiet d (p.doors.getLsbD d.val)) :
    DoorsSampled p s (sampleDoors p s) := by
  have keep : ∀ {d : Fin 3} {level : Bool} {u v : State}, DoorSampled d level u v → v.config = u.config ∧ v.clock = u.clock :=
    fun hu => by obtain ⟨_, _, rfl⟩ := hu.frame; exact ⟨rfl, rfl⟩
  have h0 := sampleDoor_quiet (h 0)
  have q1 := doorQuiet_congr (h 1) (h0.others 1 (by decide)) (keep h0).1
  have h1 := sampleDoor_quiet q1
  have d2 := (h1.others 2 (by decide)).trans (h0.others 2 (by decide))
  have c1 := (keep h1).1.trans (keep h0).1
  have k1 := (keep h1).2.trans (keep h0).2
  have h2 := sampleDoor_quiet (doorQuiet_congr (h 2) d2 c1)
  have set1 := doorSet_congr (h0.others 1 (by decide)) (keep h0).1
  have set2 := doorSet_congr d2 c1
  change DoorSampled 2 _ _ (sampleDoors p s) at h2
  -- once the damper drive is told, samples of doors already set keep what it was told
  have stays : ∀ {d : Fin 3} {level : Bool} {u v : State}, DoorSampled d level u v → u.damper.doorOpen = u.anyDoorOpen →
      v.damper.doorOpen = v.anyDoorOpen := fun {d _ u v} hv hu => by
    by_cases hset : u.DoorSet d
    · rw [(hv.kept hset).1, anyDoorOpen_of_states (hv.kept hset).2, hu]
    · exact hv.told hset
  refine ⟨?_, fun d => ?_, fun hset => ?_, fun hnot => ?_⟩
  · obtain ⟨_, _, f0⟩ := h0.frame
    obtain ⟨_, _, f1⟩ := h1.frame
    obtain ⟨_, _, f2⟩ := h2.frame
    rw [f2, f1, f0]
    exact ⟨_, _, rfl⟩
  · have cfg : ∀ {u : State} (y : Fin 3), u.config = s.config → u.doorCfg? y = s.doorCfg? y := fun y hu => by
      rw [State.doorCfg?, hu]; rfl
    fin_cases d
    · exact (h2.others 0 (by decide)).trans ((h1.others 0 (by decide)).trans h0.door)
    · refine (h2.others 1 (by decide)).trans (h1.door.trans ?_)
      rw [h0.others 1 (by decide), (keep h0).2, cfg 1 (keep h0).1]
      rfl
    · refine h2.door.trans ?_
      rw [d2, k1, cfg 2 c1]
      rfl
  · obtain ⟨damper0, states0⟩ := h0.kept (hset 0)
    obtain ⟨damper1, states1⟩ := h1.kept (set1.2 (hset 1))
    obtain ⟨damper2, states2⟩ := h2.kept (set2.2 (hset 2))
    exact ⟨damper2.trans (damper1.trans damper0), states2.trans (states1.trans states0)⟩
  · by_cases s2 : s.DoorSet 2
    · by_cases s1 : s.DoorSet 1
      · have s0 : ¬ s.DoorSet 0 := fun s0 => hnot fun d => by
          fin_cases d
          · exact s0
          · exact s1
          · exact s2
        exact stays h2 (stays h1 (h0.told s0))
      · exact stays h2 (h1.told fun hn => s1 (set1.1 hn))
    · exact h2.told fun hn => s2 (set2.1 hn)

/-! ### Keys -/

/-- The node's key filters but for a press. -/
def State.NoPress (s : State) (keys : BitVec 8) : Prop :=
  ∀ (k : Nat) f, k < 8 → s.keys[k]? = some f → keys.getLsbD k = true → f.turns 4 true = false

theorem sampleKey_quiet {keys : BitVec 8} {s : State} {k : Nat}
    (h : ∀ f, s.keys[k]? = some f → keys.getLsbD k = true → f.turns 4 true = false) :
    sampleKey keys s k = { s with keys := s.keys.mapIdx (fun j f => if j = k then f.sampled 4 (keys.getLsbD j) else f) } := by
  unfold sampleKey
  cases hk : s.keys[k]? with
  | none =>
    have hkeys : s.keys.mapIdx (fun j f => if j = k then f.sampled 4 (keys.getLsbD j) else f) = s.keys := by
      refine List.mapIdx_eq_iff.2 fun i => ?_
      cases hi : s.keys[i]? with
      | none => rfl
      | some f =>
        have hne : i ≠ k := fun he => by rw [he, hk] at hi; cases hi
        rw [Option.map_some, if_neg hne]
    rw [hkeys]
  | some f =>
    have hpress : ¬ (f.sample 4 (keys.getLsbD k)).2 = some true := by
      rw [Filter.sample_eq]
      intro hp
      dsimp only at hp
      split at hp
      · next ht =>
        have hl := Option.some.inj hp
        rw [hl, h f hk hl] at ht
        cases ht
      · cases hp
    dsimp only
    rw [if_neg hpress, Filter.sample_eq]
    have hkeys : s.keys.set k (f.sampled 4 (keys.getLsbD k))
        = s.keys.mapIdx (fun j f => if j = k then f.sampled 4 (keys.getLsbD j) else f) := by
      refine List.ext_getElem? fun i => ?_
      rw [List.getElem?_mapIdx, List.getElem?_set]
      by_cases hik : k = i
      · subst hik
        rw [if_pos rfl, if_pos (List.getElem?_eq_some_iff.1 hk).1, hk, Option.map_some, if_pos rfl]
      · rw [if_neg hik]
        cases s.keys[i]? with
        | none => rfl
        | some f' => rw [Option.map_some, if_neg (Ne.symm hik)]
    rw [hkeys]

theorem foldl_sampleKey {keys : BitVec 8} : ∀ {l : List Nat} {s : State}, l.Nodup →
    (∀ k ∈ l, ∀ f, s.keys[k]? = some f → keys.getLsbD k = true → f.turns 4 true = false) →
    l.foldl (sampleKey keys) s = { s with keys := s.keys.mapIdx (fun j f => if j ∈ l then f.sampled 4 (keys.getLsbD j) else f) }
  | [], s, _, _ => by
    have hkeys : s.keys.mapIdx (fun j f => if j ∈ ([] : List Nat) then f.sampled 4 (keys.getLsbD j) else f) = s.keys :=
      List.mapIdx_eq_iff.2 fun i => by simp
    rw [hkeys]
    rfl
  | k :: l, s, hn, h => by
    obtain ⟨hk, hn⟩ := List.nodup_cons.1 hn
    rw [List.foldl_cons, sampleKey_quiet (h k (List.mem_cons_self ..)), foldl_sampleKey hn]
    · have hkeys : (s.keys.mapIdx (fun j f => if j = k then f.sampled 4 (keys.getLsbD j) else f)).mapIdx
          (fun j f => if j ∈ l then f.sampled 4 (keys.getLsbD j) else f)
          = s.keys.mapIdx (fun j f => if j ∈ k :: l then f.sampled 4 (keys.getLsbD j) else f) := by
        rw [List.mapIdx_mapIdx]
        refine congrArg (fun g => s.keys.mapIdx g) (funext fun j => funext fun f => ?_)
        by_cases hj : j = k
        · subst hj; simp [hk]
        · simp [hj]
      rw [hkeys]
    · intro j hj f hf
      rw [List.getElem?_mapIdx] at hf
      obtain ⟨f', hf', heq⟩ := Option.map_eq_some_iff.1 hf
      rw [if_neg fun he : j = k => hk (he ▸ hj)] at heq
      subst heq
      exact h j (List.mem_cons_of_mem _ hj) _ hf'

/-! ### Tachometers -/

/-- A fan after a sample of its tachometer (R25, R153). -/
def Blower.tachSampled (tachs : BitVec 8) (b : Blower) : Blower :=
  { b with
    filter := b.filter.sampled 2 (tachs.getLsbD b.fan.pin)
    tach := if tachs.getLsbD b.fan.pin = true ∧ b.filter.turns 2 (tachs.getLsbD b.fan.pin) = true then min 255 (b.tach + 1)
      else b.tach }

/-- A fan by its name is a fan of that name. -/
theorem fan_of_fan? {s : State} {f : FanId} {b : Blower} (h : s.fan? f = some b) : b.fan = f :=
  beq_iff_eq.1 (List.find?_some (p := fun b : Blower => b.fan == f) h)

theorem sampleTach_frame (tachs : BitVec 8) (s : State) (f : FanId) : ∃ fs, sampleTach tachs s f = { s with fans := fs } := by
  unfold sampleTach
  split
  · dsimp only
    split
    · exact ⟨_, rfl⟩
    · exact ⟨_, rfl⟩
  · exact ⟨_, rfl⟩

/-- A sample of a tachometer changes the record of its own fan only. -/
theorem sampleTach_fan? (tachs : BitVec 8) (s : State) (f f' : FanId) :
    (sampleTach tachs s f).fan? f' = if f' = f then (s.fan? f').map (Blower.tachSampled tachs) else s.fan? f' := by
  cases hb : s.fan? f with
  | none =>
    have hs : sampleTach tachs s f = s := by unfold sampleTach; rw [hb]
    rw [hs]
    split
    · next he => subst he; rw [hb]; rfl
    · rfl
  | some b =>
    have hfan := fan_of_fan? hb
    have hmod : ∀ (u : State) {g : Blower → Blower}, (∀ b, (g b).fan = b.fan) →
        (u.modFan f g).fan? f' = if f' = f then (u.fan? f').map g else u.fan? f' := fun u _ hg => fan?_modFan u f f' hg
    have hfilter := hmod s (g := fun b' => { b' with filter := b.filter.sampled 2 (tachs.getLsbD f.pin) }) fun _ => rfl
    have htaken : (s.fan? f).map (Blower.tachSampled tachs) = some { b with
        filter := b.filter.sampled 2 (tachs.getLsbD f.pin)
        tach := if tachs.getLsbD f.pin = true ∧ b.filter.turns 2 (tachs.getLsbD f.pin) = true then min 255 (b.tach + 1)
          else b.tach } := by rw [hb, Option.map_some, Blower.tachSampled, hfan]
    have hs : sampleTach tachs s f = if tachs.getLsbD f.pin = true ∧ b.filter.turns 2 (tachs.getLsbD f.pin) = true
        then countPulse f (s.modFan f (fun b' => { b' with filter := b.filter.sampled 2 (tachs.getLsbD f.pin) }))
        else s.modFan f (fun b' => { b' with filter := b.filter.sampled 2 (tachs.getLsbD f.pin) }) := by
      unfold sampleTach
      rw [hb]
      dsimp only
      rw [Filter.sample_eq]
      dsimp only
      cases tachs.getLsbD f.pin <;> cases b.filter.turns 2 _ <;> rfl
    have hgoal : (if f' = f then (s.fan? f').map (Blower.tachSampled tachs) else s.fan? f')
        = if f' = f then (s.fan? f).map (Blower.tachSampled tachs) else s.fan? f' := by
      split
      · next he => rw [he]
      · rfl
    rw [hgoal, htaken, hs]
    split
    · have hcount := hmod (s.modFan f (fun b' => { b' with filter := b.filter.sampled 2 (tachs.getLsbD f.pin) }))
        (g := fun b => { b with tach := capNat 255 (b.tach + 1) }) fun _ => rfl
      rw [countPulse, hcount, hfilter]
      by_cases he : f' = f
      · rw [if_pos he, if_pos he, if_pos he, he, hb, Option.map_some, Option.map_some, capNat_eq_min]
      · rw [if_neg he, if_neg he, if_neg he]
    · rw [hfilter]
      split
      · next he => rw [he, hb]; rfl
      · rfl

theorem foldl_sampleTach (tachs : BitVec 8) : ∀ (l : List FanId) (s : State), l.Nodup →
    (∃ fs, l.foldl (sampleTach tachs) s = { s with fans := fs }) ∧ ∀ f, (l.foldl (sampleTach tachs) s).fan? f
      = if f ∈ l then (s.fan? f).map (Blower.tachSampled tachs) else s.fan? f
  | [], s, _ => ⟨⟨_, rfl⟩, fun f => (if_neg List.not_mem_nil).symm⟩
  | x :: l, s, hn => by
    obtain ⟨hx, hn⟩ := List.nodup_cons.1 hn
    obtain ⟨⟨fs, hframe⟩, hfan⟩ := foldl_sampleTach tachs l (sampleTach tachs s x) hn
    obtain ⟨fs', hframe'⟩ := sampleTach_frame tachs s x
    refine ⟨⟨fs, by rw [List.foldl_cons, hframe, hframe']⟩, fun f => ?_⟩
    rw [List.foldl_cons, hfan f, sampleTach_fan?]
    by_cases hf : f = x
    · subst hf; simp [hx]
    · simp [hf]

theorem mem_fanPins (f : FanId) : f ∈ fanPins := by
  cases f with
  | zone z => fin_cases z <;> decide
  | curtain d => fin_cases d <;> decide
  | defrost => decide

/-! ### Contactor feedback -/

theorem sampleStages_getElem? (reset now : Time) (feedback : BitVec 44) : ∀ (l : List Stage) (i n : Nat),
    (sampleStages reset now feedback i l)[n]? = l[n]?.map (Stage.sampleFeedback reset now (feedback.getLsbD (i + n)))
  | [], _, _ => rfl
  | st :: l, i, 0 => rfl
  | st :: l, i, n + 1 => by
    rw [sampleStages, List.getElem?_cons_succ, List.getElem?_cons_succ, sampleStages_getElem? reset now feedback l,
      Nat.add_right_comm, Nat.add_assoc]

/-- A sample of a contactor feedback (R62): a first level or an accepted change is compared with the output. -/
theorem sampleFeedback_eq (reset now : Time) (level : Bool) (st : Stage) : st.sampleFeedback reset now level =
    { st with
      filter := st.filter.sampled 2 level
      feedback := if st.filter.level ≠ none ∧ st.filter.turns 2 level = false then st.feedback
        else if level = (st.state == .energized) then .agree
        else match st.feedback with
          | .agree => .disagree (.running (timeAfter (if st.filter.level = none then reset else now) 200))
          | .disagree x => .disagree x } := by
  unfold Stage.sampleFeedback
  rw [Filter.sample_eq]
  dsimp only
  by_cases hquiet : st.filter.level ≠ none ∧ st.filter.turns 2 level = false
  · obtain ⟨hset, hturns⟩ := hquiet
    have hnone : ¬ (st.filter.level = none ∨ (if st.filter.turns 2 level = true then some level else none) ≠ none) := by
      simp [hset, hturns]
    rw [if_neg hnone, if_pos ⟨hset, hturns⟩]
  · have hlevel : (st.filter.sampled 2 level).level = some level := by
      unfold Filter.sampled
      rw [if_neg fun h => hquiet ⟨by rw [h.1]; simp, h.2⟩]
    have htaken : st.filter.level = none ∨ (if st.filter.turns 2 level = true then some level else none) ≠ none := by
      by_cases hn : st.filter.level = none
      · exact .inl hn
      · have ht : st.filter.turns 2 level = true := Bool.not_eq_false _ ▸ fun hf => hquiet ⟨hn, hf⟩
        exact .inr (by rw [if_pos ht]; simp)
    rw [if_pos htaken, if_neg hquiet, hlevel, Stage.output]
    by_cases hout : level = (st.state == .energized)
    · rw [if_pos (congrArg some hout), if_pos hout]
    · rw [if_neg fun h => hout (Option.some.inj h), if_neg hout]
      cases st.feedback with
      | agree => rfl
      | disagree x => rfl

/-! ### Keys, tachometers and feedback -/

/-- The sample of the contactor feedback. -/
def sampleOutputs (p : Pins) (reset : Time) (s : State) : State :=
  { s with stages := sampleStages reset s.clock p.feedback 0 s.stages }

/-- The sample of the inputs behind the doors. -/
def sampleRest (p : Pins) (reset : Time) (s : State) : State :=
  sampleOutputs p reset (fanPins.foldl (sampleTach p.tachs) ([0, 1, 2, 3, 4, 5, 6, 7].foldl (sampleKey p.keys) s))

theorem sampleExpiry_eq (p : Pins) (s : State) : sampleExpiry p s =
    sampleRest p s.sampleSet (sampleDoors p { s with sampleTimer := s.sampleTimer.next 10 }) := rfl

/-- What a sample without a press leaves of the keys, the fans and the stages. -/
structure RestSampled (p : Pins) (reset : Time) (s t : State) : Prop where
  frame : ∃ ks fs ss, t = { s with keys := ks, fans := fs, stages := ss }
  keys : t.keys = s.keys.mapIdx (fun k f => if k < 8 then f.sampled 4 (p.keys.getLsbD k) else f)
  fans : ∀ f, t.fan? f = (s.fan? f).map (Blower.tachSampled p.tachs)
  stages : ∀ i, t.stage? i = (s.stage? i).map (Stage.sampleFeedback reset s.clock (p.feedback.getLsbD i))

theorem sampleKeys_quiet {keys : BitVec 8} {s : State} (h : s.NoPress keys) : [0, 1, 2, 3, 4, 5, 6, 7].foldl (sampleKey keys) s
    = { s with keys := s.keys.mapIdx (fun k f => if k < 8 then f.sampled 4 (keys.getLsbD k) else f) } := by
  have hmem : ∀ k : Nat, k ∈ [0, 1, 2, 3, 4, 5, 6, 7] ↔ k < 8 := fun k => by
    simp only [List.mem_cons, List.not_mem_nil, or_false]; omega
  rw [foldl_sampleKey (by decide) fun k hk f => h k f ((hmem k).1 hk)]
  simp only [hmem]

theorem sampleRest_quiet {p : Pins} {s : State} (reset : Time) (h : s.NoPress p.keys) :
    RestSampled p reset s (sampleRest p reset s) := by
  unfold sampleRest
  rw [sampleKeys_quiet h]
  obtain ⟨⟨fs, hframe⟩, hfan⟩ := foldl_sampleTach p.tachs fanPins
    { s with keys := s.keys.mapIdx (fun k f => if k < 8 then f.sampled 4 (p.keys.getLsbD k) else f) } (by decide)
  generalize fanPins.foldl (sampleTach p.tachs) _ = s4 at hframe hfan
  subst hframe
  refine ⟨⟨_, _, _, rfl⟩, rfl, fun f => (hfan f).trans (if_pos (mem_fanPins f)), fun i => ?_⟩
  have := sampleStages_getElem? reset s.clock p.feedback s.stages 0 i
  rwa [Nat.zero_add] at this

end Sys2Proof.Machine
end

section
/-! A sample in which no door changes and no key is pressed (R25, R26, R62, R142, R153). -/

namespace Sys2Proof.Machine

/-! ### Samples of inputs that read their accepted levels -/

/-- A fan whose tachometer reads its accepted level. -/
def Blower.still (b : Blower) : Blower := { b with filter := b.filter.still }

theorem sampleTach_level {tachs : BitVec 8} {s : State}
    (h : ∀ b ∈ s.fans, b.filter.level = some (tachs.getLsbD b.fan.pin)) (f : FanId) :
    sampleTach tachs s f = { s with fans := s.fans.map (fun b => if b.fan = f then b.still else b) } := by
  unfold sampleTach
  cases hb : s.fan? f with
  | none =>
    have hkeep : s.fans.map (fun b => if b.fan = f then b.still else b) = s.fans := by
      refine (List.map_congr_left fun b hm => ?_).trans (List.map_id _)
      exact if_neg fun he => by simpa [he] using List.find?_eq_none.1 hb b hm
    rw [hkeep]
  | some b =>
    have hfan := fan_of_fan? hb
    have hlevel := h b (List.mem_of_find?_eq_some hb)
    rw [hfan] at hlevel
    dsimp only
    rw [Filter.sample_eq, Filter.turns_of_level hlevel, Filter.sampled_of_level hlevel]
    refine congrArg (fun fs => ({ s with fans := fs } : State)) (List.map_congr_left fun b' hm => ?_)
    by_cases hf : b'.fan = f
    · have hstill : b.filter.still = b'.filter.still := by rw [Filter.still, Filter.still, hlevel, h b' hm, hf]
      rw [if_pos hf, if_pos hf, hstill]
      rfl
    · rw [if_neg hf, if_neg hf]

theorem foldl_sampleTach_level {tachs : BitVec 8} : ∀ {l : List FanId} {s : State},
    (∀ b ∈ s.fans, b.filter.level = some (tachs.getLsbD b.fan.pin)) →
    l.foldl (sampleTach tachs) s = { s with fans := s.fans.map (fun b => if b.fan ∈ l then b.still else b) }
  | [], s, _ => by simp
  | x :: l, s, h => by
    rw [List.foldl_cons, sampleTach_level h, foldl_sampleTach_level]
    · simp only [List.map_map]
      refine congrArg (fun fs => ({ s with fans := fs } : State)) (List.map_congr_left fun b _ => ?_)
      by_cases hx : b.fan = x
      · simp [hx, Blower.still, Filter.still]
      · simp [hx]
    · intro b hb
      obtain ⟨b', hm, rfl⟩ := List.mem_map.1 hb
      split
      · exact h b' hm
      · exact h b' hm

theorem sampleStages_level {reset now : Time} {feedback : BitVec 44} {l : List Stage}
    (h : ∀ (i : Nat) st, l[i]? = some st → st.filter.level = some (feedback.getLsbD i)) :
    sampleStages reset now feedback 0 l = l.map (fun st => { st with filter := st.filter.still }) := by
  refine List.ext_getElem? fun i => ?_
  rw [sampleStages_getElem?, List.getElem?_map, Nat.zero_add]
  cases hi : l[i]? with
  | none => rfl
  | some st =>
    have hlevel := h i st hi
    have hquiet : st.filter.level ≠ none ∧ st.filter.turns 2 (feedback.getLsbD i) = false :=
      ⟨by rw [hlevel]; simp, Filter.turns_of_level hlevel 2⟩
    rw [Option.map_some, Option.map_some, sampleFeedback_eq, if_pos hquiet, Filter.sampled_of_level hlevel]

theorem keys_still {keys : BitVec 8} {l : List Filter} (hl : l.length ≤ 8)
    (h : ∀ (k : Nat) f, l[k]? = some f → f.level = some (keys.getLsbD k)) :
    l.mapIdx (fun k f => if k < 8 then f.sampled 4 (keys.getLsbD k) else f) = l.map Filter.still := by
  refine List.ext_getElem? fun k => ?_
  rw [List.getElem?_mapIdx, List.getElem?_map]
  cases hk : l[k]? with
  | none => rfl
  | some f =>
    have hlt := (List.getElem?_eq_some_iff.1 hk).1
    rw [Option.map_some, Option.map_some, if_pos (by omega), Filter.sampled_of_level (h k f hk)]

theorem noPress_of_level {s : State} {keys : BitVec 8}
    (h : ∀ (k : Nat) f, s.keys[k]? = some f → f.level = some (keys.getLsbD k)) : s.NoPress keys :=
  fun k f _ hf hl => Filter.turns_of_level ((h k f hf).trans (congrArg some hl)) 4

/-- The doors after a sample in which each reads its accepted level. -/
theorem sampleDoors_level {p : Pins} {s : State} (hlen : s.doors.length ≤ 3)
    (h : ∀ d r, s.door? d = some r → s.doorCfg? d ≠ none ∧ r.filter.level = some (p.doors.getLsbD d.val)) :
    sampleDoors p s = { s with doors := s.doors.map (fun r => { r with filter := r.filter.still }) } := by
  have hs := sampleDoors_quiet (p := p) (s := s) fun d r g hr _ => Filter.turns_of_level (h d r hr).2 g.filter
  obtain ⟨ds, x, hframe⟩ := hs.frame
  obtain ⟨hdamper, hstates⟩ := hs.kept fun d r g hr _ => by rw [(h d r hr).2]; simp
  have hdoor := hs.door
  have hlength : ds.length = s.doors.length := by
    rw [hframe] at hstates
    simpa using congrArg List.length hstates
  rw [hframe] at hdamper hdoor ⊢
  have hds : ds = s.doors.map (fun r => { r with filter := r.filter.still }) := by
    refine List.ext_getElem? fun i => ?_
    rw [List.getElem?_map]
    by_cases hi : i < 3
    · refine (hdoor ⟨i, hi⟩).trans ?_
      change Option.map _ (s.door? ⟨i, hi⟩) = Option.map _ (s.door? ⟨i, hi⟩)
      cases hr : s.door? ⟨i, hi⟩ with
      | none => rfl
      | some r =>
        obtain ⟨hcfg, hlevel⟩ := h _ r hr
        obtain ⟨g, hg⟩ := Option.ne_none_iff_exists'.1 hcfg
        rw [Option.map_some, Option.map_some, hg, Door.sampled]
        dsimp only
        rw [if_pos (by rw [hlevel]; simp), Filter.sampled_of_level hlevel]
    · rw [List.getElem?_eq_none (by omega), List.getElem?_eq_none (by omega), Option.map_none]
  rw [hds]
  exact congrArg (fun y => ({ s with doors := s.doors.map _, damper := y } : State)) hdamper

theorem sampleRest_level {p : Pins} {s : State} (reset : Time) (hlen : s.keys.length ≤ 8)
    (hkeys : ∀ (k : Nat) f, s.keys[k]? = some f → f.level = some (p.keys.getLsbD k))
    (hfans : ∀ b ∈ s.fans, b.filter.level = some (p.tachs.getLsbD b.fan.pin))
    (hstages : ∀ (i : Nat) st, s.stages[i]? = some st → st.filter.level = some (p.feedback.getLsbD i)) :
    sampleRest p reset s = { s with
      keys := s.keys.map Filter.still
      fans := s.fans.map Blower.still
      stages := s.stages.map (fun st => { st with filter := st.filter.still }) } := by
  unfold sampleRest
  rw [sampleKeys_quiet (noPress_of_level hkeys), foldl_sampleTach_level (by exact hfans), keys_still hlen hkeys]
  simp only [mem_fanPins, if_true, sampleOutputs, sampleStages_level hstages]

/-! ### The sample as a command -/

theorem sampleExpiry_runs {s : State} {e : Time} (p : Pins) (hs : s.Ready) (he : s.sampleTimer = .running e) :
    exec (.inputSample p) s = .next (finish (sampleRest p (e - 10)
      (sampleDoors p { s with clock := (advanceTo e s).clock, sampleTimer := .running (timeAfter e 10) }))) := by
  have hexec : exec (.inputSample p) s = atExpiry s.sampleTimer (sampleExpiry p) s := rfl
  rw [hexec, he, atExpiry_running e _ s hs.running, sampleExpiry_eq]
  obtain ⟨now, hnow⟩ := advanceTo_eq e s
  rw [hnow]
  simp only [State.sampleSet, he, Timer.next]

/-- Settles O16. -/
theorem quietSampleChangesNothing : Obligations.QuietSampleChangesNothing := by
  refine ⟨fun s e p hs he hdoors hkeys door key tach feedback => ?_, fun s e p hs he => ?_⟩
  · refine ⟨_, sampleExpiry_runs p hs he, ?_⟩
    obtain ⟨now, hnow⟩ := advanceTo_eq e s
    rw [hnow]
    have doors := sampleDoors_level (p := p) (s := { s with clock := now, sampleTimer := .running (timeAfter e 10) }) hdoors door
    have rest := sampleRest_level (p := p) (e - 10) (s := { s with
      clock := now, sampleTimer := .running (timeAfter e 10), doors := s.doors.map (fun r => { r with filter := r.filter.still }) })
      hkeys key tach feedback
    rw [doors, rest]
    exact finish_closes_none _ hs.settled
  · intro now turns sampled hquiet hpress
    refine ⟨_, sampleExpiry_runs p hs he, ?_⟩
    have doors := sampleDoors_quiet (p := p)
      (s := { s with clock := now, sampleTimer := .running (timeAfter e 10) }) fun d r g => hquiet d r g
    obtain ⟨ds, x, hdoors⟩ := doors.frame
    have rest := sampleRest_quiet (p := p) (e - 10) (s := sampleDoors p _) (by
      rw [hdoors]; exact fun k f hk => hpress ⟨k, hk⟩ f)
    obtain ⟨ks, fs, ss, hrest⟩ := rest.frame
    generalize sampleRest p (e - 10) _ = u at rest hrest ⊢
    generalize sampleDoors p _ = v at doors hdoors rest hrest
    obtain ⟨w, l, o, hfinish⟩ := finish_frame_of_settled (s := u) (by rw [hrest, hdoors]; exact hs.settled)
    subst hdoors hrest
    have hdoor := doors.door
    have hkeys := rest.keys
    have hfans := rest.fans
    have hstages := rest.stages
    rw [hfinish]
    refine ⟨rfl, fun d r hr => ?_, ?_, fun d r g hr hg hfirst => ?_, fun k => ?_, hfans, fun i => ?_, rfl⟩
    · exact (hdoor d).trans (congrArg (Option.map _) hr)
    · by_cases hset : ∀ d, s.DoorSet d
      · exact .inl (doors.kept hset).1
      · exact .inr (doors.told hset)
    · exact doors.told fun hset => hset d r g hr hg hfirst
    · have hkey := congrArg (fun l : List Filter => l[k.val]?) hkeys
      simp only [List.getElem?_mapIdx, k.isLt, if_true] at hkey
      exact hkey
    · exact (hstages i).trans (congrArg (fun g => (s.stage? i).map g) (funext fun st => sampleFeedback_eq _ _ _ st))

end Sys2Proof.Machine
end

section
/-! An accepted level of one door (R27, R28, R30, R31, R41, R42, R45), the only change of its sample: what the event does, and what the
samples around it leave. -/

namespace Sys2Proof.Machine

/-! ### Samples of the other doors -/

/-- A door's record but for its filter's run. -/
def Door.calm (r : Door) : Door := { r with filter := r.filter.still }

/-- The doors but `d` read their accepted levels. -/
def State.OthersRead (s : State) (d : Fin 3) (p : Pins) : Prop :=
  ∀ y ry, y ≠ d → s.door? y = some ry → ry.filter.level = some (p.doors.getLsbD y.val)

/-- The samples of doors other than `d` that read their accepted levels move no filter but its run. -/
structure OthersSampled (d : Fin 3) (s t : State) : Prop where
  frame : ∃ ds, t = { s with doors := ds }
  door : t.door? d = s.door? d
  calm : t.doors.map Door.calm = s.doors.map Door.calm

theorem OthersSampled.refl (d : Fin 3) (s : State) : OthersSampled d s s := ⟨⟨_, rfl⟩, rfl, rfl⟩

theorem OthersSampled.trans {d : Fin 3} {s t u : State} (h₁ : OthersSampled d s t) (h₂ : OthersSampled d t u) :
    OthersSampled d s u := by
  refine ⟨?_, h₂.door.trans h₁.door, h₂.calm.trans h₁.calm⟩
  obtain ⟨_, rfl⟩ := h₁.frame
  obtain ⟨_, rfl⟩ := h₂.frame
  exact ⟨_, rfl⟩

/-- What does not read the filters' runs is the same of every door. -/
theorem OthersSampled.map {α : Type} {d : Fin 3} {s t : State} (h : OthersSampled d s t) {f : Door → α} (hf : ∀ r, f r.calm = f r) :
    t.doors.map f = s.doors.map f := by
  have key : ∀ l : List Door, l.map f = (l.map Door.calm).map f := fun l => by
    rw [List.map_map]; exact List.map_congr_left fun r _ => (hf r).symm
  rw [key t.doors, h.calm, ← key]

theorem OthersSampled.map_door? {α : Type} {d : Fin 3} {s t : State} (h : OthersSampled d s t) {f : Door → α}
    (hf : ∀ r, f r.calm = f r) (y : Fin 3) : (t.door? y).map f = (s.door? y).map f := by
  rw [State.door?, State.door?, ← List.getElem?_map, ← List.getElem?_map, h.map hf]

theorem OthersSampled.any {d : Fin 3} {s t : State} (h : OthersSampled d s t) (x : DoorState) :
    t.doors.any (fun r => r.state == x) = s.doors.any (fun r => r.state == x) := by
  have key : ∀ l : List Door, l.any (fun r => r.state == x) = (l.map Door.state).any (· == x) := fun l => by rw [List.any_map]; rfl
  rw [key, key, h.map fun _ => rfl]

theorem othersRead_of_levels {s t : State} {d : Fin 3} {p : Pins} (h : s.OthersRead d p)
    (hd : ∀ y, y ≠ d → (t.door? y).map (·.filter.level) = (s.door? y).map (·.filter.level)) : t.OthersRead d p := by
  intro y ry hy hr
  have hlevel := hd y hy
  rw [hr, Option.map_some] at hlevel
  obtain ⟨r', hr', heq⟩ := Option.map_eq_some_iff.1 hlevel.symm
  exact heq.symm.trans (h y r' hy hr')

theorem OthersSampled.read {s t : State} {d : Fin 3} {p : Pins} (ht : OthersSampled d s t) (h : s.OthersRead d p) :
    t.OthersRead d p := othersRead_of_levels h fun y _ => ht.map_door? (f := (·.filter.level)) (fun _ => rfl) y

theorem sampleDoor_other {s : State} {d y : Fin 3} {level : Bool} (hy : y ≠ d)
    (h : ∀ ry, s.door? y = some ry → ry.filter.level = some level) : OthersSampled d s (sampleDoor y level s) := by
  unfold sampleDoor
  cases hr : s.door? y with
  | none => exact .refl d s
  | some r =>
    cases hg : s.doorCfg? y with
    | none => exact .refl d s
    | some g =>
      have hlevel := h r hr
      dsimp only
      rw [if_neg (by rw [hlevel]; simp), Filter.sample_eq, Filter.turns_of_level hlevel, Filter.sampled_of_level hlevel]
      refine ⟨⟨_, rfl⟩, door?_modDoor_other s _ hy.symm, map_modify_eq fun a ha => ?_⟩
      obtain rfl : a = r := Option.some.inj (ha.symm.trans hr)
      rfl

/-- The samples of the doors, about the sample of `d`. -/
theorem sampleDoors_around {s : State} {d : Fin 3} {p : Pins} (h : s.OthersRead d p)
    (hkeeps : ∀ u, OthersSampled d s u → ∀ y, y ≠ d → (sampleDoor d (p.doors.getLsbD d.val) u).door? y = u.door? y) :
    ∃ u, OthersSampled d s u ∧ OthersSampled d (sampleDoor d (p.doors.getLsbD d.val) u) (sampleDoors p s) := by
  have other : ∀ (y : Fin 3) {u : State}, y ≠ d → u.OthersRead d p → OthersSampled d u (sampleDoor y (p.doors.getLsbD y.val) u) :=
    fun y _ hy hu => sampleDoor_other hy fun ry hr => hu y ry hy hr
  have event : ∀ {u : State}, OthersSampled d s u → (sampleDoor d (p.doors.getLsbD d.val) u).OthersRead d p :=
    fun hu => othersRead_of_levels (hu.read h) fun y hy => by rw [hkeeps _ hu y hy]
  have two : ∀ (y z : Fin 3) {u : State}, y ≠ d → z ≠ d → u.OthersRead d p →
      OthersSampled d u (sampleDoor z (p.doors.getLsbD z.val) (sampleDoor y (p.doors.getLsbD y.val) u)) :=
    fun y z _ hy hz hu => (other y hy hu).trans (other z hz ((other y hy hu).read hu))
  fin_cases d
  · exact ⟨s, .refl _ s, two 1 2 (by decide) (by decide) (event (.refl _ s))⟩
  · have before := other 0 (by decide) h
    exact ⟨_, before, other 2 (by decide) (event before)⟩
  · exact ⟨_, two 0 1 (by decide) (by decide) h, .refl _ _⟩

/-! ### The event of a door -/

/-- What the accepted level of a door does, but for the draft lists, the damper drive and the conditions. -/
structure DoorTakes (d : Fin 3) (g : DoorCfg) (before : Curtain) (r : Door) (event : Byte) (s t : State) : Prop where
  only : AdoptOnly s t
  door : t.door? d = some r
  others : ∀ y, y ≠ d → t.door? y = s.door? y
  announced : DoorAnnounced (s.doorBody d g event (largestWeight g)) s.link.list t
  handed : before.isWanted ≠ r.curtain.isWanted → g.curtainStages ≠ 0 → CurtainHanded d g r.curtain s t

/-- The event changes the door's record and the draft lists before its curtain moves. -/
def State.withDoors (s : State) (ds : List Door) (zs : List Zone) : State := { s with doors := ds, zones := zs }

section
variable {d : Fin 3} {g : DoorCfg} {r : Door} {c : Curtain} {timer : Timer} {s a b : State} {ds : List Door} {zs : List Zone}

/-- A curtain that moves before the DOOR frame joins (R27, R28). -/
theorem doorTakes_curtainFirst (ha : a = s.withDoors ds zs) (hothers : ∀ y, y ≠ d → a.door? y = s.door? y)
    (hb : CurtainMoves d g r c timer a b) (opened : Bool) :
    DoorTakes d g r.curtain { r with curtain := c, runOn := timer } (if opened then 1#8 else 0#8) s
      (noticeDamper (announceDoor d g opened (largestWeight g) b)) := by
  have announced := announceDoor_only d g opened (largestWeight g) b
  have noticed := noticeDamper_only (announceDoor d g opened (largestWeight g) b)
  have hdoors := noticed.doors_eq.trans announced.doors_eq
  have honly : AdoptOnly s a := ha ▸ ⟨_, _, _, _, _, _, _, _, _, _, _, rfl⟩
  have hwait : DoorsWait s a := ha ▸ .of_eq rfl rfl
  exact {
    only := ((honly.trans hb.step.only).trans announced.toAdoptOnly).trans noticed.toAdoptOnly
    door := (door?_congr hdoors d).trans hb.door
    others := fun y hy => (door?_congr hdoors y).trans ((hb.others y hy).trans (hothers y hy))
    announced := announceDoor_announces d g opened _ (honly.trans hb.step.only).straps_eq (hwait.trans hb.wait)
      noticed.doorsWait
    handed := fun hne hn => (hb.handed hne hn).congr (by rw [ha]; rfl) (by rw [ha]; rfl) (by rw [ha]; exact id)
      (RolesKept.trans announced.rolesKept (.of_eq noticed.stages_eq noticed.queue_eq)).roles
      (by rw [fan?_congr (noticed.fans_eq.trans announced.fans_eq)]) }

/-- A curtain that moves after the DOOR frame joins (R30). -/
theorem doorTakes_curtainLast (ha : a = s.withDoors ds zs) (hothers : ∀ y, y ≠ d → a.door? y = s.door? y) (opened : Bool)
    (hb : CurtainMoves d g r c timer (announceDoor d g opened (largestWeight g) a) b) :
    DoorTakes d g r.curtain { r with curtain := c, runOn := timer } (if opened then 1#8 else 0#8) s (recheck .doorStuck b) := by
  have announced := announceDoor_only d g opened (largestWeight g) a
  have rechecked := recheck_only .doorStuck b
  have honly : AdoptOnly s a := ha ▸ ⟨_, _, _, _, _, _, _, _, _, _, _, rfl⟩
  have hwait : DoorsWait s a := ha ▸ .of_eq rfl rfl
  exact {
    only := ((honly.trans announced.toAdoptOnly).trans hb.step.only).trans rechecked.toAdoptOnly
    door := (door?_congr rechecked.doors_eq d).trans hb.door
    others := fun y hy => (door?_congr rechecked.doors_eq y).trans ((hb.others y hy).trans
      ((door?_congr announced.doors_eq y).trans (hothers y hy)))
    announced := announceDoor_announces d g opened _ honly.straps_eq hwait (hb.wait.trans (recheck_doorsWait _ _))
    handed := fun hne hn => (hb.handed hne hn).congr (by rw [announced.stages_eq, ha]; rfl) (by rw [announced.queue_eq, ha]; rfl)
      (by rw [fan?_congr announced.fans_eq, ha]; exact id) rechecked.rolesKept.roles (by rw [fan?_congr rechecked.fans_eq]) }

end

/-! ### The event of an open -/

/-- The record of a door after an accepted open, before its curtain moves (R27). -/
def Door.justOpened (now : Time) (r : Door) : Door :=
  { r.opening now with openCount := countUp r.openCount, filter := ⟨some true, 0⟩ }

/-- The record of a door after an accepted close, before its curtain moves (R28, R30). -/
def Door.justClosed (r : Door) : Door := { r.closing with filter := ⟨some false, 0⟩ }

/-- A zone after the OPEN event of a door (R27, R35). -/
def Zone.doorOpened (f : Draft → Nat) (station : Station) (d : Fin 3) (g : DoorCfg) (z : Fin 4) (rz : Zone) : Zone :=
  let w := g.weights.getD z.val 0
  if w = 0 then rz
  else { rz with drafts := draftOpened f ⟨station, d, .loc, w, .opened, 10 * g.decay, none⟩ rz.drafts }

/-- A zone after the CLOSED event of a door (R28, R30, R37). -/
def Zone.doorClosed (s : State) (d : Fin 3) (g : DoorCfg) (rz : Zone) : Zone :=
  { rz with drafts := draftClosed s.clock s.straps.station d (10 * g.decay) rz.drafts }

/-- A door whose filter has accepted a level. -/
def State.levelled (s : State) (d : Fin 3) (level : Bool) : State := s.modDoor d (fun r => { r with filter := ⟨some level, 0⟩ })

section
variable {d : Fin 3} {s : State} {r : Door} {g : DoorCfg} (hr : s.door? d = some r) (hg : s.doorCfg? d = some g)
include hr

theorem levelled_door? (level : Bool) : (s.levelled d level).door? d = some { r with filter := ⟨some level, 0⟩ } :=
  (door?_modDoor_same s d _).trans (by rw [hr]; rfl)

include hg

/-- The accepted change of a door's level, from the last sample of its run. -/
theorem sampleDoor_accepts {level : Bool} (hlevel : r.filter.level = some (!level)) (hrun : g.filter ≤ r.filter.run + 1) :
    sampleDoor d level s = if level then acceptedOpen d (s.levelled d level) else acceptedClose d (s.levelled d level) := by
  have hturns : r.filter.turns g.filter level = true := by simp [Filter.turns, hlevel, hrun]
  have hsampled : r.filter.sampled g.filter level = ⟨some level, 0⟩ := by simp [Filter.sampled, hturns]
  unfold sampleDoor
  rw [hr, hg]
  dsimp only
  rw [if_neg (by rw [hlevel]; simp), Filter.sample_eq, hturns, hsampled, if_pos rfl]
  cases level <;> rfl

/-- An accepted open of a closed door: its bullets, in order (R27). -/
theorem sampleDoor_open (hstate : r.state = .closed) (hlevel : r.filter.level = some false) (hrun : g.filter ≤ r.filter.run + 1) :
    sampleDoor d true s = noticeDamper (announceDoor d g true (largestWeight g)
      (curtainOpened d r.curtain (localOpened d g (s.modDoor d (Door.justOpened s.clock))))) := by
  have hmod : (s.levelled d true).modDoor d (fun r => { r.opening s.clock with openCount := countUp r.openCount })
      = s.modDoor d (Door.justOpened s.clock) := modDoor_modDoor s d _ _
  rw [sampleDoor_accepts hr hg (level := true) hlevel hrun, if_pos rfl, acceptedOpen, levelled_door? hr,
    show (s.levelled d true).doorCfg? d = some g from hg]
  dsimp only
  rw [if_pos hstate, ← hmod]
  rfl

/-- An accepted close of a door: its bullets, in order, in OPEN (R28) and in STUCK (R30). -/
theorem sampleDoor_close (hlevel : r.filter.level = some true) (hrun : g.filter ≤ r.filter.run + 1) :
    (r.state = .opened → sampleDoor d false s = noticeDamper (announceDoor d g false (largestWeight g)
      (curtainClosed d r.curtain g.runOn (localClosed d g (s.modDoor d Door.justClosed)))))
    ∧ (r.state = .stuck → sampleDoor d false s = recheck .doorStuck (setCurtain d .off .stopped
      (announceDoor d g false (largestWeight g) (localClosed d g (s.modDoor d Door.justClosed))))) := by
  have hmod : (s.levelled d false).modDoor d Door.closing = s.modDoor d Door.justClosed := modDoor_modDoor s d _ _
  rw [sampleDoor_accepts hr hg (level := false) hlevel hrun, if_neg Bool.false_ne_true, acceptedClose, levelled_door? hr,
    show (s.levelled d false).doorCfg? d = some g from hg]
  dsimp only
  rw [hmod]
  exact ⟨fun hstate => by rw [hstate], fun hstate => by rw [hstate]⟩

end

/-! ### The curtain's move with the event (R41, R42) -/

/-- The curtain of a door that closes, from STUCK or from OPEN, and its run-on timer (R30, R42). -/
def Door.curtainAfter (now : Time) (g : DoorCfg) (stuck : Bool) (r : Door) : Curtain × Timer :=
  if g.curtainStages = 0 ∨ (stuck = false ∧ (r.curtain = .off ∨ r.curtain = .runOn)) then (r.curtain, r.runOn)
  else if stuck = false ∧ r.curtain = .wanted ∧ 0 < g.runOn then (.runOn, .running (timeAfter now (g.runOn * 1000)))
  else (.off, .stopped)

section
variable {d : Fin 3} {a : State} {r : Door} {g : DoorCfg} (hr : a.door? d = some r) (hg : a.doorCfg? d = some g)
include hr hg

/-- The curtain of a door that opens (R41, R44). -/
theorem curtainOpened_moves (hc : r.curtain = .off ∨ r.curtain = .runOn) : CurtainMoves d g r
    (if g.curtainStages = 0 then r.curtain else if a.inUse.flags.ventOnly then .barred else .wanted)
    (if g.curtainStages = 0 then r.runOn else .stopped) a (curtainOpened d r.curtain a) := by
  have hset : curtainOpened d r.curtain a = setCurtain d (if a.inUse.flags.ventOnly then .barred else .wanted) .stopped a := by
    unfold curtainOpened
    cases a.inUse.flags.ventOnly with
    | true => rfl
    | false => rcases hc with hc | hc <;> rw [hc] <;> rfl
  rw [hset]
  exact setCurtain_moves hr hg _ _

theorem curtainClosed_moves : CurtainMoves d g r (r.curtainAfter a.clock g false).1 (r.curtainAfter a.clock g false).2 a
    (curtainClosed d r.curtain g.runOn a) := by
  have moves := fun c timer => setCurtain_moves hr hg c timer
  have stays := CurtainMoves.refl g hr
  unfold Door.curtainAfter curtainClosed
  by_cases hn : g.curtainStages = 0
  · simp only [if_pos hn] at moves
    rw [if_pos (.inl hn)]
    split
    · split
      · exact moves _ _
      · exact moves _ _
    · exact moves _ _
    · exact stays
    · exact stays
  · simp only [if_neg hn] at moves
    cases hc : r.curtain with
    | off => simpa [hn, hc] using stays
    | runOn => simpa [hn, hc] using stays
    | barred => simpa [hn] using moves .off .stopped
    | wanted =>
      by_cases h0 : g.runOn = 0
      · simpa [hn, h0] using moves .off .stopped
      · simpa [hn, h0, Nat.pos_of_ne_zero h0, State.timer] using moves .runOn (a.timer (g.runOn * 1000))

end

/-! ### What the event does -/

section
variable {d : Fin 3} {s : State} {r : Door} {g : DoorCfg} (hr : s.door? d = some r) (hg : s.doorCfg? d = some g)

/-- A door that opens. -/
def Door.afterOpen (s : State) (g : DoorCfg) (r : Door) : Door :=
  { r.justOpened s.clock with
    curtain := if g.curtainStages = 0 then r.curtain else if s.inUse.flags.ventOnly then .barred else .wanted
    runOn := if g.curtainStages = 0 then r.runOn else .stopped }

/-- A door that closes. -/
def Door.afterClose (s : State) (g : DoorCfg) (r : Door) : Door :=
  { r.justClosed with
    curtain := (r.curtainAfter s.clock g (r.state == .stuck)).1, runOn := (r.curtainAfter s.clock g (r.state == .stuck)).2 }

include hr hg

theorem open_takes (hstate : r.state = .closed) (hlevel : r.filter.level = some false) (hrun : g.filter ≤ r.filter.run + 1)
    (hc : r.curtain = .off ∨ r.curtain = .runOn) :
    DoorTakes d g r.curtain (r.afterOpen s g) 1#8 s (sampleDoor d true s)
      ∧ (∀ z, (sampleDoor d true s).zone? z
          = (s.zone? z).map (Zone.doorOpened (s.modDoor d (Door.justOpened s.clock)).contribution s.straps.station d g z))
      ∧ (sampleDoor d true s).damper.doorOpen = (sampleDoor d true s).anyDoorOpen := by
  have hdoor : (s.modDoor d (Door.justOpened s.clock)).door? d = some (r.justOpened s.clock) :=
    (door?_modDoor_same s d _).trans (by rw [hr]; rfl)
  have moves := curtainOpened_moves (a := localOpened d g (s.modDoor d (Door.justOpened s.clock))) hdoor hg hc
  have hothers : ∀ y, y ≠ d → (localOpened d g (s.modDoor d (Door.justOpened s.clock))).door? y = s.door? y :=
    fun y hy => door?_modDoor_other s _ hy
  have takes := doorTakes_curtainFirst (s := s) rfl hothers moves true
  rw [sampleDoor_open hr hg hstate hlevel hrun]
  refine ⟨takes, fun z => ?_, ?_⟩
  · rw [zone?_congr (noticeDamper_only _).zones_eq, zone?_congr (announceDoor_only d g true _ _).zones_eq]
    refine (zone?_congr moves.step.zones z).trans ((zone?_mapDrafts _ _ z).trans ?_)
    refine congrArg (fun f => (s.zone? z).map f) (funext fun rz => ?_)
    unfold Zone.doorOpened
    dsimp only
    split <;> rfl
  · rw [noticeDamper_doorOpen, State.anyDoorOpen, State.anyDoorOpen, (noticeDamper_only _).doors_eq]

/-- A door's event that closes it, and every zone's drafts. -/
structure DoorCloses (d : Fin 3) (g : DoorCfg) (r : Door) (s t : State) : Prop where
  takes : DoorTakes d g r.curtain (r.afterClose s g) 0#8 s t
  zones : ∀ z, t.zone? z = (s.zone? z).map (Zone.doorClosed s d g)
  told : r.state = .opened → t.damper.doorOpen = t.anyDoorOpen
  untold : r.state = .stuck → t.damper = s.damper ∧ flagSet t.cond.current .doorStuck = t.doors.any (fun x => x.state == .stuck)

theorem close_takes (hstate : r.state = .opened ∨ r.state = .stuck) (hlevel : r.filter.level = some true)
    (hrun : g.filter ≤ r.filter.run + 1) : DoorCloses d g r s (sampleDoor d false s) := by
  obtain ⟨hopened, hstuck⟩ := sampleDoor_close hr hg hlevel hrun
  have hdoor : (s.modDoor d Door.justClosed).door? d = some r.justClosed := (door?_modDoor_same s d _).trans (by rw [hr]; rfl)
  have hothers : ∀ y, y ≠ d → (localClosed d g (s.modDoor d Door.justClosed)).door? y = s.door? y :=
    fun y hy => door?_modDoor_other s _ hy
  have hzones : ∀ {t : State}, t.zones = (localClosed d g (s.modDoor d Door.justClosed)).zones →
      ∀ z, t.zone? z = (s.zone? z).map (Zone.doorClosed s d g) := fun ht z => (zone?_congr ht z).trans (zone?_mapDrafts _ _ z)
  rcases hstate with hstate | hstate
  · have moves := curtainClosed_moves (a := localClosed d g (s.modDoor d Door.justClosed)) hdoor hg
    have takes := doorTakes_curtainFirst (s := s) rfl hothers moves false
    rw [hopened hstate]
    refine ⟨?_, hzones ?_, fun _ => ?_, fun h => by rw [hstate] at h; cases h⟩
    · rw [Door.afterClose, hstate]
      exact takes
    · exact (noticeDamper_only _).zones_eq.trans ((announceDoor_only d g false _ _).zones_eq.trans moves.step.zones)
    · rw [noticeDamper_doorOpen, State.anyDoorOpen, State.anyDoorOpen, (noticeDamper_only _).doors_eq]
  · have announced := announceDoor_only d g false (largestWeight g) (localClosed d g (s.modDoor d Door.justClosed))
    have moves := setCurtain_moves ((door?_congr announced.doors_eq d).trans hdoor)
      (show State.doorCfg? _ d = some g by rw [State.doorCfg?, announced.config_eq]; exact hg) .off .stopped
    have rechecked := recheck_only .doorStuck
      (setCurtain d .off .stopped (announceDoor d g false (largestWeight g) (localClosed d g (s.modDoor d Door.justClosed))))
    have takes := doorTakes_curtainLast (s := s) rfl hothers false moves
    rw [hstuck hstate]
    refine ⟨?_, hzones ?_, (fun h => by rw [hstate] at h; cases h), fun _ => ⟨?_, ?_⟩⟩
    · have hafter : r.curtainAfter s.clock g true
          = (if g.curtainStages = 0 then r.curtain else .off, if g.curtainStages = 0 then r.runOn else .stopped) := by
        unfold Door.curtainAfter
        by_cases hn : g.curtainStages = 0 <;> simp [hn]
      rw [Door.afterClose, hstate, show (DoorState.stuck == DoorState.stuck) = true from rfl, hafter]
      exact takes
    · exact rechecked.zones_eq.trans (moves.step.zones.trans announced.zones_eq)
    · exact rechecked.damper_eq.trans (moves.step.damper.trans announced.damper_eq)
    · rw [recheck_current, if_pos rfl, rechecked.doors_eq, conditionHolds]

end

/-! ### The sample as a command -/

/-- What the sample leaves of the other doors, the keys and the other records. -/
def State.OtherInputsStand (s : State) (d : Fin 3) (t : State) : Prop :=
  (∀ y, y ≠ d → (t.door? y).map (·.state) = (s.door? y).map (·.state))
    ∧ t.keys = s.keys.map (fun f => { f with run := 0 })
    ∧ { t with
        clock := s.clock, sampleTimer := s.sampleTimer, zones := s.zones, doors := s.doors, keys := s.keys,
        stages := s.stages, queue := s.queue, pacing := s.pacing, seq := s.seq, alloc := s.alloc, view := s.view,
        link := s.link, fans := s.fans, damper := s.damper, cond := s.cond, outputs := s.outputs } = s

/-- The sample of a door's event, as a command. -/
structure DoorSampleLeaves (d : Fin 3) (g : DoorCfg) (before : Curtain) (r : Door) (event : Byte) (s w t : State) : Prop where
  door : t.door? d = some r
  announced : DoorAnnounced (s.doorBody d g event (largestWeight g)) s.link.list t
  handed : before.isWanted ≠ r.curtain.isWanted → g.curtainStages ≠ 0 → CurtainHanded d g r.curtain s t
  zones : t.zones = w.zones
  damper : t.damper = w.damper
  current : t.cond.current = w.cond.current
  any : ∀ x, t.doors.any (fun r => r.state == x) = w.doors.any (fun r => r.state == x)
  others : s.OtherInputsStand d t

theorem RestSampled.roles {p : Pins} {reset : Time} {s t : State} (h : RestSampled p reset s t) : t.roles = s.roles := by
  refine roles_eq_iff.2 fun i => ?_
  rw [h.stages i, Option.map_map]
  refine congrArg (fun f => (s.stage? i).map f) (funext fun st => ?_)
  obtain ⟨v, hv, -⟩ := sampleFeedback_only reset s.clock (p.feedback.getLsbD i) st
  rw [Function.comp_apply, hv]
  rfl

theorem RestSampled.fanLevel {p : Pins} {reset : Time} {s t : State} (h : RestSampled p reset s t) (f : FanId) :
    (t.fan? f).map (·.level) = (s.fan? f).map (·.level) := by
  rw [h.fans f, Option.map_map]
  rfl

/-- The samples and the closing about a door's event. -/
theorem doorSample_leaves {s u w v x : State} {now : Time} {timer : Timer} {p : Pins} {reset : Time} {d : Fin 3} {g : DoorCfg}
    {before : Curtain} {r : Door} {event : Byte} (hs : s.attemptDue = false) (hlen : s.keys.length ≤ 8)
    (hkeys : ∀ (k : Nat) f, s.keys[k]? = some f → f.level = some (p.keys.getLsbD k))
    (hu : OthersSampled d { s with clock := now, sampleTimer := timer } u) (hw : DoorTakes d g before r event u w)
    (hv : OthersSampled d w v) (hx : RestSampled p reset v x) : DoorSampleLeaves d g before r event s w (finish x) := by
  obtain ⟨dsu, rfl⟩ := hu.frame
  obtain ⟨dsv, rfl⟩ := hv.frame
  obtain ⟨ks, fs, ss, hframe⟩ := hx.frame
  have hcond : x.cond = w.cond := by rw [hframe]
  have hdoors : x.doors = ({ w with doors := dsv } : State).doors := by rw [hframe]
  have hwait : DoorsWait w (finish x) := .trans (t := x) (.of_eq (by rw [hframe]) hcond) (finish_doorsWait x)
  exact {
    door := (finish_door? x d).trans ((door?_congr hdoors d).trans (hv.door.trans hw.door))
    announced := hw.announced.stands hwait
    handed := fun hne hn => (hw.handed hne hn).congr rfl rfl id ((finish_roles x).roles.trans hx.roles)
      (by rw [fan?_congr (finish_fans x)]; exact hx.fanLevel _)
    zones := (finish_zones x).trans (by rw [hframe])
    damper := (finish_damper x).trans (by rw [hframe])
    current := by rw [finish_cond, hcond]
    any := fun y => by rw [finish_doors, hdoors]; exact hv.any y
    others := by
      refine ⟨fun y hy => ?_, ?_, ?_⟩
      · rw [finish_door?, door?_congr hdoors y]
        refine (hv.map_door? (f := (·.state)) (fun _ => rfl) y).trans ?_
        rw [hw.others y hy]
        exact hu.map_door? (f := (·.state)) (fun _ => rfl) y
      · obtain ⟨_, _, _, _, _, _, _, hf⟩ := finish_frame x
        have hk : w.keys = s.keys := hw.only.keys_eq
        rw [hf]
        refine hx.keys.trans ?_
        rw [hk]
        exact keys_still hlen hkeys
      · obtain ⟨_, _, _, _, _, _, _, hf⟩ := finish_frame x
        obtain ⟨_, _, _, _, _, _, _, _, _, _, _, rfl⟩ := hw.only
        rw [hf, hframe]
        exact congrArg (fun a => ({ s with attemptDue := a } : State)) hs.symm }

end Sys2Proof.Machine
end

section
/-! The accepted open and the accepted close of a door as commands (R27, R28, R30). -/

namespace Sys2Proof.Machine

/-- The state at a sample, before its first input is read. -/
def State.sampling (s : State) (e : Time) : State :=
  { s with clock := (advanceTo e s).clock, sampleTimer := .running (timeAfter e 10) }

section
variable {s : State} {e : Time} {p : Pins} {d : Fin 3} {r : Door} {g : DoorCfg}

/-- The command of a sample in which door `d` alone has an event. -/
theorem sample_of_event {before : Curtain} {r' : Door} {event : Byte} {level : Bool} (hs : s.Ready)
    (he : s.sampleTimer = .running e) (hlen : s.keys.length ≤ 8)
    (hkeys : ∀ (k : Nat) f, s.keys[k]? = some f → f.level = some (p.keys.getLsbD k)) (hothers : s.OthersRead d p)
    (hlevel : p.doors.getLsbD d.val = level)
    (takes : ∀ u, OthersSampled d (s.sampling e) u → DoorTakes d g before r' event u (sampleDoor d level u)) :
    ∃ u t, OthersSampled d (s.sampling e) u ∧ exec (.inputSample p) s = .next t
      ∧ DoorSampleLeaves d g before r' event s (sampleDoor d level u) t := by
  obtain ⟨u, hu, hv⟩ := sampleDoors_around (s := s.sampling e) (p := p) hothers
    fun u hu y hy => by rw [hlevel]; exact (takes u hu).others y hy
  rw [hlevel] at hv
  have hw := takes u hu
  have hkeys' : (sampleDoors p (s.sampling e)).keys = s.keys := by
    obtain ⟨_, hv'⟩ := hv.frame
    obtain ⟨_, hu'⟩ := hu.frame
    rw [hv']
    exact hw.only.keys_eq.trans (by rw [hu']; rfl)
  have hx := sampleRest_quiet (p := p) (e - 10) (s := sampleDoors p (s.sampling e)) (noPress_of_level (by rw [hkeys']; exact hkeys))
  exact ⟨u, _, hu, sampleExpiry_runs p hs he, doorSample_leaves hs.settled hlen hkeys hu hw hv hx⟩

theorem isWanted_eq (x : Curtain) : (x == .wanted || x == .runOn) = x.isWanted := by cases x <;> rfl

/-- The stages and the fan of a curtain, by its state spelled out. -/
theorem handed_spelled {c c' : Curtain} {t : State}
    (h : c.isWanted ≠ c'.isWanted → g.curtainStages ≠ 0 → CurtainHanded d g c' s t)
    (hne : (c == .wanted || c == .runOn) ≠ (c' == .wanted || c' == .runOn)) (hn : g.curtainStages ≠ 0) :
    (s.QueueSound → t.Handed (.curtain d) .curtain (if (c' == .wanted || c' == .runOn) then g.curtainStages else 0))
      ∧ ∀ b, s.fan? (.curtain d) = some b →
          ∃ b', t.fan? (.curtain d) = some b' ∧ b'.level = if (c' == .wanted || c' == .runOn) then 1 else 0 := by
  rw [isWanted_eq, isWanted_eq] at *
  obtain ⟨stages, fan⟩ := h hne hn
  exact ⟨stages, fan⟩

/-- The contributions after a door opens are those at the moment its record is set. -/
theorem contribution_opened {u : State} (hr : s.door? d = some r) (hu : OthersSampled d (s.sampling e) u) {r' : Door}
    (hstate : r'.state = .opened) (hat : r'.openedAt = some (advanceTo e s).clock) :
    (u.modDoor d (Door.justOpened u.clock)).contribution
      = ({ advanceTo e s with doors := (advanceTo e s).doors.set d.val r' } : State).contribution := by
  obtain ⟨now, hnow⟩ := advanceTo_eq e s
  have hur : u.door? d = some r := hu.door.trans hr
  obtain ⟨ds, hframe⟩ := hu.frame
  have hclock : u.clock = (advanceTo e s).clock := by rw [hframe]; rfl
  refine contribution_congr hclock (by rw [hframe, hnow]; rfl) fun y => ?_
  by_cases hy : y = d
  · subst hy
    have hlt : y.val < (advanceTo e s).doors.length := by rw [hnow]; exact (List.getElem?_eq_some_iff.1 hr).1
    have hset : ({ advanceTo e s with doors := (advanceTo e s).doors.set y.val r' } : State).door? y = some r' :=
      List.getElem?_set_self hlt
    rw [door?_modDoor_same, hur, hset, Option.map_some, Option.map_some, Option.map_some, hstate, hat, hclock]
    rfl
  · have hset : ({ advanceTo e s with doors := (advanceTo e s).doors.set d.val r' } : State).door? y = s.door? y :=
      (List.getElem?_set_ne fun h => hy (Fin.ext h.symm)).trans (by rw [hnow]; rfl)
    rw [door?_modDoor_other _ _ hy, hset]
    exact hu.map_door? (f := fun r => (r.state, r.openedAt)) (fun _ => rfl) y

/-- The accepted open (R27, R31, R41, R45). -/
theorem accepted_open (hs : s.Ready) (he : s.sampleTimer = .running e) (hr : s.door? d = some r) (hg : s.doorCfg? d = some g)
    (hrun : g.filter ≤ r.filter.run + 1) (hlen : s.keys.length ≤ 8) (hothers : s.OthersRead d p)
    (hkeys : ∀ (k : Nat) f, s.keys[k]? = some f → f.level = some (p.keys.getLsbD k)) (hstate : r.state = .closed)
    (hlevel : r.filter.level = some false) (hbit : p.doors.getLsbD d.val = true) (hc : r.curtain = .off ∨ r.curtain = .runOn) :
    ∃ w t, exec (.inputSample p) s = .next t
      ∧ DoorSampleLeaves d g r.curtain (r.afterOpen (s.sampling e) g) 1#8 s w t
      ∧ (∀ z rz, s.zone? z = some rz → t.zone? z = some (rz.doorOpened ({ advanceTo e s with
          doors := (advanceTo e s).doors.set d.val (r.afterOpen (s.sampling e) g) } : State).contribution s.straps.station d g z))
      ∧ t.damper.doorOpen = true := by
  have takes : ∀ u, OthersSampled d (s.sampling e) u → _ := fun u hu =>
    open_takes (s := u) (r := r) (hu.door.trans hr) (g := g) (by obtain ⟨_, rfl⟩ := hu.frame; exact hg) hstate hlevel hrun hc
  have after : ∀ {u}, OthersSampled d (s.sampling e) u → r.afterOpen u g = r.afterOpen (s.sampling e) g := fun hu => by
    obtain ⟨_, rfl⟩ := hu.frame; rfl
  obtain ⟨u, t, hu, hexec, leaves⟩ := sample_of_event hs he hlen hkeys hothers hbit fun u hu => after hu ▸ (takes u hu).1
  obtain ⟨-, hzones, hdamper⟩ := takes u hu
  refine ⟨_, t, hexec, leaves, fun z rz hz => ?_, ?_⟩
  · have hzu : u.zone? z = some rz := by obtain ⟨_, rfl⟩ := hu.frame; exact hz
    have hstation : u.straps = s.straps := by obtain ⟨_, rfl⟩ := hu.frame; rfl
    rw [zone?_congr leaves.zones, hzones, hzu, Option.map_some, hstation,
      contribution_opened (r' := r.afterOpen (s.sampling e) g) hr hu rfl rfl]
  · rw [leaves.damper, hdamper]
    exact (leaves.any .opened).symm.trans (List.any_eq_true.2 ⟨_, List.mem_of_getElem? leaves.door, rfl⟩)

/-- The curtain of a door that closes, by the state it closes from. -/
theorem curtainAfter_spelled (now : Time) (g : DoorCfg) (hstate : r.state = .opened ∨ r.state = .stuck) :
    r.curtainAfter now g (r.state == .stuck) =
      (if g.curtainStages = 0 ∨ (r.state = .opened ∧ (r.curtain = .off ∨ r.curtain = .runOn)) then r.curtain
        else if r.state = .opened ∧ r.curtain = .wanted ∧ 0 < g.runOn then .runOn else .off,
      if g.curtainStages = 0 ∨ (r.state = .opened ∧ (r.curtain = .off ∨ r.curtain = .runOn)) then r.runOn
        else if r.state = .opened ∧ r.curtain = .wanted ∧ 0 < g.runOn then .running (timeAfter now (g.runOn * 1000))
        else .stopped) := by
  have hopen : (r.state == .stuck) = false ↔ r.state = .opened := by rcases hstate with h | h <;> simp [h]
  unfold Door.curtainAfter
  simp only [hopen]
  split
  · rfl
  · split <;> rfl

/-- The accepted close (R28, R30, R31, R42, R45). -/
theorem accepted_close (hs : s.Ready) (he : s.sampleTimer = .running e) (hr : s.door? d = some r) (hg : s.doorCfg? d = some g)
    (hrun : g.filter ≤ r.filter.run + 1) (hlen : s.keys.length ≤ 8) (hothers : s.OthersRead d p)
    (hkeys : ∀ (k : Nat) f, s.keys[k]? = some f → f.level = some (p.keys.getLsbD k))
    (hstate : r.state = .opened ∨ r.state = .stuck) (hlevel : r.filter.level = some true) (hbit : p.doors.getLsbD d.val = false) :
    ∃ w t, exec (.inputSample p) s = .next t
      ∧ DoorSampleLeaves d g r.curtain (r.afterClose (s.sampling e) g) 0#8 s w t
      ∧ (∀ z rz, s.zone? z = some rz → t.zone? z = some (rz.doorClosed (s.sampling e) d g))
      ∧ (r.state = .opened → t.damper.doorOpen = t.doors.any (fun x => x.state == .opened))
      ∧ (r.state = .stuck → t.damper = s.damper
          ∧ flagSet t.cond.current .doorStuck = t.doors.any (fun x => x.state == .stuck)) := by
  have takes : ∀ u, OthersSampled d (s.sampling e) u → DoorCloses d g r u (sampleDoor d false u) := fun u hu =>
    close_takes (s := u) (hu.door.trans hr) (by obtain ⟨_, rfl⟩ := hu.frame; exact hg) hstate hlevel hrun
  have after : ∀ {u}, OthersSampled d (s.sampling e) u → r.afterClose u g = r.afterClose (s.sampling e) g := fun hu => by
    obtain ⟨_, rfl⟩ := hu.frame; rfl
  obtain ⟨u, t, hu, hexec, leaves⟩ := sample_of_event hs he hlen hkeys hothers hbit fun u hu => after hu ▸ (takes u hu).takes
  obtain ⟨-, hzones, told, untold⟩ := takes u hu
  refine ⟨_, t, hexec, leaves, fun z rz hz => ?_, fun h => ?_, fun h => ?_⟩
  · have hzu : (u.zone? z).map (Zone.doorClosed u d g) = some (rz.doorClosed (s.sampling e) d g) := by
      obtain ⟨_, rfl⟩ := hu.frame
      exact congrArg (Option.map _) hz
    rw [zone?_congr leaves.zones, hzones, hzu]
  · rw [leaves.damper, told h, leaves.any]
    rfl
  · obtain ⟨hdamper, hflag⟩ := untold h
    rw [leaves.damper, leaves.current, leaves.any, hdamper]
    exact ⟨by obtain ⟨_, rfl⟩ := hu.frame; rfl, hflag⟩

end

/-- Settles O17. -/
theorem acceptedLevelMovesTheDoor : Obligations.AcceptedLevelMovesTheDoor := by
  intro s e p d r g hs he hr hg hrun hlen hothers hkeys s1 waiting same replaced announced moves others
  refine ⟨fun hstate hlevel hbit hc => ?_, fun hstate hlevel hbit => ?_⟩
  · obtain ⟨w, t, hexec, leaves, hzones, hdamper⟩ := accepted_open hs he hr hg hrun hlen hothers hkeys hstate hlevel hbit hc
    exact ⟨t, hexec, leaves.door, hzones, ⟨leaves.announced.room, leaves.announced.full⟩, handed_spelled leaves.handed, hdamper,
      leaves.others⟩
  · obtain ⟨w, t, hexec, leaves, hzones, told, untold⟩ := accepted_close hs he hr hg hrun hlen hothers hkeys hstate hlevel hbit
    intro runsOn stays closed
    have hclosed : r.afterClose (s.sampling e) g = closed := by rw [Door.afterClose, curtainAfter_spelled _ _ hstate]; rfl
    rw [hclosed] at leaves
    exact ⟨t, hexec, leaves.door, hzones, ⟨leaves.announced.room, leaves.announced.full⟩, handed_spelled leaves.handed, told,
      untold, leaves.others⟩

end Sys2Proof.Machine
end

section
/-! What ageing needs of the shared operations: what an adoption and a recomputation leave of the agreement and of the join listen, when
the choice of the cab station can change (R106), and that ROLE_CONFLICT follows it (R107). -/

namespace Sys2Proof.Machine

/-! ### The agreement and the join listen -/

theorem queueSingle_listen (f : Frame) (s : State) : (queueSingle f s).link.listen = s.link.listen := by
  unfold queueSingle
  split <;> rfl

theorem latch_listen (c : Condition) (s : State) : (latch c s).link.listen = s.link.listen := by
  unfold latch queueStatus
  split
  · rfl
  · split
    · rfl
    · exact queueSingle_listen _ _

theorem recheck_listen (c : Condition) (s : State) : (recheck c s).link.listen = s.link.listen := by
  unfold recheck raiseCondition
  split
  · split
    · rfl
    · exact latch_listen c _
  · rfl

theorem demandDue_listen (s : State) : (demandDue s).link.listen = s.link.listen := by
  unfold demandDue
  split
  · rfl
  · split
    · rfl
    · split <;> rfl

/-- The view but for its entries and the accepted cab station, and the join listen. -/
structure AgreementKept (s t : State) : Prop where
  view : ∃ es a, t.view = { s.view with entries := es, accepted := a }
  listen : t.link.listen = s.link.listen

theorem AgreementKept.of_view {s t : State} (hv : t.view = s.view) (hl : t.link.listen = s.link.listen) : AgreementKept s t :=
  ⟨⟨s.view.entries, s.view.accepted, hv⟩, hl⟩

theorem AgreementKept.trans {s t u : State} (h₁ : AgreementKept s t) (h₂ : AgreementKept t u) : AgreementKept s u := by
  obtain ⟨⟨_, _, hv₁⟩, hl₁⟩ := h₁
  obtain ⟨⟨_, _, hv₂⟩, hl₂⟩ := h₂
  exact ⟨⟨_, _, by rw [hv₂, hv₁]⟩, hl₂.trans hl₁⟩

theorem modEntry_agreementKept (i : Station) (g : Entry → Entry) (s : State) : AgreementKept s (s.modEntry i g) := ⟨⟨_, _, rfl⟩, rfl⟩

theorem modOwn_agreementKept (g : Entry → Entry) (s : State) : AgreementKept s (modOwn g s) := ⟨⟨_, _, rfl⟩, rfl⟩

theorem adopts_agreementKept : Adopts AgreementKept where
  refl _ := .of_view rfl rfl
  trans := .trans
  alloc _ _ := .of_view rfl rfl
  claims _ := modOwn_agreementKept _
  intents _ := modOwn_agreementKept _
  cut c s := .of_view (cut_only c s).view_eq (by rw [(cut_only c s).link_eq])
  due s := .of_view (demandDue_only s).view_eq (demandDue_listen s)
  recheck c s := .of_view (recheck_only c s).view_eq (recheck_listen c s)
  stages h := .of_view h.view_eq (by rw [h.link_eq])
  damper h := .of_view h.view_eq (by rw [h.link_eq])
  fans _ _ := .of_view rfl rfl
  zones _ _ := .of_view rfl rfl
  doors _ _ := .of_view rfl rfl
  inUse _ _ := .of_view rfl rfl

theorem accepting_agreementKept (new : Option Station) (s : State) : AgreementKept s (s.accepting new) := ⟨⟨_, _, rfl⟩, rfl⟩

theorem ownTaken_agreementKept (s : State) : AgreementKept s (ownTaken s) :=
  ((adopts_agreementKept.takeWord s).trans (.of_view (queueSingle_only _ _).view_eq (queueSingle_listen _ _))).trans
    (adopts_agreementKept.recheck _ _)

theorem otherTaken_agreementKept (s : State) : AgreementKept s (otherTaken s) := by
  have held : AgreementKept s (holdInUse s) := holdInUse_eq s ▸ .of_view rfl rfl
  unfold otherTaken
  refine AgreementKept.trans ?_ (adopts_agreementKept.recheck _ _)
  split
  · exact held.trans (.of_view rfl rfl)
  · exact held

/-! ### The draft lists -/

/-- The zones' draft lists. -/
def DraftsKept (s t : State) : Prop := ∀ z, (t.zone? z).map (·.drafts) = (s.zone? z).map (·.drafts)

theorem DraftsKept.of_zones {s t : State} (h : t.zones = s.zones) : DraftsKept s t := fun z => by rw [zone?_congr h z]

theorem DraftsKept.trans {s t u : State} (h₁ : DraftsKept s t) (h₂ : DraftsKept t u) : DraftsKept s u :=
  fun z => (h₂ z).trans (h₁ z)

theorem setInUse_draftsKept (new : InUse) (s : State) : DraftsKept s (setInUse new s) := fun z => by
  rw [setInUse_zone?, Option.map_map]
  refine congrArg (fun f => (s.zone? z).map f) (funext fun r => ?_)
  have off : ∀ r : Zone, r.offTaken.drafts = r.drafts := fun r => by unfold Zone.offTaken; split <;> rfl
  simp only [Function.comp_apply, Zone.capTaken]
  split <;> split <;> split <;> simp only [off]

theorem ownTaken_draftsKept (s : State) : DraftsKept s (ownTaken s) := by
  have word : DraftsKept s (takeWord s) := by
    unfold takeWord
    split
    · exact setInUse_draftsKept _ s
    · exact .of_zones rfl
  exact word.trans (.of_zones ((recheck_only _ _).zones_eq.trans (queueSingle_only _ _).zones_eq))

/-! ### The choice of the cab station (R106) -/

/-- Who can be chosen in `t` could in `s`. -/
def State.FewerCabs (s t : State) : Prop := ∀ i, (t.entry i).isCab = true → (s.entry i).isCab = true

theorem SeenKept.isCab {s t : State} (h : SeenKept s t) (i : Station) : (t.entry i).isCab = (s.entry i).isCab := by
  by_cases hi : i = s.straps.station
  · have ht : t.entry i = t.ownEntry := by rw [State.ownEntry, h.straps, hi]
    have hs : s.entry i = s.ownEntry := by rw [State.ownEntry, hi]
    rw [ht, hs, Entry.isCab, Entry.isCab, h.own.1, h.own.2]
  · rw [h.peers i hi]

theorem SeenKept.fewerCabs {s t : State} (h : SeenKept s t) : s.FewerCabs t := fun i hi => (h.isCab i).symm.trans hi

/-- A choice that can still be made stands where others are lost. -/
theorem choice_stands {s t : State} {a : Station} (h : s.FewerCabs t) (hs : s.cabChoice = some a) (ha : (t.entry a).isCab = true) :
    t.cabChoice = some a := by
  obtain ⟨-, as, bs, hsplit, hbefore⟩ := List.find?_eq_some_iff_append.1 hs
  refine List.find?_eq_some_iff_append.2 ⟨ha, as, bs, hsplit, fun i hi => ?_⟩
  have hnot := hbefore i hi
  rw [Bool.not_eq_true'] at hnot ⊢
  exact Bool.eq_false_iff.2 fun hcab => by rw [h i hcab] at hnot; cases hnot

/-- A choice lost is not made again. -/
theorem choice_not_again {s t u : State} (hst : s.FewerCabs t) (htu : t.FewerCabs u) (h : u.cabChoice = s.cabChoice) :
    t.cabChoice = s.cabChoice := by
  cases hs : s.cabChoice with
  | none =>
    exact List.find?_eq_none.2 fun i hi hcab => List.find?_eq_none.1 hs i hi (hst i hcab)
  | some a =>
    obtain ⟨hcab, -⟩ := List.find?_eq_some_iff_append.1 (h.trans hs)
    exact choice_stands hst hs (htu a hcab)

/-! ### ROLE_CONFLICT follows the accepted cab station (R107) -/

/-- ROLE_CONFLICT is current exactly while its cause holds. -/
def State.RoleFlagged (s : State) : Prop := flagSet s.cond.current .roleConflict = conditionHolds s .roleConflict

/-- What keeps ROLE_CONFLICT following. -/
structure RoleKept (s t : State) : Prop where
  straps : t.straps = s.straps
  accepted : t.view.accepted = s.view.accepted
  flagged : s.RoleFlagged → t.RoleFlagged

theorem roleConflict_congr {s t : State} (hs : t.straps = s.straps) (ha : t.view.accepted = s.view.accepted) :
    conditionHolds t .roleConflict = conditionHolds s .roleConflict := by
  rw [conditionHolds, conditionHolds, hs, ha]

theorem RoleKept.of_eq {s t : State} (hs : t.straps = s.straps) (ha : t.view.accepted = s.view.accepted)
    (hc : t.cond.current = s.cond.current) : RoleKept s t :=
  ⟨hs, ha, fun h => by rw [State.RoleFlagged, roleConflict_congr hs ha, hc]; exact h⟩

theorem RoleKept.trans {s t u : State} (h₁ : RoleKept s t) (h₂ : RoleKept t u) : RoleKept s u :=
  ⟨h₂.straps.trans h₁.straps, h₂.accepted.trans h₁.accepted, fun h => h₂.flagged (h₁.flagged h)⟩

theorem recheck_roleKept (c : Condition) (s : State) : RoleKept s (recheck c s) := by
  have only := recheck_only c s
  have seen := only.seen
  refine ⟨seen.straps, seen.accepted, fun h => ?_⟩
  rw [State.RoleFlagged, roleConflict_congr seen.straps seen.accepted, recheck_current]
  split
  · next hc => rw [hc]
  · exact h

theorem recomputes_roleKept : Recomputes RoleKept where
  refl _ := .of_eq rfl rfl rfl
  trans := .trans
  alloc _ _ := .of_eq rfl rfl rfl
  claims _ _ := .of_eq rfl rfl rfl
  intents _ _ := .of_eq rfl rfl rfl
  cut c s := .of_eq (cut_only c s).straps_eq (by rw [(cut_only c s).view_eq]) (by rw [(cut_only c s).cond_eq])
  due s := .of_eq (demandDue_only s).straps_eq (by rw [(demandDue_only s).view_eq]) (by rw [(demandDue_only s).cond_eq])
  recheck := recheck_roleKept

end Sys2Proof.Machine
end

section
/-! One station ages (R101, R102): its entry, the draft records of a lost one (R39), and what a changed accepted cab station brings with
it (R106, R107, R149, R150), over any number of stations aged one after the other. -/

namespace Sys2Proof.Machine

/-! ### What one station's change brings -/

/-- The state in use in HOLDING, where its source can be lost (R149, R150). -/
def InUse.held (now : Time) (i : InUse) : InUse :=
  if i.mode = .following ∨ i.mode = .own then { i with mode := .holding, silence := .stopped, hold := .running (timeAfter now 60000) }
  else i

theorem holdInUse_inUse (s : State) : (holdInUse s).inUse = s.inUse.held s.clock := by rw [holdInUse_eq]; rfl

theorem InUse.held_mode (now : Time) (i : InUse) : (i.held now).mode ≠ .following ∧ (i.held now).mode ≠ .own := by
  unfold InUse.held
  split
  · exact ⟨nofun, nofun⟩
  · next h => exact not_or.1 h

theorem InUse.held_held (now : Time) (i : InUse) : (i.held now).held now = i.held now :=
  if_neg (not_or.2 (i.held_mode now))

/-- The choice made again after an entry has counted. -/
theorem reevaluate_does {s u : State} {i : Station} {e : Entry} (hu : s.Counts i e u) : HearDoes s u False (reevaluate u) := by
  by_cases hchoice : u.cabChoice = u.view.accepted
  · exact .stands (if_pos hchoice) fun _ => hchoice.trans hu.accepted
  · have hchanged : reevaluate u = acceptedChanged u.cabChoice u := if_neg hchoice
    have hnew : u.cabChoice ≠ s.view.accepted := fun h => hchoice (h.trans hu.accepted.symm)
    rw [hchanged, acceptedChanged_eq, hu.share.straps_eq]
    by_cases hown : s.straps.cab = true ∧ u.cabChoice = some s.straps.station
    · rw [if_pos hown, hown.2]
      exact .own id hnew hown.1 hown.2 rfl
    · rw [if_neg hown]
      exact .other id hnew hown rfl

/-- A station's entry aged, and the allocation formed anew. -/
def State.agedOnce (s : State) (i : Station) : State := recompute (s.modEntry i (fun _ => (s.entry i).aged s.clock))

section
variable {s : State} {i : Station}

theorem agedOnce_counts (hne : i ≠ s.straps.station) : s.Counts i ((s.entry i).aged s.clock) (s.agedOnce i) :=
  (modEntry_counts (fun _ => (s.entry i).aged s.clock) hne).recompute hne

theorem agedOnce_roleKept (s : State) (i : Station) : RoleKept s (s.agedOnce i) :=
  .trans (t := s.modEntry i _) (.of_eq rfl rfl rfl) (recomputes_roleKept.recompute _)

theorem agedOnce_agreementKept (s : State) (i : Station) : AgreementKept s (s.agedOnce i) :=
  (modEntry_agreementKept i _ s).trans (adopts_agreementKept.recompute _)

theorem agedOnce_zones (s : State) (i : Station) : (s.agedOnce i).zones = s.zones := (recompute_only _).zones_eq

theorem reevaluate_agreementKept (s : State) : AgreementKept s (reevaluate s) := by
  unfold reevaluate
  split
  · exact .of_view rfl rfl
  · rw [acceptedChanged_eq]
    split
    · exact (accepting_agreementKept _ s).trans (ownTaken_agreementKept _)
    · exact (accepting_agreementKept _ s).trans (otherTaken_agreementKept _)

theorem reevaluate_draftsKept (s : State) : DraftsKept s (reevaluate s) := by
  unfold reevaluate
  split
  · exact .of_zones rfl
  · rw [acceptedChanged_eq]
    split
    · exact DraftsKept.trans (t := s.accepting s.cabChoice) (.of_zones rfl) (ownTaken_draftsKept _)
    · obtain ⟨_, _, h⟩ := otherTaken_frame (s.accepting s.cabChoice)
      rw [h]
      exact .of_zones rfl

/-- What a loss brings behind the choice: the draft records of the station, and the state in use it was the source of. -/
structure LossFollows (i : Station) (lost : Prop) (accepted : Option Station) (v x : State) : Prop where
  frame : ∃ zs iu, x = { v with zones := zs, inUse := iu }
  decayed : lost → ∀ z, (x.zone? z).map (·.drafts) = (v.zone? z).map (fun r => draftLost v.clock i r.drafts)
  kept : ¬ lost → x = v
  inUse : v.inUse.mode ≠ .following ∨ ¬ (lost ∧ accepted = some i) → x.inUse = v.inUse

/-- A peer's entry that changes its state. -/
theorem ageStation_moves (hne : i ≠ s.straps.station) (hstate : ((s.entry i).aged s.clock).state ≠ (s.entry i).state) :
    LossFollows i (((s.entry i).aged s.clock).state = .lost) s.view.accepted (reevaluate (s.agedOnce i)) (ageStation i s) := by
  have hchanged : entryChanged (s.entry i) ((s.entry i).aged s.clock) (s.modEntry i (fun _ => (s.entry i).aged s.clock))
      = reevaluate (s.agedOnce i) := by
    unfold entryChanged
    rw [if_neg fun h => hstate h.1.symm, if_neg fun h => hstate h.1.symm]
    rfl
  have hdecay : ∀ (v : State) z, ((lossDecay i v).zone? z).map (·.drafts) = (v.zone? z).map (fun r => draftLost v.clock i r.drafts) :=
    fun v z => by rw [lossDecay, zone?_mapDrafts, Option.map_map]; rfl
  unfold ageStation
  rw [if_neg hne]
  dsimp only
  rw [if_neg hstate, hchanged]
  generalize reevaluate (s.agedOnce i) = v
  by_cases hlost : ((s.entry i).aged s.clock).state = .lost
  · rw [if_pos hlost]
    by_cases hacc : s.view.accepted = some i
    · rw [if_pos hacc]
      unfold sourceLost
      split
      · next hfollow => exact ⟨⟨_, _, rfl⟩, fun _ => hdecay v, fun h => absurd hlost h,
          fun h => h.elim (fun hm => absurd hfollow.1 hm) fun hn => absurd ⟨hlost, hacc⟩ hn⟩
      · exact ⟨⟨_, _, rfl⟩, fun _ => hdecay v, fun h => absurd hlost h, fun _ => rfl⟩
    · rw [if_neg hacc]
      exact ⟨⟨_, _, rfl⟩, fun _ => hdecay v, fun h => absurd hlost h, fun _ => rfl⟩
  · rw [if_neg hlost]
    exact ⟨⟨_, _, rfl⟩, fun h => absurd h hlost, fun _ => rfl, fun _ => rfl⟩

/-- A peer's entry that keeps its state, and the own one, leave everything. -/
theorem ageStation_stays (h : i = s.straps.station ∨ ((s.entry i).aged s.clock).state = (s.entry i).state) : ageStation i s = s := by
  unfold ageStation
  split
  · rfl
  · next hne => exact if_pos (h.resolve_left hne)

/-- An entry that keeps its state by ageing is the same entry. -/
theorem Entry.aged_of_state {now : Time} {e : Entry} (h : (e.aged now).state = e.state) : e.aged now = e := by
  unfold Entry.aged at h ⊢
  dsimp only at h ⊢
  split
  · next hc =>
    rw [if_pos hc] at h
    exact absurd h.symm hc.2
  · next hc =>
    rw [if_neg hc] at h
    rw [show agedState (e.age now) e.state = e.state from h]

theorem isCab_of_aged {now : Time} {e : Entry} (h : (e.aged now).isCab = true) : e.isCab = true := by
  have key : (e.aged now).cab = e.cab ∧ (e.aged now).state = agedState (e.age now) e.state := by
    unfold Entry.aged
    dsimp only
    split
    · next hc => exact ⟨rfl, hc.1.symm⟩
    · exact ⟨rfl, rfl⟩
  unfold Entry.isCab at h ⊢
  rw [key.1, key.2] at h
  cases hs : e.state <;> simp_all [agedState]

end

end Sys2Proof.Machine
end

section
/-! What a changed accepted cab station brings with it while the stations age one after the other (R106, R107, R149, R150): the station
chosen can change more than once, and it never comes back to a station it left. -/

namespace Sys2Proof.Machine

/-- The state in use that takes the word (R146, R150). -/
def State.wordInUse (s : State) (w : OvrWord) : InUse :=
  { mode := .own, flags := w.flags, offsets := w.offsets, layover := w.layoverLeft, boost := s.boostLeft,
    source := some s.straps.station, silence := .stopped, hold := .stopped }

/-- What has followed the accepted cab station from `s` to `u`, inside one event. -/
inductive State.Followed (s u : State) : Prop
  | stands (accepted : u.view.accepted = s.view.accepted) (inUse : u.inUse = s.inUse) (grows : ListGrows s u)
  | own (changed : u.view.accepted ≠ s.view.accepted) (cab : s.straps.cab = true)
      (own : u.view.accepted = some s.straps.station) (flagged : u.RoleFlagged)
      (word : ∀ w, s.word = some w → u.inUse = s.wordInUse w)
      (waits : true ∈ u.overrides)
  | other (changed : u.view.accepted ≠ s.view.accepted)
      (other : ¬ (s.straps.cab = true ∧ u.view.accepted = some s.straps.station)) (flagged : u.RoleFlagged)
      (inUse : u.inUse = s.inUse.held s.clock)
      (withdrawn : s.straps.cab = true → true ∉ u.overrides ∧ ∀ x rest a, s.link.list = x :: rest → x.frame.isOverride = true →
        s.link.attempt = some a → u.link.attempt = some { a with withdrawn := true })

theorem State.Followed.refl (s : State) : s.Followed s := .stands rfl rfl (.refl s)

/-- What follows stands while neither the accepted cab station nor the state in use changes. -/
theorem State.Followed.on {s u v : State} (h : s.Followed u) (hrole : RoleKept u v) (huse : v.inUse = u.inUse) (hgrows : ListGrows u v) :
    s.Followed v := by
  have hacc := hrole.accepted
  cases h with
  | stands accepted inUse grows => exact .stands (hacc.trans accepted) (huse.trans inUse) (grows.trans hgrows)
  | own changed cab own flagged word waits =>
    exact .own (by rwa [hacc]) cab (hacc.trans own) (hrole.flagged flagged) (fun w hw => huse.trans (word w hw)) (hgrows.holds waits)
  | other changed other flagged inUse withdrawn =>
    refine .other (by rwa [hacc]) (by rwa [hacc]) (hrole.flagged flagged) (huse.trans inUse) fun hcab => ?_
    obtain ⟨lacks, attempt⟩ := withdrawn hcab
    exact ⟨hgrows.lacks lacks, fun x rest a hlist hx ha => hgrows.attempt.trans (attempt x rest a hlist hx ha)⟩

/-- The attempt of a head that is no OVERRIDE entry stands. -/
theorem otherTaken_attempt_stands {s : State} (hcab : s.straps.cab = true) (h : true ∉ s.overrides) :
    (otherTaken s).link.attempt = s.link.attempt := by
  have hlink : (holdInUse s).link = s.link := by rw [holdInUse_eq]
  rw [(otherTaken_of_cab hcab).attempt, withdrawOverride, hlink]
  cases hl : s.link.list with
  | nil => rfl
  | cons x rest =>
    have hx := forall_of_overrides h x (by rw [hl]; exact List.mem_cons_self ..)
    simp [hx]

section
variable {s u w v : State} {i : Station} {e : Entry}

/-- The cab node becomes its own accepted cab station (R150). -/
theorem followed_own (hword : u.word = s.word) (hboost : u.boostLeft = s.boostLeft) (hstraps : u.straps = s.straps)
    (hw : u.Counts i e w) (hne : some s.straps.station ≠ s.view.accepted) (hcab : s.straps.cab = true) :
    s.Followed (ownTaken (w.accepting (some s.straps.station))) := by
  have seen := ownTaken_seen (w.accepting (some s.straps.station))
  have hwstraps : w.straps = s.straps := hw.share.straps_eq.trans hstraps
  have hacc : (ownTaken (w.accepting (some s.straps.station))).view.accepted = some s.straps.station := seen.accepted
  refine .own (by rw [hacc]; exact hne) hcab hacc ?_ (fun x hx => ?_) (ownTaken_overrides _)
  · rw [State.RoleFlagged, ownTaken_roleConflict, conditionHolds, seen.straps, seen.accepted]
  · have hwordw : (w.accepting (some s.straps.station)).word = some x := hw.share.word_eq.trans (hword.trans hx)
    have hboostw : (w.accepting (some s.straps.station)).boostLeft = s.boostLeft := by
      rw [← hboost]
      simp only [State.boostLeft, State.accepting, hw.share.defrost_eq]
    rw [ownTaken_inUse hwordw, hboostw]
    simp [State.accepting, hwstraps, State.wordInUse]

/-- Another accepted cab station, or none (R107, R149). -/
theorem followed_other (h : s.Followed u) (hclock : u.clock = s.clock) (hstraps : u.straps = s.straps) (hw : u.Counts i e w)
    (hne : w.cabChoice ≠ s.view.accepted) (hother : ¬ (s.straps.cab = true ∧ w.cabChoice = some s.straps.station))
    (hcame : ¬ (s.straps.cab = true ∧ u.view.accepted = some s.straps.station ∧ u.view.accepted ≠ s.view.accepted)) :
    s.Followed (otherTaken (w.accepting w.cabChoice)) := by
  obtain ⟨l, c, hframe⟩ := otherTaken_frame (w.accepting w.cabChoice)
  have hwstraps : (w.accepting w.cabChoice).straps = s.straps := hw.share.straps_eq.trans hstraps
  have hacc : (otherTaken (w.accepting w.cabChoice)).view.accepted = w.cabChoice := by rw [hframe]; rfl
  have huse : (otherTaken (w.accepting w.cabChoice)).inUse = u.inUse.held s.clock := by
    rw [otherTaken_inUse, holdInUse_inUse, ← hclock]
    exact congrArg₂ InUse.held hw.share.clock_eq hw.share.inUse_eq
  have hlacks : s.straps.cab = true → true ∉ (otherTaken (w.accepting w.cabChoice)).overrides :=
    fun hcab => otherTaken_overrides (hwstraps ▸ hcab)
  have hflag : (otherTaken (w.accepting w.cabChoice)).RoleFlagged := by
    rw [State.RoleFlagged, otherTaken_roleConflict, conditionHolds, hframe]
  refine .other (by rw [hacc]; exact hne) (by rw [hacc]; exact hother) hflag ?_
    fun hcab => ⟨hlacks hcab, fun x rest a hlist hx ha => ?_⟩
  · cases h with
    | stands accepted inUse grows => rw [huse, inUse]
    | own changed cab own flagged word waits => exact absurd ⟨cab, own, changed⟩ hcame
    | other changed other flagged inUse withdrawn => rw [huse, inUse, InUse.held_held]
  · have hcab' : (w.accepting w.cabChoice).straps.cab = true := by rw [hwstraps]; exact hcab
    cases h with
    | stands accepted inUse grows =>
      have hgrows := grows.trans hw.grows
      obtain ⟨y, rest', hy, hyov⟩ := hgrows.head hlist hx
      exact otherTaken_attempt hcab' hy hyov (hgrows.attempt.trans ha)
    | own changed cab own flagged word waits => exact absurd ⟨cab, own, changed⟩ hcame
    | other changed other flagged inUse withdrawn =>
      obtain ⟨lacks, attempt⟩ := withdrawn hcab
      exact (otherTaken_attempt_stands hcab' (hw.grows.lacks lacks)).trans (hw.grows.attempt.trans (attempt x rest a hlist hx ha))

end

end Sys2Proof.Machine
end

section
/-! The stations age one after the other (R101, R102). -/

namespace Sys2Proof.Machine

/-! ### One station more -/

/-- Station `i` is lost at this ageing (R101). -/
def State.loses (s : State) (i : Station) : Bool :=
  i != s.straps.station && ((s.entry i).aged s.clock).state == .lost && (s.entry i).state != .lost

/-- A draft record after the loss of stations of `l` (R39). -/
def Draft.aged (s : State) (l : List Station) (d : Draft) : Draft :=
  if s.loses d.station = true ∧ d.station ∈ l ∧ d.origin = .peer ∧ d.state = .opened then
    { d with state := .decay, close := some s.clock }
  else d

theorem Draft.aged_of_not_loses {s : State} {i : Station} (h : s.loses i = false) (l : List Station) (d : Draft) :
    d.aged s (l ++ [i]) = d.aged s l := by
  unfold Draft.aged
  by_cases hi : d.station = i
  · rw [hi, h, if_neg fun h => Bool.false_ne_true h.1, if_neg fun h => Bool.false_ne_true h.1]
  · simp [hi]

theorem draftLost_aged {s : State} {i : Station} {l : List Station} (h : s.loses i = true) (hi : i ∉ l) (ds : List Draft) :
    draftLost s.clock i (ds.map (Draft.aged s l)) = ds.map (Draft.aged s (l ++ [i])) := by
  unfold draftLost
  rw [List.map_map]
  refine List.map_congr_left fun d _ => ?_
  rw [Function.comp_apply]
  by_cases hd : d.station = i
  · have hstays : d.aged s l = d := if_neg fun hc => hi (hd ▸ hc.2.1)
    rw [hstays, Draft.aged]
    simp [hd, h]
  · have hstation : (d.aged s l).station ≠ i := by
      unfold Draft.aged
      split <;> exact hd
    rw [if_neg fun hc => hstation hc.1, Draft.aged, Draft.aged]
    simp [hd]

/-- What `s` has become when the stations of `l` have aged. -/
structure State.Ages (s : State) (l : List Station) (u : State) : Prop where
  only : UseOnly s u
  kept : AgreementKept s u
  peers : ∀ i, i ≠ s.straps.station → u.entry i = if i ∈ l then (s.entry i).aged s.clock else s.entry i
  ownCab : (u.entry s.straps.station).isCab = (s.entry s.straps.station).isCab
  drafts : ∀ z, (u.zone? z).map (·.drafts) = (s.zone? z).map (fun r => r.drafts.map (Draft.aged s l))
  followed : s.view.accepted = s.cabChoice → u.view.accepted = u.cabChoice ∧ s.Followed u

theorem State.Ages.nil (s : State) : s.Ages [] s where
  only := .refl s
  kept := .of_view rfl rfl
  peers _ _ := rfl
  ownCab := rfl
  drafts z := by
    have hid : Draft.aged s [] = id := funext fun d => if_neg fun h => List.not_mem_nil h.2.1
    simp only [hid, List.map_id]
  followed h := ⟨h, .refl s⟩

theorem reevaluate_isCab (s : State) (j : Station) : ((reevaluate s).entry j).isCab = (s.entry j).isCab := by
  unfold reevaluate
  split
  · rfl
  · rw [acceptedChanged_eq]
    split
    · exact (ownTaken_seen (s.accepting s.cabChoice)).isCab j
    · obtain ⟨_, _, h⟩ := otherTaken_frame (s.accepting s.cabChoice)
      rw [h]
      rfl

theorem State.Followed.after_loss {s v x : State} {i : Station} {lost : Prop} {acc : Option Station} (h : s.Followed v)
    (hx : LossFollows i lost acc v x) (hchanged : v.view.accepted ≠ s.view.accepted) : s.Followed x := by
  have huse := hx.inUse
  obtain ⟨zs, iu, rfl⟩ := hx.frame
  cases h with
  | stands accepted inUse grows => exact absurd accepted hchanged
  | own changed cab own flagged word waits =>
    exact .own changed cab own flagged (fun w hw => (huse (.inl (by rw [word w hw]; nofun))).trans (word w hw)) waits
  | other changed other flagged inUse withdrawn =>
    exact .other changed other flagged
      ((huse (.inl (by rw [inUse]; exact (InUse.held_mode _ _).1))).trans inUse) withdrawn

section
variable {s u : State} {i : Station} {l : List Station}

theorem State.Ages.fewerCabs (h : s.Ages l u) : s.FewerCabs u := fun j hj => by
  by_cases hown : j = s.straps.station
  · rw [hown, ← h.ownCab, ← hown]
    exact hj
  · rw [h.peers j hown] at hj
    split at hj
    · exact isCab_of_aged hj
    · exact hj

theorem agedOnce_ownCab (hne : i ≠ s.straps.station) :
    ((s.agedOnce i).entry s.straps.station).isCab = (s.entry s.straps.station).isCab := by
  obtain ⟨hstate, hcab⟩ := (agedOnce_counts hne).own
  have hown : (s.agedOnce i).entry s.straps.station = (s.agedOnce i).ownEntry := by
    rw [State.ownEntry, (agedOnce_counts hne).share.straps_eq]
  rw [hown, Entry.isCab, hstate, hcab]
  rfl

theorem agedOnce_fewerCabs (hne : i ≠ s.straps.station) : s.FewerCabs (s.agedOnce i) := fun j hj => by
  by_cases hown : j = s.straps.station
  · rw [hown, ← agedOnce_ownCab hne, ← hown]
    exact hj
  · by_cases hji : j = i
    · rw [hji, (agedOnce_counts hne).entry] at hj
      exact hji ▸ isCab_of_aged hj
    · rwa [(agedOnce_counts hne).peers j hji hown] at hj

/-- What follows the choice as one station more ages. -/
theorem State.Ages.followed_on (h : s.Ages l u) (hne : i ≠ u.straps.station)
    (hstate : ((u.entry i).aged u.clock).state ≠ (u.entry i).state) (hs : s.view.accepted = s.cabChoice) :
    (ageStation i u).view.accepted = (ageStation i u).cabChoice ∧ s.Followed (ageStation i u) := by
  obtain ⟨hchoice, followed⟩ := h.followed hs
  have hw := agedOnce_counts hne
  have hd := reevaluate_does hw
  have loss := ageStation_moves hne hstate
  have hstraps : u.straps = s.straps := h.only.straps_eq
  have fewer := agedOnce_fewerCabs hne
  have role := agedOnce_roleKept u i
  have own := agedOnce_ownCab hne
  generalize reevaluate (u.agedOnce i) = v at hd loss
  generalize u.agedOnce i = w at hd hw fewer role own
  obtain ⟨-, -, hchoice_v, -, hacc_v⟩ := hd.view hw
  have again : w.cabChoice ≠ u.view.accepted → w.cabChoice ≠ s.view.accepted := fun hn he =>
    hn (he.trans (hs.trans ((choice_not_again h.fewerCabs fewer (he.trans hs)).symm.trans hchoice.symm)))
  refine ⟨?_, ?_⟩
  · obtain ⟨zs, iu, hframe⟩ := loss.frame
    rw [hframe]
    exact (hacc_v id).trans hchoice_v.symm
  · have hacc := hacc_v id
    cases hd with
    | stands hv choice =>
      have huse : (ageStation i u).inUse = v.inUse := loss.inUse (.inr fun ⟨hlost, hi⟩ => by
        obtain ⟨hcab, -⟩ := List.find?_eq_some_iff_append.1 ((choice id).trans hi)
        rw [hw.entry, Entry.isCab, hlost] at hcab
        simp at hcab)
      obtain ⟨zs, iu, hframe⟩ := loss.frame
      rw [hv] at huse hframe
      refine followed.on (role.trans ?_) (huse.trans hw.share.inUse_eq) (hw.grows.trans (.of_link ?_))
      · rw [hframe]
        exact .of_eq rfl rfl rfl
      · rw [hframe]
    | own _ hnew hcab hown hv =>
      rw [hstraps] at hown hcab hv
      have taken := followed_own (s := s) h.only.word_eq (by rw [State.boostLeft, h.only.defrost_eq]; rfl) hstraps hw
        (hown ▸ again hnew) hcab
      rw [← hv] at taken
      exact taken.after_loss loss (by rw [hacc]; exact again hnew)
    | other _ hnew hother hv =>
      rw [hstraps] at hother
      have taken := followed_other followed h.only.clock_eq hstraps hw (again hnew) hother fun ⟨_, hown, _⟩ => by
        obtain ⟨hcab, -⟩ := List.find?_eq_some_iff_append.1 (hchoice.symm.trans hown)
        have hstands := choice_stands fewer (hchoice.symm.trans hown) (by rw [← hstraps, own, hstraps]; exact hcab)
        exact hnew (hstands.trans hown.symm)
      rw [← hv] at taken
      exact taken.after_loss loss (by rw [hacc]; exact again hnew)

end

end Sys2Proof.Machine
end

section
/-! The ageing of every station (R101), the agreement formed behind it (R104, R105), and the DEMAND frame that falls due (R124). -/

namespace Sys2Proof.Machine

section
variable {s u : State} {i : Station} {l : List Station}

/-- A station that keeps its state, or the node itself. -/
theorem State.Ages.stays (h : s.Ages l u) (hi : i ∉ l)
    (hstays : i = s.straps.station ∨ ((s.entry i).aged s.clock).state = (s.entry i).state) : s.Ages (l ++ [i]) u := by
  have hloses : s.loses i = false := by
    unfold State.loses
    rcases hstays with hown | hstate
    · simp [hown]
    · rw [hstate]
      cases (s.entry i).state <;> simp
  exact
    { only := h.only
      kept := h.kept
      peers := fun j hj => by
        rw [h.peers j hj]
        by_cases hji : j = i
        · subst hji
          rw [if_neg hi, if_pos (List.mem_append_right _ (List.mem_singleton.2 rfl)),
            Entry.aged_of_state (hstays.resolve_left hj)]
        · simp [hji]
      ownCab := h.ownCab
      drafts := fun z => by
        rw [h.drafts z, funext fun d => Draft.aged_of_not_loses hloses l d]
      followed := h.followed }

/-- A station that becomes STALE or LOST. -/
theorem State.Ages.moves (h : s.Ages l u) (hi : i ∉ l) (hne : i ≠ s.straps.station)
    (hstate : ((s.entry i).aged s.clock).state ≠ (s.entry i).state) : s.Ages (l ++ [i]) (ageStation i u) := by
  have hstraps : u.straps = s.straps := h.only.straps_eq
  have hentry : u.entry i = s.entry i := (h.peers i hne).trans (if_neg hi)
  have hclock : u.clock = s.clock := h.only.clock_eq
  have hne' : i ≠ u.straps.station := hstraps ▸ hne
  have hstate' : ((u.entry i).aged u.clock).state ≠ (u.entry i).state := by rw [hentry, hclock]; exact hstate
  have followed := h.followed_on hne' hstate'
  have hw := agedOnce_counts hne'
  have kept := (agedOnce_agreementKept u i).trans (reevaluate_agreementKept _)
  have drafts := (DraftsKept.of_zones (agedOnce_zones u i)).trans (reevaluate_draftsKept _)
  have ownCab := (reevaluate_isCab (u.agedOnce i) u.straps.station).trans (agedOnce_ownCab hne')
  have loss := ageStation_moves hne' hstate'
  obtain ⟨-, hpeers, -⟩ := (reevaluate_does hw).view hw
  generalize reevaluate (u.agedOnce i) = v at kept drafts ownCab loss hpeers
  have only := h.only.trans (ageStation_only i u)
  generalize ageStation i u = x at loss followed only
  have hmap := loss.decayed
  have hstay := loss.kept
  obtain ⟨zs, iu, rfl⟩ := loss.frame
  rw [hstraps] at hpeers ownCab
  rw [hentry, hclock] at hmap hstay
  exact
    { only := only
      kept := (h.kept.trans kept).trans (.of_view rfl rfl)
      peers := fun j hj => by
        refine (hpeers j hj).trans ?_
        by_cases hji : j = i
        · subst hji
          rw [hw.entry, hentry, hclock, if_pos (List.mem_append_right _ (List.mem_singleton.2 rfl))]
        · rw [hw.peers j hji (hstraps ▸ hj), h.peers j hj]
          simp [hji]
      ownCab := ownCab.trans h.ownCab
      drafts := fun z => by
        have hv : (v.zone? z).map (·.drafts) = (s.zone? z).map (fun r => r.drafts.map (Draft.aged s l)) :=
          (drafts z).trans (h.drafts z)
        have hvclock : v.clock = s.clock := only.clock_eq
        by_cases hlost : ((s.entry i).aged s.clock).state = .lost
        · have hloses : s.loses i = true := by
            unfold State.loses
            rw [hlost] at hstate ⊢
            simp [hne, Ne.symm hstate]
          have hdecay : (v.zone? z).map (fun r => draftLost v.clock i r.drafts)
              = ((v.zone? z).map (·.drafts)).map (draftLost s.clock i) := by rw [Option.map_map, hvclock]; rfl
          rw [hmap hlost z, hdecay, hv, Option.map_map]
          exact congrArg (fun f => (s.zone? z).map f) (funext fun r => draftLost_aged hloses hi r.drafts)
        · have hloses : s.loses i = false := by
            unfold State.loses
            simp [hlost]
          rw [hstay hlost, hv, funext fun d => Draft.aged_of_not_loses hloses l d]
      followed := followed }

theorem State.Ages.ageStation (h : s.Ages l u) (hi : i ∉ l) : s.Ages (l ++ [i]) (Machine.ageStation i u) := by
  by_cases hstays : i = s.straps.station ∨ ((s.entry i).aged s.clock).state = (s.entry i).state
  · have hleaves : Machine.ageStation i u = u := ageStation_stays (by
      rw [h.only.straps_eq, h.only.clock_eq]
      by_cases hne : i = s.straps.station
      · exact .inl hne
      · exact .inr (by rw [(h.peers i hne).trans (if_neg hi)]; exact hstays.resolve_left hne))
    rw [hleaves]
    exact h.stays hi hstays
  · obtain ⟨hne, hstate⟩ := not_or.1 hstays
    exact h.moves hi hne hstate

theorem State.Ages.foldl : ∀ {l' : List Station} {l : List Station} {u : State}, s.Ages l u → (l ++ l').Nodup →
    s.Ages (l ++ l') (l'.foldl (fun s i => Machine.ageStation i s) u)
  | [], l, u, h, _ => by rw [List.append_nil]; exact h
  | i :: l', l, u, h, hn => by
    have hi : i ∉ l := fun hm => (List.nodup_append.1 hn).2.2 i hm i (List.mem_cons_self ..) rfl
    rw [List.append_cons] at hn ⊢
    exact (h.ageStation hi).foldl hn

theorem mem_stations (i : Station) : i ∈ stations := List.mem_ofFn.2 ⟨i, rfl⟩

/-- Every station has aged. -/
theorem ages_stations (s : State) : s.Ages stations (stations.foldl (fun s i => Machine.ageStation i s) s) := by
  have h := (State.Ages.nil s).foldl (l' := stations) (by decide)
  exact h

end

end Sys2Proof.Machine
end

section
/-! The agreed outside temperature (R104, R105): the median by its place among the reports. -/

namespace Sys2Proof.Machine

theorem insertAsc_eq (x : Int) : ∀ l : List Int, insertAsc x l = l.orderedInsert (· ≤ ·) x
  | [] => rfl
  | y :: l => by rw [insertAsc, List.orderedInsert_cons, insertAsc_eq x l]

theorem sortAsc_eq : ∀ l : List Int, sortAsc l = l.insertionSort (· ≤ ·)
  | [] => rfl
  | x :: l => by rw [sortAsc, insertAsc_eq, sortAsc_eq l, List.insertionSort_cons]

/-- In an ascending list, no more than `k` elements lie below the one at `k`, and more than `k` not above it. -/
theorem count_of_pairwise {l : List Int} (hl : l.Pairwise (· ≤ ·)) {k : Nat} {x : Int} (hx : l[k]? = some x) :
    (l.filter (· < x)).length ≤ k ∧ k < (l.filter (· ≤ x)).length := by
  obtain ⟨hk, hget⟩ := List.getElem?_eq_some_iff.1 hx
  have above : ∀ y ∈ l.drop k, x ≤ y := fun y hy => by
    obtain ⟨j, hj, rfl⟩ := List.mem_iff_getElem.1 hy
    rw [List.getElem_drop, ← hget]
    rcases Nat.eq_zero_or_pos j with h0 | hpos
    · subst h0; exact Int.le_refl _
    · exact List.pairwise_iff_getElem.1 hl _ _ _ _ (by omega)
  have below : ∀ y ∈ l.take (k + 1), y ≤ x := fun y hy => by
    obtain ⟨j, hj, rfl⟩ := List.mem_iff_getElem.1 hy
    rw [List.length_take] at hj
    rw [List.getElem_take, ← hget]
    rcases Nat.lt_or_ge j k with hlt | hge
    · exact List.pairwise_iff_getElem.1 hl _ _ _ _ hlt
    · obtain rfl : j = k := by omega
      exact Int.le_refl _
  constructor
  · have hsplit : l.filter (· < x) = (l.take k).filter (· < x) := by
      conv_lhs => rw [← List.take_append_drop k l]
      have hdrop : (l.drop k).filter (· < x) = [] := List.filter_eq_nil_iff.2 fun y hy => by simpa using above y hy
      rw [List.filter_append, hdrop, List.append_nil]
    rw [hsplit]
    exact (List.length_filter_le _ _).trans (List.length_take_le _ _)
  · have hall : (l.take (k + 1)).filter (· ≤ x) = l.take (k + 1) := List.filter_eq_self.2 fun y hy => by simpa using below y hy
    have hle := ((List.take_sublist (k + 1) l).filter (· ≤ x)).length_le
    rw [hall, List.length_take] at hle
    omega

/-- The median of R104 by its place among the readings. -/
theorem median_spec {l : List Int} (hl : l ≠ []) : ∃ x, median l = some x ∧ x ∈ l
    ∧ (l.filter (· < x)).length ≤ (l.length - 1) / 2 ∧ (l.length - 1) / 2 < (l.filter (· ≤ x)).length := by
  have hperm : (sortAsc l).Perm l := sortAsc_eq l ▸ List.perm_insertionSort _ l
  have hsorted : (sortAsc l).Pairwise (· ≤ ·) := sortAsc_eq l ▸ List.pairwise_insertionSort _ l
  have hpos := List.length_pos_of_ne_nil hl
  have hk : (l.length - 1) / 2 < (sortAsc l).length := by rw [hperm.length_eq]; omega
  have hx : median l = some (sortAsc l)[(l.length - 1) / 2] := List.getElem?_eq_getElem hk
  have hcount := count_of_pairwise hsorted (x := (sortAsc l)[(l.length - 1) / 2]) hx
  rw [(hperm.filter _).length_eq, (hperm.filter _).length_eq] at hcount
  exact ⟨_, hx, hperm.mem_iff.1 (List.getElem_mem hk), hcount⟩

/-! ### What the closing leaves of the agreement and of a due DEMAND frame -/

/-- A DEMAND entry waits. -/
def State.demandWaits (s : State) : Prop := ∃ w ∈ s.link.list, w.frame.isDemand = true

/-- What the closing keeps of the agreement and the DEMAND schedule. -/
structure DemandKept (s t : State) : Prop where
  clock : t.clock = s.clock
  view : ∃ es, t.view = { s.view with entries := es }
  report : ∀ (now : Time) i, (t.entry i).report now = (s.entry i).report now
  due : t.link.due = s.link.due ∧ t.link.spacing = s.link.spacing
  waits : s.demandWaits → t.demandWaits

theorem DemandKept.of_eq {s t : State} (hc : t.clock = s.clock) (hv : t.view = s.view) (hl : t.link = s.link) : DemandKept s t :=
  ⟨hc, ⟨s.view.entries, hv⟩, fun now i => by rw [State.entry, hv]; rfl, by rw [hl]; exact ⟨rfl, rfl⟩,
    fun h => by rw [State.demandWaits, hl]; exact h⟩

theorem DemandKept.trans {s t u : State} (h₁ : DemandKept s t) (h₂ : DemandKept t u) : DemandKept s u := by
  obtain ⟨_, hv₁⟩ := h₁.view
  obtain ⟨_, hv₂⟩ := h₂.view
  exact ⟨h₂.clock.trans h₁.clock, ⟨_, by rw [hv₂, hv₁]⟩, fun now i => (h₂.report now i).trans (h₁.report now i),
    ⟨h₂.due.1.trans h₁.due.1, h₂.due.2.trans h₁.due.2⟩, fun h => h₂.waits (h₁.waits h)⟩

theorem isDemand_figures (s : State) (f : Frame) : (s.figures f).isDemand = f.isDemand := by
  cases f with
  | override b => unfold State.figures State.overrideFrame; cases s.word <;> rfl
  | _ => rfl

/-- An entry that waits goes on waiting where each entry is changed in its place. -/
theorem mem_mapEntries {g : Bool → TxEntry → TxEntry} : ∀ {l : List TxEntry} {b : Bool} {w : TxEntry}, w ∈ l →
    ∃ b', g b' w ∈ mapEntries b g l
  | x :: l, b, w, h => by
    rcases List.mem_cons.1 h with rfl | h
    · exact ⟨b, List.mem_cons_self ..⟩
    · obtain ⟨b', hb'⟩ := mem_mapEntries (b := false) h
      exact ⟨b', List.mem_cons_of_mem _ hb'⟩

theorem refreshList_demandKept (s : State) : DemandKept s (refreshList s) := by
  refine ⟨rfl, ⟨_, rfl⟩, fun _ _ => rfl, ⟨rfl, rfl⟩, fun ⟨w, hw, hdemand⟩ => ?_⟩
  obtain ⟨b, hb⟩ := mem_mapEntries (g := fun sending e =>
    if s.figures e.frame = e.frame then e else e.replace sending (s.figures e.frame)) (b := s.headSending) hw
  refine ⟨_, hb, ?_⟩
  split
  · exact hdemand
  · exact (isDemand_figures s w.frame).trans hdemand

theorem writeDraw_demandKept (s : State) : DemandKept s (writeDraw s) := by
  refine ⟨rfl, ⟨_, rfl⟩, fun now i => ?_, ⟨rfl, rfl⟩, id⟩
  by_cases hi : i = s.straps.station
  · subst hi
    rw [writeDraw, entry_modEntry_same]
    rfl
  · rw [writeDraw, entry_modEntry_other s _ hi]

theorem finish_demandKept (s : State) : DemandKept s (finish s) :=
  finish_keeps_relation .trans (fun _ => .of_eq rfl rfl rfl) (fun u => (writeDraw_demandKept u).trans (refreshList_demandKept _))
    (fun h hv hl => .of_eq h.clock_eq hv hl) (fun _ => .of_eq rfl rfl rfl) s

theorem reports_congr {s t : State} (hc : t.clock = s.clock) (h : ∀ (now : Time) i, (t.entry i).report now = (s.entry i).report now) :
    t.reports = s.reports := by
  have key : ∀ u : State, u.reports = (u.view.entries.toList.map (Entry.report u.clock)).filterMap id := fun u => by
    rw [State.reports, List.filterMap_map]; rfl
  have hmap : t.view.entries.toList.map (Entry.report t.clock) = s.view.entries.toList.map (Entry.report s.clock) := by
    refine List.ext_getElem (by simp) fun n hn _ => ?_
    have hlt : n < 16 := by simpa using hn
    simpa [hc, State.entry] using h s.clock ⟨n, hlt⟩
  rw [key, key, hmap]

/-- A DEMAND frame that falls due waits, or waits for the spacing timer (R124). -/
theorem demandDue_waits {s : State} (h : s.listening = false) :
    (demandDue s).demandWaits ∨ ((demandDue s).link.due = true ∧ (demandDue s).link.spacing.isRunning = true) := by
  unfold demandDue
  rw [if_neg (by rw [h]; exact Bool.false_ne_true)]
  split
  · next hw =>
    obtain ⟨w, hw, hdemand⟩ := List.any_eq_true.1 hw
    exact .inl ⟨w, hw, hdemand⟩
  · split
    · next hs => exact .inr ⟨rfl, hs⟩
    · exact .inl ⟨⟨s.demandFrame, 0, 0, false⟩, List.mem_append_right _ (List.mem_singleton.2 rfl), rfl⟩

end Sys2Proof.Machine
end

section
/-! The expiry of the ageing timer and of the agreement's hold timer, as commands (R101 to R107, R124, R149, R150). -/

namespace Sys2Proof.Machine

/-! ### What has followed the accepted cab station, at the step's end -/

theorem State.Followed.takesChoice {s u : State} (h : s.Followed u) (hstraps : u.straps = s.straps) (hclock : u.clock = s.clock)
    (hlatch : s.LatchesHold → (finish u).LatchesHold) : s.TakesChoice (finish u) := by
  have hacc : (finish u).view.accepted = u.view.accepted := (finish_seen u).accepted
  have huse : (finish u).inUse = u.inUse := by obtain ⟨_, _, _, _, _, _, _, hf⟩ := finish_frame u; rw [hf]
  have hflag : u.RoleFlagged → flagSet (finish u).cond.current .roleConflict
      = (s.straps.cab && !(u.view.accepted == some s.straps.station)) := fun hf => by
    rw [finish_cond, hf, conditionHolds, hstraps]
  rw [← hacc] at hflag
  cases h with
  | stands accepted inUse grows =>
    have hstands := hacc.trans accepted
    exact ⟨fun _ => huse.trans inUse, fun hne => absurd hstands hne, fun hne => absurd hstands hne⟩
  | own changed cab own flagged word waits =>
    have hown := hacc.trans own
    refine ⟨fun he => absurd (hacc.symm.trans he) changed,
      fun _ _ _ => ⟨?_, fun w hw => ⟨huse.trans (word w hw), finish_carries waits⟩⟩,
      fun _ hother => ?_⟩
    · rw [hflag flagged, hown]
      simp
    · rcases hother with hcab | hne
      · rw [cab] at hcab; cases hcab
      · exact absurd hown hne
  | other changed other flagged inUse withdrawn =>
    refine ⟨fun he => absurd (hacc.symm.trans he) changed, fun _ hcab hown => absurd ⟨hcab, hacc.symm.trans hown⟩ other,
      fun _ _ => ?_⟩
    have hconflict : flagSet (finish u).cond.current .roleConflict = s.straps.cab := by
      rw [hflag flagged]
      cases hcab : s.straps.cab with
      | false => rfl
      | true =>
        have hnot : (finish u).view.accepted ≠ some s.straps.station := fun hown => other ⟨hcab, hacc.symm.trans hown⟩
        simpa using hnot
    refine ⟨?_, hconflict, fun hcab => ?_⟩
    · rw [huse, inUse, finish_clock, hclock]
      rfl
    · obtain ⟨lacks, attempt⟩ := withdrawn hcab
      exact ⟨forall_of_overrides ((finish_grows u).lacks lacks), fun hl => latchesHold_iff.1 (hlatch hl) _ (hconflict.trans hcab),
        fun x rest a hlist hx ha => (finish_grows u).attempt.trans (attempt x rest a hlist hx ha)⟩

/-! ### Entries by their age (R101) -/

theorem aged_lost {now : Time} {e : Entry} {a : Time} (ha : e.lastHeard = some a) (hage : 2000 ≤ elapsed now a)
    (hstate : e.state = .alive ∨ e.state = .stale) :
    e.aged now = { e with state := .lost, claims := .const 0, intents := .const 0, draw := 0 } := by
  have hnew : agedState (e.age now) e.state = .lost := by
    rw [Entry.age, ha]
    rcases hstate with h | h <;> rw [h] <;> exact if_pos hage
  exact if_pos ⟨hnew, fun h => by rw [h] at hstate; rcases hstate with h | h <;> cases h⟩

theorem aged_stale {now : Time} {e : Entry} {a : Time} (ha : e.lastHeard = some a) (hage : 600 ≤ elapsed now a)
    (hyoung : elapsed now a < 2000) (hstate : e.state = .alive) : e.aged now = { e with state := .stale } := by
  have hnew : agedState (e.age now) e.state = .stale := by
    rw [Entry.age, ha, hstate]
    exact (if_neg (Nat.not_le.2 hyoung)).trans (if_pos hage)
  unfold Entry.aged
  rw [hnew]
  exact if_neg fun h => EntryState.noConfusion h.1

/-- An entry that is neither to be LOST nor to be STALE keeps its state. -/
theorem aged_still {now : Time} {e : Entry}
    (hlost : ¬ ∃ a, e.lastHeard = some a ∧ 2000 ≤ elapsed now a ∧ (e.state = .alive ∨ e.state = .stale))
    (hstale : ¬ ∃ a, e.lastHeard = some a ∧ 600 ≤ elapsed now a ∧ elapsed now a < 2000 ∧ e.state = .alive) : e.aged now = e := by
  have hnew : agedState (e.age now) e.state = e.state := by
    unfold Entry.age
    cases ha : e.lastHeard with
    | none => cases e.state <;> rfl
    | some a =>
      dsimp only
      cases hs : e.state with
      | alive =>
        have hyoung : ¬ 2000 ≤ elapsed now a := fun h => hlost ⟨a, ha, h, .inl hs⟩
        have hnot : ¬ 600 ≤ elapsed now a := fun h => hstale ⟨a, ha, h, Nat.lt_of_not_le hyoung, hs⟩
        exact (if_neg hyoung).trans (if_neg hnot)
      | stale => exact if_neg fun h => hlost ⟨a, ha, h, .inr hs⟩
      | lost => rfl
      | absent => rfl
  have hstate : (e.aged now).state = e.state := by
    unfold Entry.aged
    dsimp only
    rw [hnew]
    split
    · next h => exact absurd h.1 h.2
    · rfl
  exact Entry.aged_of_state hstate

/-- The loss of a station, by its age (R101). -/
theorem loses_iff {s : State} {i : Station} : s.loses i = true ↔ i ≠ s.straps.station ∧ ∃ a, (s.entry i).lastHeard = some a
    ∧ 2000 ≤ elapsed s.clock a ∧ ((s.entry i).state = .alive ∨ (s.entry i).state = .stale) := by
  unfold State.loses
  simp only [Bool.and_eq_true, bne_iff_ne, beq_iff_eq, and_assoc]
  refine and_congr_right fun _ => ⟨fun ⟨hlost, hwas⟩ => ?_, fun ⟨a, ha, hage, hstate⟩ => ⟨by rw [aged_lost ha hage hstate], ?_⟩⟩
  · by_contra hnot
    by_cases hstale : ∃ a, (s.entry i).lastHeard = some a ∧ 600 ≤ elapsed s.clock a ∧ elapsed s.clock a < 2000
        ∧ (s.entry i).state = .alive
    · obtain ⟨a, ha, hage, hyoung, hstate⟩ := hstale
      rw [aged_stale ha hage hyoung hstate] at hlost
      cases hlost
    · rw [aged_still hnot hstale] at hlost
      exact hwas hlost
  · rcases hstate with h | h <;> rw [h] <;> nofun

/-! ### The agreement (R104, R105) -/

theorem formAgreement_frame (s : State) : ∃ a src h,
    formAgreement s = { s with view := { s.view with agreed := a, source := src, hold := h } } := by
  unfold formAgreement
  split
  · exact ⟨_, _, _, rfl⟩
  · exact ⟨_, _, _, rfl⟩

theorem formAgreement_none {s : State} (h : s.reports = []) : formAgreement s = { s with
    view := { s.view with source := if s.view.source = .median then .held else s.view.source } } := by
  unfold formAgreement
  rw [h]
  rfl

theorem formAgreement_some {s : State} (h : s.reports ≠ []) : ∃ x, formAgreement s = { s with
      view := { s.view with agreed := x, source := .median, hold := .running (timeAfter s.clock 600000) } }
    ∧ x ∈ s.reports ∧ (s.reports.filter (· < x)).length ≤ (s.reports.length - 1) / 2
    ∧ (s.reports.length - 1) / 2 < (s.reports.filter (· ≤ x)).length := by
  obtain ⟨x, hx, hmem, hcount⟩ := median_spec h
  refine ⟨x, ?_, hmem, hcount⟩
  unfold formAgreement
  rw [hx]
  rfl

/-! ### The expiry -/

/-- The state at the ageing timer's expiry, its next expiry set. -/
def State.ageing (s : State) (e : Time) : State :=
  { s with clock := (advanceTo e s).clock, view := { s.view with ageing := .running (timeAfter e 200) } }

/-- The state after every station has aged. -/
def State.allAged (s : State) (e : Time) : State := stations.foldl (fun s i => ageStation i s) (s.ageing e)

theorem ageingExpiry_runs {s : State} {e : Time} (hs : s.Ready) (he : s.view.ageing = .running e) :
    exec .ageingExpiry s = .next (finish (demandDue (formAgreement (s.allAged e)))) := by
  have hexec : exec .ageingExpiry s = atExpiry s.view.ageing ageingExpiry s := rfl
  obtain ⟨now, hnow⟩ := advanceTo_eq e s
  have hstart : (advanceTo e s).modView (fun v => { v with ageing := v.ageing.next 200 }) = s.ageing e := by
    rw [State.ageing, hnow, State.modView, he]
    rfl
  rw [hexec, he, atExpiry_running e _ s hs.running, ageingExpiry, hstart]
  rfl

section
variable {s : State} {e : Time}

theorem allAged_ages (s : State) (e : Time) : (s.ageing e).Ages stations (s.allAged e) := ages_stations _

/-- What the agreement, the due DEMAND frame and the closing leave of the aged stations. -/
structure AgeingCloses (u t : State) : Prop where
  peers : ∀ i, i ≠ u.straps.station → t.entry i = u.entry i
  zones : t.zones = u.zones
  reports : t.reports = u.reports
  agreement : ∃ es, t.view = { (formAgreement u).view with entries := es }
  choice : t.cabChoice = u.cabChoice ∧ t.view.accepted = u.view.accepted

theorem ageing_closes (u : State) : AgeingCloses u (finish (demandDue (formAgreement u))) := by
  have due := demandDue_only (formAgreement u)
  have kept := finish_demandKept (demandDue (formAgreement u))
  have seen := due.seen.trans (finish_seen _)
  have hzones : (finish (demandDue (formAgreement u))).zones = (formAgreement u).zones := (finish_zones _).trans due.zones_eq
  have hclock : (finish (demandDue (formAgreement u))).clock = (formAgreement u).clock := (finish_clock _).trans due.clock_eq
  have hreport : ∀ (now : Time) i, ((finish (demandDue (formAgreement u))).entry i).report now
      = ((formAgreement u).entry i).report now := fun now i =>
    (kept.report now i).trans (by rw [State.entry, due.view_eq]; rfl)
  obtain ⟨es, hview⟩ := kept.view
  rw [due.view_eq] at hview
  generalize finish (demandDue (formAgreement u)) = t at seen hzones hclock hreport hview
  have agreement : ∃ es, t.view = { (formAgreement u).view with entries := es } := ⟨es, hview⟩
  have choice := seen.cabChoice_eq
  have accepted := seen.accepted
  have peers := seen.peers
  obtain ⟨a, src, h, hform⟩ := formAgreement_frame u
  rw [hform] at peers hzones hclock hreport choice accepted
  exact ⟨peers, hzones, reports_congr hclock hreport, agreement, choice, accepted⟩

/-- Every entry by its age (R101). -/
theorem allAged_entry {i : Station} (hne : i ≠ s.straps.station) :
    (s.allAged e).entry i = (s.entry i).aged (advanceTo e s).clock :=
  ((allAged_ages s e).peers i hne).trans (if_pos (mem_stations i))

/-- Every draft record by the loss of its station (R39). -/
theorem allAged_drafts {z : Fin 4} {r : Zone} (hz : s.zone? z = some r) :
    ∃ r', (s.allAged e).zone? z = some r' ∧ r'.drafts = r.drafts.map (Draft.aged (s.ageing e) stations) := by
  have hdrafts := (allAged_ages s e).drafts z
  rw [show (s.ageing e).zone? z = some r from hz, Option.map_some] at hdrafts
  obtain ⟨r', hr', heq⟩ := Option.map_eq_some_iff.1 hdrafts
  exact ⟨r', hr', heq⟩

/-- The draft lists of a zone (R39). -/
theorem drafts_aged {r r' : Zone} (h : r'.drafts = r.drafts.map (Draft.aged (s.ageing e) stations)) :
    r'.drafts.length = r.drafts.length ∧ ∀ (k : Nat) d, r.drafts[k]? = some d →
      ((s.ageing e).loses d.station = true → d.origin = .peer → d.state = .opened →
        r'.drafts[k]? = some { d with state := .decay, close := some (advanceTo e s).clock })
      ∧ (¬ (s.ageing e).loses d.station = true ∨ d.origin = .loc ∨ d.state = .decay → r'.drafts[k]? = some d) := by
  rw [h]
  refine ⟨List.length_map _, fun k d hk => ?_⟩
  rw [List.getElem?_map, hk, Option.map_some]
  refine ⟨fun hlost hpeer hopen => congrArg some (if_pos ⟨hlost, mem_stations _, hpeer, hopen⟩),
    fun hstays => congrArg some (if_neg fun ⟨hlost, _, hpeer, hopen⟩ => ?_)⟩
  rcases hstays with hn | hloc | hdecay
  · exact hn hlost
  · rw [hpeer] at hloc; cases hloc
  · rw [hopen] at hdecay; cases hdecay

/-- The accepted cab station and what follows it (R102, R106). -/
theorem ageing_takesChoice (hs : s.Ready) (hfollows : s.CabFollows) :
    let t := finish (demandDue (formAgreement (s.allAged e)))
    t.view.accepted = t.cabChoice ∧ s.TakesChoice t := by
  have ages := allAged_ages s e
  have hlatch : s.LatchesHold → (s.allAged e).LatchesHold :=
    (Keeps.foldl (fun s i => ageStation_keeps i s) stations (s.ageing e)).latches
  generalize s.allAged e = u at ages hlatch
  obtain ⟨hchoice, followed⟩ := ages.followed (hfollows hs.running)
  have closes := ageing_closes u
  have due := demandDue_only (formAgreement u)
  have hkeeps : s.LatchesHold → (finish (demandDue (formAgreement u))).LatchesHold := fun hl =>
    (finish_plain _).keeps.latches ((demandDue_plain _).keeps.latches ((formAgreement_plain u).keeps.latches (hlatch hl)))
  have hform : RoleKept u (formAgreement u) ∧ (formAgreement u).inUse = u.inUse ∧ ListGrows u (formAgreement u)
      ∧ (formAgreement u).straps = u.straps ∧ (formAgreement u).clock = u.clock := by
    obtain ⟨a, src, h, hform⟩ := formAgreement_frame u
    rw [hform]
    exact ⟨.of_eq rfl rfl rfl, rfl, .of_link rfl, rfl, rfl⟩
  obtain ⟨role, huse, grows, hstraps, hclock⟩ := hform
  have after := (followed.on role huse grows).on (recomputes_roleKept.due _) due.inUse_eq (demandDue_grows _)
  have takes := after.takesChoice (due.straps_eq.trans (hstraps.trans ages.only.straps_eq))
    (due.clock_eq.trans (hclock.trans ages.only.clock_eq)) hkeeps
  exact ⟨closes.choice.2.trans (hchoice.trans closes.choice.1.symm), takes.stands, takes.own, takes.other⟩

end

end Sys2Proof.Machine
end

section
/-! The timers of the view as commands: the agreement formed at the ageing timer's expiry, and the statement as a whole (R101 to R107,
R124). -/

namespace Sys2Proof.Machine

section
variable {s : State} {e : Time}

/-- The agreement behind the ageing (R104, R105). -/
theorem ageing_agreement (s : State) (e : Time) :
    let t := finish (demandDue (formAgreement (s.allAged e)))
    t.view.ageing = .running (timeAfter e 200)
    ∧ (t.reports = [] → t.view.agreed = s.view.agreed ∧ t.view.hold = s.view.hold
        ∧ t.view.source = if s.view.source = .median then .held else s.view.source)
    ∧ (t.reports ≠ [] → t.view.agreed ∈ t.reports ∧ t.view.source = .median
        ∧ t.view.hold = .running (timeAfter (advanceTo e s).clock 600000)
        ∧ (t.reports.filter (· < t.view.agreed)).length ≤ (t.reports.length - 1) / 2
        ∧ (t.reports.length - 1) / 2 < (t.reports.filter (· ≤ t.view.agreed)).length) := by
  have ages := allAged_ages s e
  generalize s.allAged e = u at ages
  obtain ⟨es, a, hkept⟩ := ages.kept.view
  have hclock : u.clock = (advanceTo e s).clock := ages.only.clock_eq
  have closes := ageing_closes u
  intro t
  obtain ⟨es', hview⟩ := closes.agreement
  have hreports : t.reports = u.reports := closes.reports
  change t.view = _ at hview
  rw [hreports, hview]
  refine ⟨?_, fun hnone => ?_, fun hsome => ?_⟩
  · obtain ⟨_, _, _, hform⟩ := formAgreement_frame u
    rw [hform, hkept]
    rfl
  · rw [formAgreement_none hnone, hkept]
    exact ⟨rfl, rfl, rfl⟩
  · obtain ⟨x, hform, hmem, hbelow, habove⟩ := formAgreement_some hsome
    rw [hform, hclock]
    exact ⟨hmem, rfl, rfl, hbelow, habove⟩

/-- The DEMAND frame that falls due with the ageing (R124). -/
theorem ageing_demand (hlisten : s.listening = false) :
    let t := finish (demandDue (formAgreement (s.allAged e)))
    t.demandWaits ∨ (t.link.due = true ∧ t.link.spacing.isRunning = true) := by
  have hkept := (allAged_ages s e).kept.listen
  generalize s.allAged e = u at hkept
  have hstill : (formAgreement u).listening = false := by
    obtain ⟨_, _, _, hform⟩ := formAgreement_frame u
    rw [State.listening, hform]
    exact (congrArg Timer.isRunning hkept).trans hlisten
  obtain ⟨hdue, hspacing⟩ := (finish_demandKept (demandDue (formAgreement u))).due
  intro t
  exact (demandDue_waits hstill).imp (finish_demandKept _).waits fun ⟨h₁, h₂⟩ => ⟨hdue.trans h₁, (congrArg _ hspacing).trans h₂⟩

/-- What the ageing timer's expiry leaves of the other records. -/
theorem ageing_frame (hs : s.Ready) :
    let t := finish (demandDue (formAgreement (s.allAged e)))
    t.clock = (advanceTo e s).clock ∧
    { t with
      clock := s.clock, zones := s.zones, doors := s.doors, stages := s.stages, queue := s.queue, pacing := s.pacing,
      seq := s.seq, alloc := s.alloc, view := s.view, link := s.link, inUse := s.inUse, fans := s.fans,
      damper := s.damper, cond := s.cond, outputs := s.outputs } = s := by
  have only := (((allAged_ages s e).only.trans (formAgreement_only _).toUseOnly).trans (demandDue_only _).toUseOnly)
  generalize demandDue (formAgreement (s.allAged e)) = g at only
  obtain ⟨_, _, _, _, _, _, _, hf⟩ := finish_frame g
  obtain ⟨_, _, _, _, _, _, _, _, _, _, _, _, rfl⟩ := only
  rw [hf]
  exact ⟨rfl, congrArg (fun a => ({ s with attemptDue := a } : State)) hs.settled.symm⟩

/-- The agreement's hold timer (R105). -/
theorem agreementHold_expires (hs : s.Ready) (he : s.view.hold = .running e) :
    ∃ t, exec .agreementHoldExpiry s = .next t ∧ Closes { advanceTo e s with
      view := { s.view with agreed := s.config.design, source := .design, hold := .stopped } } t := by
  have hexec : exec .agreementHoldExpiry s = atExpiry s.view.hold agreementHoldExpiry s := rfl
  rw [hexec, he, atExpiry_running e _ s hs.running]
  obtain ⟨now, hnow⟩ := advanceTo_eq e s
  rw [hnow]
  exact ⟨_, rfl, finish_closes_none _ hs.settled⟩

end

/-- Settles O34. -/
theorem viewTimersExpire : Obligations.ViewTimersExpire := by
  intro s e hs
  refine ⟨agreementHold_expires hs, fun he => ?_⟩
  have closes := ageing_closes (s.allAged e)
  have agreement := ageing_agreement s e
  have demand := ageing_demand (s := s) (e := e)
  have frame := ageing_frame (e := e) hs
  have choice := ageing_takesChoice (e := e) hs
  have entry : ∀ i, i ≠ s.straps.station →
      (finish (demandDue (formAgreement (s.allAged e)))).entry i = (s.entry i).aged (advanceTo e s).clock := fun i hi =>
    (closes.peers i (by rw [(allAged_ages s e).only.straps_eq]; exact hi)).trans (allAged_entry hi)
  have hruns := ageingExpiry_runs hs he
  have hzones := closes.zones
  generalize finish (demandDue (formAgreement (s.allAged e))) = t at hzones agreement demand frame choice entry hruns
  obtain ⟨hageing, hnone, hsome⟩ := agreement
  refine ⟨t, hruns, hageing, frame.1, fun i ⟨hi, a, ha, hage, hstate⟩ => ?_, fun i ⟨hi, a, ha, hage, hyoung, hstate⟩ => ?_,
    fun i hi hlost hstale => ?_, fun z r hz => ?_, hnone, hsome, choice, demand, frame.2⟩
  · rw [entry i hi, aged_lost ha hage hstate]
  · rw [entry i hi, aged_stale ha hage hyoung hstate]
  · rw [entry i hi, aged_still (fun h => hlost ⟨hi, h⟩) fun h => hstale ⟨hi, h⟩]
  · obtain ⟨r', hr', hdrafts⟩ := allAged_drafts (e := e) hz
    obtain ⟨hlen, hk⟩ := drafts_aged hdrafts
    refine ⟨r', (zone?_congr hzones z).trans hr', hlen, fun k d hd => ?_⟩
    obtain ⟨hlost, hstays⟩ := hk k d hd
    exact ⟨fun h => hlost (loses_iff.2 h), fun h => hstays (h.imp_left fun hn hl => hn (loses_iff.1 hl))⟩

end Sys2Proof.Machine
end

section
/-! What the operations of the stage controller can do to a stage that heats: it may cool, but none begins to heat outside the
admission attempt. With it how the four invariants of the stages and their queue pass through a change. -/

namespace Sys2Proof.Machine

/-! ### Stages that cool -/

/-- A stage may have cooled: it keeps its owner, its size and its wear, and it heats, or is ENERGIZED, only where it was. -/
structure Stage.CoolsTo (st st' : Stage) : Prop where
  owner : st'.owner = st.owner
  size : st'.size = st.size
  wear : st'.wear = st.wear
  energized : st'.state = .energized → st.state = .energized
  heating : st'.heating = true → st.heating = true

/-- A stage may have cooled, and counts to its class where it still heats. -/
structure Stage.ThinsTo (st st' : Stage) : Prop extends Stage.CoolsTo st st' where
  cls : st'.heating = true → st'.cls = st.cls

theorem Stage.CoolsTo.refl (st : Stage) : st.CoolsTo st := ⟨rfl, rfl, rfl, id, id⟩

theorem Stage.CoolsTo.trans {a b c : Stage} (h₁ : a.CoolsTo b) (h₂ : b.CoolsTo c) : a.CoolsTo c :=
  ⟨h₂.owner.trans h₁.owner, h₂.size.trans h₁.size, h₂.wear.trans h₁.wear, fun h => h₁.energized (h₂.energized h),
    fun h => h₁.heating (h₂.heating h)⟩

theorem Stage.ThinsTo.refl (st : Stage) : st.ThinsTo st := ⟨.refl st, fun _ => rfl⟩

theorem Stage.ThinsTo.trans {a b c : Stage} (h₁ : a.ThinsTo b) (h₂ : b.ThinsTo c) : a.ThinsTo c :=
  ⟨h₁.toCoolsTo.trans h₂.toCoolsTo, fun h => (h₂.cls h).trans (h₁.cls (h₂.heating h))⟩

/-- A stage that does not heat has thinned from any of its own. -/
theorem Stage.ThinsTo.cold {st st' : Stage} (ho : st'.owner = st.owner) (hs : st'.size = st.size) (hw : st'.wear = st.wear)
    (hc : st'.heating = false) : st.ThinsTo st' where
  owner := ho
  size := hs
  wear := hw
  energized he := by simp [Stage.heating, he] at hc
  heating h := by rw [hc] at h; cases h
  cls h := by rw [hc] at h; cases h

theorem Stage.ThinsTo.toQueued (st : Stage) : st.ThinsTo st.toQueued := .cold rfl rfl rfl rfl

theorem Stage.ThinsTo.toIdle (st : Stage) : st.ThinsTo st.toIdle := .cold rfl rfl rfl rfl

theorem Stage.ThinsTo.toFaulty (st : Stage) : st.ThinsTo st.toFaulty := .cold rfl rfl rfl rfl

/-- A change of feedback alone. -/
theorem Stage.ThinsTo.refeedback (now : Time) (was st : Stage) : st.ThinsTo (refeedback now was st) := by
  obtain ⟨v, h⟩ := refeedback_eq now was st
  rw [h]
  exact ⟨⟨rfl, rfl, rfl, id, id⟩, fun _ => rfl⟩

/-- Every stage of `t` stands in `s` too, and is related to it. -/
def StagesBy (r : Stage → Stage → Prop) (s t : State) : Prop :=
  ∀ i st', t.stage? i = some st' → ∃ st, s.stage? i = some st ∧ r st st'

theorem StagesBy.trans {r : Stage → Stage → Prop} (hr : ∀ {a b c}, r a b → r b c → r a c) {s t u : State}
    (h₁ : StagesBy r s t) (h₂ : StagesBy r t u) : StagesBy r s u := fun i st'' hu => by
  obtain ⟨st', ht, h'⟩ := h₂ i st'' hu
  obtain ⟨st, hs, h⟩ := h₁ i st' ht
  exact ⟨st, hs, hr h h'⟩

theorem StagesBy.of_eq {r : Stage → Stage → Prop} (hr : ∀ a, r a a) {s t : State} (h : t.stages = s.stages) :
    StagesBy r s t := fun i st ht => ⟨st, (stage?_congr h i).symm.trans ht, hr st⟩

/-- No stage of `t` heats that does not in `s`. -/
abbrev State.Cools : State → State → Prop := StagesBy Stage.CoolsTo

/-- No stage of `t` heats that does not in `s`, and none in another class. -/
abbrev State.Thins : State → State → Prop := StagesBy Stage.ThinsTo

theorem State.Thins.cools {s t : State} (h : s.Thins t) : s.Cools t := fun i st' ht => by
  obtain ⟨st, hs, h'⟩ := h i st' ht
  exact ⟨st, hs, h'.toCoolsTo⟩

theorem State.Thins.of_eq {s t : State} (h : t.stages = s.stages) : s.Thins t := StagesBy.of_eq .refl h

theorem State.Thins.trans {s t u : State} (h₁ : s.Thins t) (h₂ : t.Thins u) : s.Thins u := StagesBy.trans .trans h₁ h₂

theorem State.Cools.trans {s t u : State} (h₁ : s.Cools t) (h₂ : t.Cools u) : s.Cools u := StagesBy.trans .trans h₁ h₂

theorem Stage.ThinsTo.modified {st st' : Stage} (h : st.ThinsTo st') (now : Time) : st.ThinsTo (Machine.refeedback now st st') :=
  h.trans (.refeedback now st st')

/-- A change of one stage. -/
theorem modStage_by {r : Stage → Stage → Prop} (hr : ∀ a, r a a) {s : State} {i : Nat} {g : Stage → Stage}
    (h : ∀ st, s.stage? i = some st → r st (refeedback s.clock st (g st))) : StagesBy r s (modStage i g s) := fun j st' ht => by
  rw [stage?_modStage] at ht
  split at ht
  · next hij =>
    subst hij
    obtain ⟨st, hs, rfl⟩ := Option.map_eq_some_iff.1 ht
    exact ⟨st, hs, h st hs⟩
  · exact ⟨st', ht, hr st'⟩

theorem modStage_thins {s : State} {i : Nat} {g : Stage → Stage} (h : ∀ st, s.stage? i = some st → st.ThinsTo (g st)) :
    s.Thins (modStage i g s) := modStage_by .refl fun st hs => (h st hs).modified _

/-! ### Sums over the stage table -/

theorem sumSizes_cons (p : Stage → Bool) (x : Stage) (l : List Stage) :
    sumSizes p (x :: l) = (if p x then x.size else 0) + sumSizes p l := by
  unfold sumSizes
  rw [List.filter_cons]
  split <;> simp

/-- A sum of sizes falls where each stage of the table was counted before with the same size. -/
theorem sumSizes_le {p : Stage → Bool} : ∀ {l l' : List Stage},
    (∀ (i : Nat) (x' : Stage), l'[i]? = some x' → ∃ x, l[i]? = some x ∧ (p x' = true → p x = true ∧ x'.size = x.size)) →
    sumSizes p l' ≤ sumSizes p l
  | _, [], _ => Nat.zero_le _
  | [], x' :: _, h => by obtain ⟨x, hx, -⟩ := h 0 x' rfl; cases hx
  | x :: l, x' :: l', h => by
    have tail : sumSizes p l' ≤ sumSizes p l := sumSizes_le fun i y hy => h (i + 1) y hy
    obtain ⟨_, hx, head⟩ := h 0 x' rfl
    cases hx
    rw [sumSizes_cons, sumSizes_cons]
    split
    · next hp =>
      obtain ⟨hp', hs⟩ := head hp
      rw [if_pos hp', hs]
      omega
    · omega

/-- A sum of sizes after a change of one stage. -/
theorem sumSizes_modify {p : Stage → Bool} {f : Stage → Stage} : ∀ {l : List Stage} {i : Nat} {x : Stage}, l[i]? = some x →
    sumSizes p (l.modify i f) + (if p x then x.size else 0) = sumSizes p l + (if p (f x) then (f x).size else 0)
  | [], _, _, h => by cases h
  | y :: l, 0, x, h => by
    cases h
    rw [List.modify_zero_cons, sumSizes_cons, sumSizes_cons]
    omega
  | y :: l, i + 1, x, h => by
    have ih := sumSizes_modify (p := p) (f := f) (l := l) (i := i) (x := x) h
    rw [List.modify_succ_cons, sumSizes_cons, sumSizes_cons]
    omega

/-- The occupancy of a class falls where its stages thin. -/
theorem State.Thins.occupancy_le {s t : State} (h : s.Thins t) (c : Cls) : t.occupancy c ≤ s.occupancy c :=
  sumSizes_le fun i x' hx' => by
    obtain ⟨x, hx, hr⟩ := h i x' hx'
    refine ⟨x, hx, fun hp => ?_⟩
    rw [Bool.and_eq_true] at hp
    have hc := hr.cls hp.1
    simp only [Stage.inClass] at hp ⊢
    exact ⟨by rw [← hc, hr.heating hp.1, hp.2]; rfl, hr.size⟩

theorem occupancy_congr {s t : State} (h : t.stages = s.stages) (c : Cls) : t.occupancy c = s.occupancy c := by
  rw [State.occupancy, h]; rfl

/-! ### The invariants through a change -/

/-- Both bounds of R73: the usable intents, and the occupancy within them. -/
def State.Bounded (s : State) : Prop := s.IntentsBounded ∧ s.WithinRoom

theorem ActiveOnly_iff {s : State} :
    s.ActiveOnly ↔ (s.alloc.sharing ≠ .active → ∀ i st, s.stage? i = some st → st.state ≠ .energized) :=
  forall_congr' fun _ => ⟨fun h i st hs => h st (mem_stages_iff.2 ⟨i, hs⟩), fun h st hst => by
    obtain ⟨i, hs⟩ := mem_stages_iff.1 hst
    exact h i st hs⟩

theorem BlowersProven_iff {s : State} :
    s.BlowersProven ↔ ∀ i st, s.stage? i = some st → st.heating = true → s.fanRunning st.owner.fan = true :=
  ⟨fun h i st hs => h st (mem_stages_iff.2 ⟨i, hs⟩), fun h st hst => by
    obtain ⟨i, hs⟩ := mem_stages_iff.1 hst
    exact h i st hs⟩

/-- Stages that cool stay over running blowers. -/
theorem State.Cools.proven {s t : State} (h : s.Cools t) (hf : ∀ f, s.fanRunning f = true → t.fanRunning f = true)
    (hs : s.BlowersProven) : t.BlowersProven := BlowersProven_iff.2 fun i st' ht hh => by
  obtain ⟨st, hst, hr⟩ := h i st' ht
  rw [hr.owner]
  exact hf _ (BlowersProven_iff.1 hs i st hst (hr.heating hh))

/-- Stages that cool are ENERGIZED only where they were. -/
theorem State.Cools.active {s t : State} (h : s.Cools t) (hsh : s.alloc.sharing = .active → t.alloc.sharing = .active)
    (hs : s.ActiveOnly) : t.ActiveOnly := ActiveOnly_iff.2 fun hne i st' ht he => by
  obtain ⟨st, hst, hr⟩ := h i st' ht
  exact ActiveOnly_iff.1 hs (fun ha => hne (hsh ha)) i st hst (hr.energized he)

/-- A part of a command up to what closes its step, by what it keeps of the stages: none begins to heat, the queue stays
sound, the blowers proven, and the occupancy within the intents. -/
structure StagesKept (s t : State) : Prop where
  cools : s.Cools t
  sound : s.QueueSound → t.QueueSound
  proven : s.BlowersProven → t.BlowersProven
  bounded : s.Bounded → t.Bounded

/-- It keeps also that stages are ENERGIZED only in ACTIVE. -/
structure HeatKept (s t : State) : Prop extends StagesKept s t where
  active : s.ActiveOnly → t.ActiveOnly

theorem StagesKept.trans {s t u : State} (h₁ : StagesKept s t) (h₂ : StagesKept t u) : StagesKept s u where
  cools := h₁.cools.trans h₂.cools
  sound h := h₂.sound (h₁.sound h)
  proven h := h₂.proven (h₁.proven h)
  bounded h := h₂.bounded (h₁.bounded h)

theorem HeatKept.trans {s t u : State} (h₁ : HeatKept s t) (h₂ : HeatKept t u) : HeatKept s u :=
  ⟨h₁.toStagesKept.trans h₂.toStagesKept, fun h => h₂.active (h₁.active h)⟩

/-- The stage table, the queue, the fans and the sharing state stand. -/
structure SameStages (s t : State) : Prop where
  stages : t.stages = s.stages := by rfl
  queue : t.queue = s.queue := by rfl
  fans : t.fans = s.fans := by rfl
  sharing : t.alloc.sharing = s.alloc.sharing := by rfl

/-- Nothing that the stages' invariants read is changed. -/
structure SameHeat (s t : State) : Prop extends SameStages s t where
  usable : t.alloc.usable = s.alloc.usable := by rfl
  announced : t.alloc.announced = s.alloc.announced := by rfl
  allocation : t.alloc.allocation = s.alloc.allocation := by rfl

theorem fanRunning_congr {s t : State} (h : t.fans = s.fans) (f : FanId) : t.fanRunning f = s.fanRunning f := by
  unfold State.fanRunning State.fan?
  rw [h]

theorem SameHeat.bounded {s t : State} (h : SameHeat s t) (hb : s.Bounded) : t.Bounded := by
  refine ⟨fun c => ?_, fun c => ?_⟩
  · rw [h.usable, h.announced, h.allocation]; exact hb.1 c
  · rw [h.usable, occupancy_congr h.stages]; exact hb.2 c

/-- What the intents and the stages' operations keep after a change of the intents, where the bounds are known to hold. -/
theorem HeatKept.after {s t u : State} (h : SameStages s t) (hk : HeatKept t u) (hb : s.Bounded → u.Bounded) : HeatKept s u where
  cools := (State.Thins.of_eq h.stages).cools.trans hk.cools
  sound hs := hk.sound (queueSound_congr h.stages h.queue hs)
  proven hs := hk.proven ((State.Thins.of_eq h.stages).cools.proven (fun f hf => (fanRunning_congr h.fans f).trans hf) hs)
  bounded := hb
  active hs := hk.active ((State.Thins.of_eq h.stages).cools.active (fun ha => h.sharing.trans ha) hs)

theorem SameHeat.kept {s t : State} (h : SameHeat s t) : HeatKept s t where
  cools := (State.Thins.of_eq h.stages).cools
  sound := queueSound_congr h.stages h.queue
  proven := (State.Thins.of_eq h.stages).cools.proven fun f hf => (fanRunning_congr h.fans f).trans hf
  bounded := h.bounded
  active := (State.Thins.of_eq h.stages).cools.active fun ha => h.sharing.trans ha

theorem HeatKept.refl (s : State) : HeatKept s s := SameHeat.kept {}

theorem HeatKept.foldl {α : Type} {g : State → α → State} (h : ∀ s a, HeatKept s (g s a)) :
    ∀ (l : List α) (s : State), HeatKept s (l.foldl g s)
  | [], s => .refl s
  | a :: l, s => (h s a).trans (HeatKept.foldl h l _)

/-- The stage table, the queue, the fans and the allocator's record stand. -/
theorem SameHeat.of_eq {s t : State} (hs : t.stages = s.stages) (hq : t.queue = s.queue) (hf : t.fans = s.fans)
    (ha : t.alloc = s.alloc) : SameHeat s t where
  stages := hs
  queue := hq
  fans := hf
  sharing := by rw [ha]
  usable := by rw [ha]
  announced := by rw [ha]
  allocation := by rw [ha]

theorem LinkOnly.heat {s t : State} (h : LinkOnly s t) : HeatKept s t :=
  (SameHeat.of_eq h.stages_eq h.queue_eq h.fans_eq h.alloc_eq).kept

theorem CondOnly.heat {s t : State} (h : CondOnly s t) : HeatKept s t :=
  (SameHeat.of_eq h.stages_eq h.queue_eq h.fans_eq h.alloc_eq).kept

theorem DamperOnly.heat {s t : State} (h : DamperOnly s t) : HeatKept s t :=
  (SameHeat.of_eq h.stages_eq h.queue_eq h.fans_eq h.alloc_eq).kept

/-- A change of the stage table in which the stages thin. -/
theorem HeatKept.ofStages {s t : State} (h : StageOnly s t) (ht : s.Thins t) (hq : s.QueueSound → t.QueueSound) :
    HeatKept s t where
  cools := ht.cools
  sound := hq
  proven := ht.cools.proven fun f hf => (fanRunning_congr h.fans_eq f).trans hf
  bounded hb := by
    refine ⟨fun c => ?_, fun c => ?_⟩
    · rw [h.alloc_eq]; exact hb.1 c
    · rw [h.alloc_eq]; exact Nat.le_trans (ht.occupancy_le c) (hb.2 c)
  active := ht.cools.active fun ha => by rw [h.alloc_eq]; exact ha

end Sys2Proof.Machine
end

section
/-! The operations of the stage controller keep the stages' invariants: withdrawing, filling, converting, handing off, a
contactor fault and a rotation. -/

namespace Sys2Proof.Machine

/-- A change of the stage table in which the stages cool, with the occupancy told apart. -/
theorem HeatKept.ofCools {s t : State} (h : StageOnly s t) (hc : s.Cools t) (hq : s.QueueSound → t.QueueSound)
    (hb : s.WithinRoom → t.WithinRoom) : HeatKept s t where
  cools := hc
  sound := hq
  proven := hc.proven fun f hf => (fanRunning_congr h.fans_eq f).trans hf
  bounded hs := ⟨fun c => by rw [h.alloc_eq]; exact hs.1 c, hb hs.2⟩
  active := hc.active fun ha => by rw [h.alloc_eq]; exact ha

theorem oweAttempt_heat (s : State) : HeatKept s (oweAttempt s) := SameHeat.kept {}

/-! ### Withdrawing and filling -/

theorem withdraw_heat (i : Nat) (s : State) : HeatKept s (withdraw i s) :=
  .ofStages (withdraw_only i s)
    ((modStage_thins fun st _ => .toIdle st).trans (.of_eq (withdraw_stages i s))) fun h => withdraw_sound h i

theorem withdrawTo_heat (o : Owner) (c : Cls) (n : Nat) (s : State) : HeatKept s (withdrawTo o c n s) :=
  .foldl (fun s i => withdraw_heat i s) _ s

theorem enqueueNext_heat (o : Owner) (c : Cls) (p : Place) (s : State) : HeatKept s (enqueueNext o c p s) := by
  unfold enqueueNext
  split
  · next i hi =>
    obtain ⟨st, hs, -, hidle⟩ := nextIdle_some hi
    exact .ofStages (enqueue_only c p i s)
      (State.Thins.trans (modStage_thins (g := fun st => { st with state := .queued, cls := some c })
        fun st _ => .cold rfl rfl rfl rfl) (.of_eq (enqueue_stages c p i s))) fun h => enqueue_sound h hs hidle c p
  · exact .refl s

theorem fillBack_heat (o : Owner) (c : Cls) : ∀ (k : Nat) (s : State), HeatKept s (fillBack o c k s)
  | 0, s => .refl s
  | k + 1, s => (enqueueNext_heat o c .back s).trans (fillBack_heat o c k _)

theorem fillTo_heat (o : Owner) (c : Cls) (n : Nat) (s : State) : HeatKept s (fillTo o c n s) := fillBack_heat o c _ s

theorem handOffSingle_heat (o : Owner) (c : Cls) (n : Nat) (s : State) : HeatKept s (handOffSingle o c n s) :=
  (withdrawTo_heat o c _ s).trans (fillTo_heat o c _ _)

theorem refill_heat (o : Owner) (c : Cls) (n : Nat) (first : Option (Cls × Place)) (s : State) :
    HeatKept s (refill o c n first s) := by
  unfold refill
  split
  · split
    · exact (enqueueNext_heat _ _ _ s).trans (fillTo_heat _ _ _ _)
    · exact fillTo_heat _ _ _ s
  · exact fillTo_heat _ _ _ s

/-! ### Conversion (R51) -/

/-- The occupancy of a class after a change of one stage that keeps its size. -/
theorem occupancy_modStage {s : State} {i : Nat} {st : Stage} (hs : s.stage? i = some st) {g : Stage → Stage}
    (hg : (g st).size = st.size) (c : Cls) :
    (modStage i g s).occupancy c + (if st.heating && st.inClass c then st.size else 0)
      = s.occupancy c + (if (g st).heating && (g st).inClass c then st.size else 0) := by
  have hsum := sumSizes_modify (p := fun st => st.heating && st.inClass c) (f := fun st => refeedback s.clock st (g st)) hs
  have hback : Stage.heating (refeedback s.clock st (g st)) = (g st).heating
      ∧ Stage.inClass (refeedback s.clock st (g st)) c = (g st).inClass c
      ∧ (refeedback s.clock st (g st)).size = st.size := by
    obtain ⟨v, hv⟩ := refeedback_eq s.clock st (g st)
    rw [hv]
    exact ⟨rfl, rfl, hg⟩
  rw [hback.1, hback.2.1, hback.2.2] at hsum
  exact hsum

/-- The occupancy where a stage that fits ZONE is reclassified as ZONE. -/
theorem intoZone_withinRoom {s : State} {i : Nat} (hfits : s.fits .zone (s.sizeOf i) = true) (h : s.WithinRoom) :
    (modStage i (fun st => { st with cls := some .zone }) s).WithinRoom := fun c => by
  change (modStage i (fun st => { st with cls := some .zone }) s).occupancy c ≤ s.alloc.usable.get c
  have hocc := h c
  cases hs : s.stage? i with
  | none =>
    refine Nat.le_trans (State.Thins.occupancy_le (modStage_thins fun st hs' => ?_) c) hocc
    rw [hs] at hs'; cases hs'
  | some st =>
    have hsum := occupancy_modStage (g := fun st => { st with cls := some .zone }) hs rfl c
    have hroom : s.occupancy .zone + st.size ≤ s.alloc.usable.get .zone := by
      simpa [State.fits, State.sizeOf, hs] using hfits
    by_cases hc : c = .zone
    · subst hc
      split at hsum <;> split at hsum <;> omega
    · rw [if_neg (c := (Stage.heating { st with cls := some .zone } && _) = true) (by simp [Stage.inClass, Ne.symm hc])] at hsum
      omega

theorem intoZone_cools (i : Nat) (s : State) : s.Cools (modStage i (fun st => { st with cls := some .zone }) s) :=
  modStage_by .refl fun st _ => by
    obtain ⟨v, hv⟩ := refeedback_eq s.clock st { st with cls := some .zone }
    rw [hv]
    exact ⟨rfl, rfl, rfl, id, id⟩

theorem convertInPlace_heat : ∀ (k : Nat) (l : List Nat) (s : State),
    s.Cools (convertInPlace k l s).2 ∧ (s.WithinRoom → (convertInPlace k l s).2.WithinRoom)
  | 0, _, s => by unfold convertInPlace; exact ⟨StagesBy.of_eq .refl rfl, id⟩
  | _ + 1, [], s => by unfold convertInPlace; exact ⟨StagesBy.of_eq .refl rfl, id⟩
  | k + 1, i :: l, s => by
    unfold convertInPlace
    split
    · next hfits =>
      obtain ⟨hc, hb⟩ := convertInPlace_heat k l (modStage i (fun st => { st with cls := some .zone }) s)
      exact ⟨(intoZone_cools i s).trans hc, fun h => hb (intoZone_withinRoom hfits h)⟩
    · exact ⟨StagesBy.of_eq .refl rfl, id⟩

/-- Reclassifying stages that do not heat. -/
theorem foldl_convertQueued_thins : ∀ {l : List Nat} {s : State},
    (∀ i ∈ l, ∀ st, s.stage? i = some st → st.heating = false) → s.Thins (l.foldl (fun s i => convertQueued i s) s)
  | [], _, _ => .of_eq rfl
  | i :: l, s, h => by
    have step : s.Thins (convertQueued i s) :=
      State.Thins.trans (t := modStage i (fun st => { st with cls := some .zone }) s)
        (modStage_thins fun st hs => .cold rfl rfl rfl (h i (List.mem_cons_self ..) st hs)) (.of_eq rfl)
    refine step.trans (foldl_convertQueued_thins fun j hj st' ht => Bool.eq_false_iff.2 fun hh => ?_)
    obtain ⟨st, hs, hr⟩ := step j st' ht
    exact Bool.false_ne_true ((h j (List.mem_cons_of_mem _ hj) st hs).symm.trans (hr.heating hh))

theorem convert_heat (o : Owner) (k : Nat) (s : State) : HeatKept s (convert o k s) := by
  obtain ⟨hc, hb⟩ := convertInPlace_heat k
    (s.bySince (s.stagesWith (fun st => st.heating && st.owner == o && st.inClass .absorb))) s
  have ht : State.Thins (convertInPlace k
      (s.bySince (s.stagesWith (fun st => st.heating && st.owner == o && st.inClass .absorb))) s).2 (convert o k s) :=
    foldl_convertQueued_thins fun i hi st hs => by
      have hp := (List.mem_filter.1 (List.mem_of_mem_take hi)).2
      rw [hs] at hp
      simp at hp
      simp [Stage.heating, hp.2]
  refine .ofCools (convert_only o k s) (hc.trans ht.cools) (fun h => convert_sound h o k) fun h c => ?_
  have hin := convertInPlace_only k
    (s.bySince (s.stagesWith (fun st => st.heating && st.owner == o && st.inClass .absorb))) s
  rw [(convert_only o k s).alloc_eq, ← hin.alloc_eq]
  exact Nat.le_trans (ht.occupancy_le c) (hb h c)

theorem handOffZone_heat (z : Fin 4) (n m : Nat) (s : State) : HeatKept s (handOffZone z n m s) :=
  (((((convert_heat _ _ s).trans (withdrawTo_heat _ _ _ _)).trans (fillTo_heat _ _ _ _)).trans (withdrawTo_heat _ _ _ _)).trans
    (fillTo_heat _ _ _ _)).trans (fillTo_heat _ _ _ _)

theorem zoneFalls_heat (z : Fin 4) (n m : Nat) (s : State) : HeatKept s (zoneFalls z n m s) :=
  (withdrawTo_heat _ _ _ s).trans (withdrawTo_heat _ _ _ _)

/-! ### One stage changes and leaves the queue, or joins it -/

/-- The queue is sound where the stage at `i` is not QUEUED and stands in no queue. -/
theorem lined_of_not_queued {s : State} {i : Nat} (hq : ∀ c, i ∉ s.queue.get c)
    (hs : ∀ st, s.stage? i = some st → st.state ≠ .queued) : s.Lined i := fun c =>
  iff_of_false (hq c) fun ⟨st, hst, h, _⟩ => hs st hst h

/-- The stage of a contactor fault becomes FAULTY and leaves the queue (R63). -/
theorem fault_heat {i : Nat} {st : Stage} {s : State} (hs : s.stage? i = some st) :
    HeatKept s (unqueue i { s with stages := s.stages.set i st.toFaulty }) := by
  have hother : ∀ j, j ≠ i → (unqueue i { s with stages := s.stages.set i st.toFaulty }).stage? j = s.stage? j := fun j hj => by
    simp [State.stage?, unqueue, List.getElem?_set_ne (Ne.symm hj)]
  have hsame : ∀ x, (unqueue i { s with stages := s.stages.set i st.toFaulty }).stage? i = some x →
      x = st.toFaulty := fun x hx => by
    have : (s.stages.set i st.toFaulty)[i]? = some x := hx
    rw [List.getElem?_set_self (List.getElem?_eq_some_iff.1 hs).1] at this
    exact (Option.some.inj this).symm
  refine .ofStages ⟨_, _, s.attemptDue, rfl⟩ (fun j x hx => ?_) fun h => ?_
  · by_cases hj : j = i
    · subst hj
      exact ⟨st, hs, hsame x hx ▸ .toFaulty st⟩
    · exact ⟨x, (hother j hj).symm.trans hx, .refl x⟩
  · refine h.change (i := i) hother (fun c j hj => ?_) (queueNodup_unqueue (fun c => (h c).1) i)
      (lined_of_not_queued (fun c hm => (mem_unqueue.1 hm).2 rfl) fun x hx hq => ?_)
    · rw [mem_unqueue]; exact and_iff_left hj
    · rw [hsame x hx] at hq; cases hq

/-- A stage's record changes outside what its state is. -/
theorem modStage_same_heat {i : Nat} {g : Stage → Stage} (h : ∀ st, (g st).owner = st.owner ∧ (g st).size = st.size
    ∧ (g st).wear = st.wear ∧ (g st).state = st.state ∧ (g st).cls = st.cls) (s : State) : HeatKept s (modStage i g s) := by
  have hheat : ∀ st : Stage, (g st).heating = st.heating := fun st => by unfold Stage.heating; rw [(h st).2.2.2.1]
  refine .ofStages (modStage_only i g s) (modStage_thins fun st _ => ?_) fun hq => ?_
  · obtain ⟨ho, hsz, hw, hst, hc⟩ := h st
    exact ⟨⟨ho, hsz, hw, fun he => hst ▸ he, fun hh => hheat st ▸ hh⟩, fun _ => hc⟩
  · refine hq.change (i := i) (fun j hj => stage?_modStage_other _ _ hj) (fun _ _ _ => Iff.rfl) (fun c => (hq c).1) fun c => ?_
    refine ((hq c).2 i).trans ?_
    rw [stage?_modStage, if_pos rfl]
    cases s.stage? i with
    | none => rfl
    | some st =>
      obtain ⟨-, -, -, hst, hc⟩ := h st
      simp [hst, hc]

/-- The stage of a slice expiry rotates out to the back of its class (R59). -/
theorem rotate_sound {s : State} (h : s.QueueSound) {i : Nat} {st : Stage} (hs : s.stage? i = some st)
    (hst : st.state ≠ .queued) {c : Cls} (hc : st.cls = some c) : (queueBack c i (modStage i Stage.toQueued s)).QueueSound := by
  refine h.change (i := i) (fun j hj => stage?_modStage_other _ _ hj) (fun c' j hj => ?_)
    (queueNodup_queueBack (fun c => (h c).1) (h.not_mem hs hst c)) fun c' => ?_
  · rw [mem_queueBack]; exact or_iff_right fun he => hj he.2
  · rw [mem_queueBack]
    have hsame : (queueBack c i (modStage i Stage.toQueued s)).stage? i = some (refeedback s.clock st st.toQueued) :=
      stage?_modStage_same hs _
    rw [hsame]
    constructor
    · rintro (⟨rfl, -⟩ | hm)
      · exact ⟨_, rfl, refeedback_state .., (refeedback_cls ..).trans hc⟩
      · exact absurd hm (h.not_mem hs hst c')
    · rintro ⟨x, hx, -, hc'⟩
      cases hx
      rw [refeedback_cls] at hc'
      exact .inl ⟨Option.some.inj (hc'.symm.trans hc), rfl⟩

theorem sliceExpiry_heat (i : Nat) (s : State) : HeatKept s (sliceExpiry i s) := by
  have stopped := modStage_same_heat (i := i) (g := fun st => { st with slice := .stopped })
    (fun _ => ⟨rfl, rfl, rfl, rfl, rfl⟩) s
  unfold sliceExpiry
  dsimp only
  split
  · exact .refl s
  · next st hs =>
    split
    · next hst hc =>
      split
      · have hs' := stage?_modStage_same hs (fun st => { st with slice := .stopped })
        refine (stopped.trans ?_).trans (oweAttempt_heat _)
        refine .ofStages ?_ ((modStage_thins fun st _ => .toQueued st).trans (.of_eq rfl)) fun h => ?_
        · exact (modStage_only i _ _).trans (queueBack_only _ i _)
        · exact rotate_sound h hs' (by rw [refeedback_state]; rw [hst]; exact fun h => by cases h)
            ((refeedback_cls ..).trans hc)
      · exact stopped.trans (modStage_same_heat
          (g := fun st => { st with sliceStart := some s.clock, slice := s.timer s.sliceMs })
          (fun _ => ⟨rfl, rfl, rfl, rfl, rfl⟩) _)
    · exact stopped

theorem feedback_heat (reset : Time) (feedback : BitVec 44) (s : State) :
    HeatKept s { s with stages := sampleStages reset s.clock feedback 0 s.stages } := by
  have hget : ∀ j, (sampleStages reset s.clock feedback 0 s.stages)[j]?
      = (s.stage? j).map (fun st => st.sampleFeedback reset s.clock (feedback.getLsbD j)) := fun j => by
    simp only [sampleStages_getElem?, Nat.zero_add]; rfl
  have sampled : ∀ st level, ∃ f v, Stage.sampleFeedback reset s.clock level st = { st with filter := f, feedback := v } :=
    fun st level => by
      obtain ⟨v, h, -⟩ := sampleFeedback_only reset s.clock level st
      exact ⟨_, v, h⟩
  refine .ofStages ⟨_, s.queue, s.attemptDue, rfl⟩ (fun j x hx => ?_) fun h c => ⟨(h c).1, fun j => ((h c).2 j).trans ?_⟩
  · obtain ⟨st, hs, rfl⟩ := Option.map_eq_some_iff.1 ((hget j).symm.trans hx)
    obtain ⟨f, v, he⟩ := sampled st (feedback.getLsbD j)
    rw [he]
    exact ⟨st, hs, ⟨⟨rfl, rfl, rfl, id, id⟩, fun _ => rfl⟩⟩
  · change _ ↔ ∃ st, (sampleStages reset s.clock feedback 0 s.stages)[j]? = some st ∧ _
    rw [hget]
    cases s.stage? j with
    | none => rfl
    | some st =>
      obtain ⟨f, v, he⟩ := sampled st (feedback.getLsbD j)
      simp [he]

end Sys2Proof.Machine
end

section
/-! Stages taken off (R57, R61, R65) and suspended (R60): where they stand afterwards, and that the occupancy is then within
what a cut asks. -/

namespace Sys2Proof.Machine

/-! ### Taking stages off -/

/-- The stages to be taken off that are of a class, by table index. -/
def State.groupOf (s : State) (victims : List Nat) (c : Cls) : List Nat :=
  (List.range s.stages.length).filter (fun i => victims.contains i && match s.stage? i with
    | some st => st.inClass c
    | none => false)

theorem mem_groupOf {s : State} {victims : List Nat} {c : Cls} {i : Nat} :
    i ∈ s.groupOf victims c ↔ i ∈ victims ∧ ∃ st, s.stage? i = some st ∧ st.cls = some c := by
  simp only [State.groupOf, List.mem_filter, List.mem_range, Bool.and_eq_true, List.contains_iff_mem]
  cases hs : s.stage? i with
  | none => simp
  | some st => simp [Stage.inClass, (List.getElem?_eq_some_iff.1 hs).1]

/-- The stages taken off, before they join the queue. -/
def queuedOff (victims : List Nat) (s : State) : State := victims.foldl (fun s i => modStage i Stage.toQueued s) s

theorem queuedOff_cons (i : Nat) (l : List Nat) (s : State) :
    queuedOff (i :: l) s = queuedOff l (modStage i Stage.toQueued s) := rfl

theorem queuedOff_other {j : Nat} : ∀ {l : List Nat} {s : State}, j ∉ l → (queuedOff l s).stage? j = s.stage? j
  | [], _, _ => rfl
  | i :: l, s, h => by
    obtain ⟨hi, hl⟩ := not_or.1 (mt List.mem_cons.2 h)
    rw [queuedOff_cons, queuedOff_other hl, stage?_modStage_other _ _ hi]

/-- A stage taken off, once or more, is QUEUED with the rest of its record as R57 leaves it. -/
theorem queuedOff_stage? {j : Nat} : ∀ {l : List Nat} {s : State} {st : Stage}, s.stage? j = some st →
    (j ∈ l ∨ ∃ x v, st = { Stage.toQueued x with feedback := v }) →
    ∃ v, (queuedOff l s).stage? j = some { st.toQueued with feedback := v }
  | [], s, st, hs, h => by
    obtain ⟨x, v, rfl⟩ := h.resolve_left List.not_mem_nil
    exact ⟨v, hs⟩
  | i :: l, s, st, hs, h => by
    rw [queuedOff_cons]
    by_cases hji : j = i
    · subst hji
      obtain ⟨w, hw⟩ := refeedback_eq s.clock st st.toQueued
      obtain ⟨v, hv⟩ := queuedOff_stage? (l := l) (stage?_modStage_same hs Stage.toQueued) (.inr ⟨st, w, hw⟩)
      rw [hw] at hv
      exact ⟨v, hv⟩
    · exact queuedOff_stage? ((stage?_modStage_other Stage.toQueued s hji).trans hs)
        (h.imp_left fun hm => (List.mem_cons.1 hm).resolve_left hji)

theorem queuedOff_thins : ∀ (l : List Nat) (s : State), s.Thins (queuedOff l s)
  | [], _ => .of_eq rfl
  | i :: l, s => (modStage_thins fun st _ => .toQueued st).trans (queuedOff_thins l (modStage i Stage.toQueued s))

theorem queuedOff_queue : ∀ (l : List Nat) (s : State), (queuedOff l s).queue = s.queue
  | [], _ => rfl
  | i :: l, s => queuedOff_queue l (modStage i Stage.toQueued s)

theorem takeOff_stages (victims : List Nat) (s : State) : (takeOff victims s).stages = (queuedOff victims s).stages := rfl

theorem takeOff_thins (victims : List Nat) (s : State) : s.Thins (takeOff victims s) :=
  (queuedOff_thins victims s).trans (.of_eq rfl)

/-- The queue of a class after stages are taken off: their group joins it at the front. -/
theorem takeOff_queue (victims : List Nat) (s : State) (c : Cls) :
    List.Perm ((takeOff victims s).queue.get c) (s.groupOf victims c ++ s.queue.get c) := by
  have hq := queuedOff_queue victims s
  have front : ∃ u : State, (takeOff victims s).queue.get c =
      u.bySince (s.groupOf victims c) ++ (queuedOff victims s).queue.get c := by
    cases c <;> exact ⟨_, rfl⟩
  obtain ⟨u, hu⟩ := front
  rw [hu, hq]
  exact (bySince_perm u _).append_right _

/-- A stage that is taken off is QUEUED in the class it had. -/
theorem takeOff_stage? {victims : List Nat} {s : State} {i : Nat} {st : Stage} (hi : i ∈ victims) (hs : s.stage? i = some st) :
    ∃ v, (takeOff victims s).stage? i = some { st.toQueued with feedback := v } := by
  rw [stage?_congr (takeOff_stages victims s)]
  exact queuedOff_stage? hs (.inl hi)

theorem takeOff_other {victims : List Nat} {s : State} {i : Nat} (hi : i ∉ victims) :
    (takeOff victims s).stage? i = s.stage? i :=
  (stage?_congr (takeOff_stages victims s) i).trans (queuedOff_other hi)

theorem takeOff_cold {victims : List Nat} {s : State} {i : Nat} (hi : i ∈ victims) {st : Stage}
    (ht : (takeOff victims s).stage? i = some st) : st.heating = false := by
  obtain ⟨st', hs, -⟩ := takeOff_thins victims s i st ht
  obtain ⟨v, hv⟩ := takeOff_stage? hi hs
  rw [hv] at ht
  cases ht
  rfl

/-- The numbers in a list name stages that heat. -/
def State.Heats (s : State) (l : List Nat) : Prop := ∀ i ∈ l, ∀ st, s.stage? i = some st → st.heating = true

theorem heats_stagesWith {s : State} {p : Stage → Bool} (h : ∀ st, p st = true → st.heating = true) :
    s.Heats (s.stagesWith p) := fun i hi st hs => by
  obtain ⟨st', hs', hp⟩ := mem_stagesWith.1 hi
  rw [hs] at hs'
  cases hs'
  exact h st hp

theorem Stage.not_queued_of_heating {st : Stage} (h : st.heating = true) : st.state ≠ .queued := fun hq => by
  simp [Stage.heating, hq] at h

/-- Stages that heat, taken off, stand each once in the queue of their class. -/
theorem takeOff_sound {victims : List Nat} {s : State} (hv : s.Heats victims) (h : s.QueueSound) :
    (takeOff victims s).QueueSound := fun c => by
  have hperm := takeOff_queue victims s c
  refine ⟨hperm.nodup_iff.2 (List.nodup_append.2 ⟨List.nodup_range.filter _, (h c).1, ?_⟩), fun i => ?_⟩
  · rintro i hi j hj rfl
    obtain ⟨hiv, st, hs, -⟩ := mem_groupOf.1 hi
    exact h.not_mem hs (Stage.not_queued_of_heating (hv i hiv st hs)) c hj
  · rw [hperm.mem_iff, List.mem_append, mem_groupOf]
    by_cases hi : i ∈ victims
    · cases hs : s.stage? i with
      | none =>
        have hnone : (takeOff victims s).stage? i = none := Option.eq_none_iff_forall_ne_some.2 fun x hx => by
          obtain ⟨st, hst, -⟩ := takeOff_thins victims s i x hx
          rw [hs] at hst; cases hst
        rw [hnone, (h c).2 i, hs]
        exact iff_of_false (by rintro (⟨-, st, hst, -⟩ | ⟨st, hst, -⟩) <;> cases hst) (by rintro ⟨st, hst, -⟩; cases hst)
      | some st =>
        obtain ⟨v, ht⟩ := takeOff_stage? hi hs
        rw [ht]
        constructor
        · rintro (⟨-, st', hst, hc⟩ | hm)
          · cases hst; exact ⟨_, rfl, rfl, hc⟩
          · exact absurd hm (h.not_mem hs (Stage.not_queued_of_heating (hv i hi st hs)) c)
        · rintro ⟨x, hx, -, hc⟩
          cases hx
          exact .inl ⟨hi, st, rfl, hc⟩
    · rw [takeOff_other hi, ← (h c).2 i]
      exact or_iff_right fun hg => hi hg.1

theorem takeOff_heat {victims : List Nat} {s : State} (hv : s.Heats victims) : HeatKept s (takeOff victims s) :=
  .ofStages (takeOff_only victims s) (takeOff_thins victims s) (takeOff_sound hv)

/-! ### Sheds, blower losses and suspensions -/

theorem shedStages_heat (s : State) : HeatKept s (shedStages s) := takeOff_heat (heats_stagesWith fun _ h => h)

theorem blowerLoss_heat (f : FanId) (s : State) : HeatKept s (blowerLoss f s) :=
  takeOff_heat (heats_stagesWith fun _ h => (Bool.and_eq_true_iff.1 h).1)

/-- No stage heats. -/
def State.Cold (s : State) : Prop := ∀ i st, s.stage? i = some st → st.heating = false

/-- What heats no more after stages that satisfy a test are taken off. -/
theorem takeOff_stagesWith_cold {s : State} {p : Stage → Bool} {i : Nat} {st' : Stage}
    (ht : (takeOff (s.stagesWith p) s).stage? i = some st') (hh : st'.heating = true) : s.stage? i = some st' ∧ p st' = false := by
  by_cases hi : i ∈ s.stagesWith p
  · rw [takeOff_cold hi ht] at hh; cases hh
  · have hs := (takeOff_other hi).symm.trans ht
    exact ⟨hs, Bool.eq_false_iff.2 fun hp => hi (mem_stagesWith.2 ⟨st', hs, hp⟩)⟩

theorem shedStages_cold (s : State) : (shedStages s).Cold := fun _ _ ht => Bool.eq_false_iff.2 fun hh => by
  obtain ⟨-, hp⟩ := takeOff_stagesWith_cold ht hh
  rw [hh] at hp
  cases hp

/-- After the loss of a blower no stage that it serves heats. -/
theorem blowerLoss_cold {f : FanId} {s : State} {i : Nat} {st : Stage} (ht : (blowerLoss f s).stage? i = some st)
    (hf : st.owner.fan = f) : st.heating = false := Bool.eq_false_iff.2 fun hh => by
  obtain ⟨-, hp⟩ := takeOff_stagesWith_cold ht hh
  simp [hh, hf] at hp

theorem State.Cold.cools {s t : State} (h : s.Cold) (hc : s.Cools t) : t.Cold := fun i st' ht => Bool.eq_false_iff.2 fun hh => by
  obtain ⟨st, hs, hr⟩ := hc i st' ht
  exact Bool.false_ne_true ((h i st hs).symm.trans (hr.heating hh))

theorem State.Cold.activeOnly {s : State} (h : s.Cold) : s.ActiveOnly := ActiveOnly_iff.2 fun _ i st hs he => by
  have := h i st hs
  simp [Stage.heating, he] at this

theorem State.Cold.blowersProven {s : State} (h : s.Cold) : s.BlowersProven := BlowersProven_iff.2 fun i st hs hh => by
  rw [h i st hs] at hh; cases hh

theorem sumSizes_none {p : Stage → Bool} {l : List Stage} (h : ∀ st ∈ l, p st = false) : sumSizes p l = 0 := by
  unfold sumSizes
  rw [List.filter_eq_nil_iff.2 fun st hst => by simp [h st hst]]
  rfl

theorem State.Cold.occupancy {s : State} (h : s.Cold) (c : Cls) : s.occupancy c = 0 := sumSizes_none fun st hst => by
  obtain ⟨i, hi⟩ := mem_stages_iff.1 hst
  rw [h i st hi, Bool.false_and]

/-- The stage of R60, SUSPENDED. -/
def Stage.suspend (now : Time) (st : Stage) : Stage :=
  { st with state := .suspended, slice := .stopped, suspendedAt := some now }

theorem suspend_heat {i : Nat} {s : State} {now : Time} (h : ∀ st, s.stage? i = some st → st.heating = true) :
    HeatKept s (modStage i (Stage.suspend now) s) := by
  refine .ofStages (modStage_only i _ s) (modStage_thins fun st hs => ?_) fun hq => ?_
  · exact ⟨⟨rfl, rfl, rfl, fun he => StageState.noConfusion he, fun _ => h st hs⟩, fun _ => rfl⟩
  · exact modStage_sound hq fun st hs => ⟨Stage.not_queued_of_heating (h st hs), fun he => StageState.noConfusion he⟩

theorem foldl_suspend_heat : ∀ (l : List Nat) (s : State), s.Heats l →
    HeatKept s (l.foldl (fun u i => modStage i (Stage.suspend u.clock) u) s)
      ∧ ∀ i st, (l.foldl (fun u i => modStage i (Stage.suspend u.clock) u) s).stage? i = some st → st.state = .energized →
        i ∉ l ∧ ∃ st', s.stage? i = some st' ∧ st'.state = .energized
  | [], s, _ => ⟨.refl s, fun i st hs he => ⟨List.not_mem_nil, st, hs, he⟩⟩
  | j :: l, s, h => by
    have step : HeatKept s (modStage j (Stage.suspend s.clock) s) := suspend_heat (h j (List.mem_cons_self ..))
    have hl : State.Heats (modStage j (Stage.suspend s.clock) s) l := fun i hi st hs => by
      rw [stage?_modStage] at hs
      split at hs
      · obtain ⟨st', -, rfl⟩ := Option.map_eq_some_iff.1 hs
        rw [Stage.heating, refeedback_state]; rfl
      · exact h i (List.mem_cons_of_mem _ hi) st hs
    obtain ⟨hkept, hnone⟩ := foldl_suspend_heat l _ hl
    refine ⟨step.trans hkept, fun i st hs he => ?_⟩
    obtain ⟨hi, st', hs', he'⟩ := hnone i st hs he
    rw [stage?_modStage] at hs'
    split at hs'
    · obtain ⟨x, -, rfl⟩ := Option.map_eq_some_iff.1 hs'
      rw [refeedback_state] at he'
      cases he'
    · next hji => exact ⟨mt List.mem_cons.1 (not_or.2 ⟨Ne.symm hji, hi⟩), st', hs', he'⟩

theorem suspendAll_kept (s : State) : HeatKept s (suspendAll s) ∧ (suspendAll s).ActiveOnly := by
  obtain ⟨hk, hn⟩ := foldl_suspend_heat (s.stagesWith (fun st => st.state == .energized)) s
    (heats_stagesWith fun st h => (Stage.heating_iff st).2 (.inl (by simpa using h)))
  refine ⟨hk, ActiveOnly_iff.2 fun _ i st hs he => ?_⟩
  obtain ⟨hi, st', hs', he'⟩ := hn i st hs he
  exact hi (mem_stagesWith.2 ⟨st', hs', by simpa using he'⟩)

/-! ### A cut takes enough -/

/-- The sum of the sizes of numbered stages. -/
def State.sizes (s : State) (l : List Nat) : Nat := (l.map s.sizeOf).sum

theorem sizeOf_of_some {s : State} {i : Nat} {st : Stage} (h : s.stage? i = some st) : s.sizeOf i = st.size := by
  simp [State.sizeOf, h]

theorem sizeOf_modStage {i : Nat} {g : Stage → Stage} (hg : ∀ st, (g st).size = st.size) (s : State) (j : Nat) :
    (modStage i g s).sizeOf j = s.sizeOf j := by
  simp only [State.sizeOf, stage?_modStage]
  by_cases hij : i = j
  · rw [if_pos hij]
    cases s.stage? j with
    | none => rfl
    | some st =>
      obtain ⟨v, hv⟩ := refeedback_eq s.clock st (g st)
      simp only [Option.map_some, hv, hg]
  · rw [if_neg hij]

/-- Taking different stages of a class off lowers its occupancy by their sizes. -/
theorem queuedOff_occupancy {c : Cls} : ∀ {l : List Nat} {s : State}, l.Nodup →
    (∀ i ∈ l, ∃ st, s.stage? i = some st ∧ (st.heating && st.inClass c) = true) →
    (queuedOff l s).occupancy c + s.sizes l = s.occupancy c
  | [], _, _, _ => rfl
  | i :: l, s, hn, h => by
    obtain ⟨hi, hn⟩ := List.nodup_cons.1 hn
    obtain ⟨st, hs, hp⟩ := h i (List.mem_cons_self ..)
    have ih := queuedOff_occupancy (c := c) (l := l) (s := modStage i Stage.toQueued s) hn fun j hj => by
      rw [stage?_modStage_other _ _ (fun he : j = i => hi (he ▸ hj))]
      exact h j (List.mem_cons_of_mem _ hj)
    have hocc := occupancy_modStage (g := Stage.toQueued) hs rfl c
    rw [if_pos hp, show st.toQueued.heating = false from rfl, Bool.false_and, if_neg Bool.false_ne_true] at hocc
    have hsizes : (modStage i Stage.toQueued s).sizes l = s.sizes l := by
      unfold State.sizes
      exact congrArg List.sum (List.map_congr_left fun j _ => sizeOf_modStage (g := Stage.toQueued) (fun _ => rfl) s j)
    have hhead : s.sizes (i :: l) = st.size + s.sizes l := by simp [State.sizes, sizeOf_of_some hs]
    change (queuedOff l (modStage i Stage.toQueued s)).occupancy c + s.sizes (i :: l) = _
    omega

theorem cutVictims_sublist (sizeOf : Nat → Nat) (limit : Nat) : ∀ (n : Nat) (l : List Nat),
    List.Sublist (cutVictims sizeOf limit n l) l
  | _, [] => .slnil
  | n, i :: l => by
    unfold cutVictims
    split
    · exact List.nil_sublist _
    · exact (cutVictims_sublist sizeOf limit _ l).cons_cons i

/-- The victims of a cut take off what exceeds the limit. -/
theorem cutVictims_enough {sizeOf : Nat → Nat} {limit : Nat} : ∀ {n : Nat} {l : List Nat}, n ≤ (l.map sizeOf).sum →
    n ≤ limit + ((cutVictims sizeOf limit n l).map sizeOf).sum
  | _, [], h => Nat.le_trans h (Nat.zero_le _)
  | n, i :: l, h => by
    unfold cutVictims
    split
    · next hle => exact Nat.le_trans hle (Nat.le_add_right ..)
    · rw [List.map_cons, List.sum_cons] at h ⊢
      have ih := cutVictims_enough (sizeOf := sizeOf) (limit := limit) (n := n - sizeOf i) (l := l) (by omega)
      omega

/-- The sizes of the numbered stages that satisfy a test. -/
theorem sum_stageIndexes (s : State) (p : Stage → Bool) : s.sizes (s.stagesWith p) = sumSizes p s.stages := by
  have key : ∀ (l : List Stage) (i : Nat) (f : Nat → Nat), (∀ j st, l[j]? = some st → f (i + j) = st.size) →
      ((stageIndexes p i l).map f).sum = sumSizes p l := by
    intro l
    induction l with
    | nil => intro i f _; rfl
    | cons st l ih =>
      intro i f h
      have head : f i = st.size := h 0 st rfl
      have tail := ih (i + 1) f fun j x hx => by rw [Nat.add_right_comm, Nat.add_assoc]; exact h (j + 1) x hx
      unfold stageIndexes
      rw [sumSizes_cons]
      split
      · rw [List.map_cons, List.sum_cons, head, tail]
      · rw [tail, Nat.zero_add]
  exact key s.stages 0 s.sizeOf fun j st hs => sizeOf_of_some (by rw [Nat.zero_add]; exact hs)

theorem sumSizes_add {p q r : Stage → Bool} (h : ∀ st, (if p st then st.size else 0) + (if q st then st.size else 0)
    = if r st then st.size else 0) : ∀ l, sumSizes p l + sumSizes q l = sumSizes r l
  | [] => rfl
  | st :: l => by
    have := h st
    have ih := sumSizes_add h l
    simp only [sumSizes_cons]
    omega

/-- The stages a cut may take, in its order (R57). -/
def State.cutOrder (s : State) (c : Cls) : List Nat :=
  s.bySince (s.stagesWith (fun st => st.state == .suspended && st.inClass c))
    ++ s.bySince (s.stagesWith (fun st => st.state == .energized && st.inClass c))

theorem cut_eq (c : Cls) (s : State) :
    cut c s = takeOff (cutVictims s.sizeOf (s.alloc.usable.get c) (s.occupancy c) (s.cutOrder c)) s := rfl

theorem mem_cutOrder {s : State} {c : Cls} {i : Nat} (h : i ∈ s.cutOrder c) :
    ∃ st, s.stage? i = some st ∧ (st.heating && st.inClass c) = true := by
  rcases List.mem_append.1 h with h | h
  · obtain ⟨st, hs, hp⟩ := mem_stagesWith.1 (mem_bySince.1 h)
    exact ⟨st, hs, by simp at hp; simp [Stage.heating, hp.1, hp.2]⟩
  · obtain ⟨st, hs, hp⟩ := mem_stagesWith.1 (mem_bySince.1 h)
    exact ⟨st, hs, by simp at hp; simp [Stage.heating, hp.1, hp.2]⟩

theorem cutOrder_nodup (s : State) (c : Cls) : (s.cutOrder c).Nodup := by
  refine List.nodup_append.2 ⟨(bySince_perm s _).nodup_iff.2 (stagesWith_nodup s _),
    (bySince_perm s _).nodup_iff.2 (stagesWith_nodup s _), ?_⟩
  rintro i hi j hj rfl
  obtain ⟨st, hs, hp⟩ := mem_stagesWith.1 (mem_bySince.1 hi)
  obtain ⟨st', hs', hp'⟩ := mem_stagesWith.1 (mem_bySince.1 hj)
  rw [hs] at hs'
  cases hs'
  simp at hp hp'
  rw [hp.1] at hp'
  exact absurd hp'.1 fun h => by cases h

/-- The stages a cut may take make up the occupancy. -/
theorem sizes_cutOrder (s : State) (c : Cls) : s.sizes (s.cutOrder c) = s.occupancy c := by
  have sorted : ∀ l, s.sizes (s.bySince l) = s.sizes l := fun l => ((bySince_perm s l).map s.sizeOf).sum_eq
  have split : s.sizes (s.cutOrder c) = s.sizes (s.stagesWith (fun st => st.state == .suspended && st.inClass c))
      + s.sizes (s.stagesWith (fun st => st.state == .energized && st.inClass c)) := by
    rw [← sorted (s.stagesWith fun st => st.state == .suspended && st.inClass c),
      ← sorted (s.stagesWith fun st => st.state == .energized && st.inClass c)]
    simp only [State.sizes, State.cutOrder, List.map_append, List.sum_append]
  rw [split, sum_stageIndexes, sum_stageIndexes]
  refine sumSizes_add (fun st => ?_) _
  by_cases hc : st.inClass c = true
  · by_cases hs : st.state = .suspended
    · simp [Stage.heating, hc, hs]
    · simp [Stage.heating, hc, hs]
  · simp [hc]

theorem cut_heat (c : Cls) (s : State) : HeatKept s (cut c s) :=
  takeOff_heat fun i hi st hs => by
    obtain ⟨st', hs', hp⟩ := mem_cutOrder (mem_of_mem_cutVictims hi)
    rw [hs] at hs'
    cases hs'
    exact (Bool.and_eq_true_iff.1 hp).1

theorem cut_thins (c : Cls) (s : State) : s.Thins (cut c s) := takeOff_thins _ s

/-- A cut leaves the occupancy of its class within the usable intent (R57). -/
theorem cut_occupancy (c : Cls) (s : State) : (cut c s).occupancy c ≤ s.alloc.usable.get c := by
  have henough := cutVictims_enough (sizeOf := s.sizeOf) (limit := s.alloc.usable.get c) (Nat.le_of_eq (sizes_cutOrder s c).symm)
  have hfall := queuedOff_occupancy (c := c) ((cutVictims_sublist _ _ _ _).nodup (cutOrder_nodup s c))
    fun i hi => mem_cutOrder (mem_of_mem_cutVictims (sizeOf := s.sizeOf) (limit := s.alloc.usable.get c) (n := s.occupancy c) hi)
  rw [cut_eq, occupancy_congr (takeOff_stages _ s)]
  unfold State.sizes at hfall
  omega

end Sys2Proof.Machine
end

section
/-! The allocator, the fans and the sharing states keep the stages' invariants: a lowering cuts what exceeds it, a blower
that leaves RUNNING takes its stages with it, and the states without heat shed or suspend. -/

namespace Sys2Proof.Machine

theorem PerClass_get_map₂ {α β γ : Type} (f : α → β → γ) (p : PerClass α) (q : PerClass β) (c : Cls) :
    (p.map₂ f q).get c = f (p.get c) (q.get c) := by
  cases c <;> rfl

theorem PerClass_get_const {α : Type} (v : α) (c : Cls) : (PerClass.const v).get c = v := by cases c <;> rfl

theorem Cls.mem_all (c : Cls) : c ∈ Cls.all := by cases c <;> decide

/-! ### Conditions and the link -/

theorem recheck_heat (c : Condition) (s : State) : HeatKept s (recheck c s) := (recheck_only c s).heat

theorem demandDue_heat (s : State) : HeatKept s (demandDue s) := (demandDue_only s).heat

theorem queueSingle_heat (f : Frame) (s : State) : HeatKept s (queueSingle f s) := (queueSingle_only f s).heat

theorem modOwn_heat (g : Entry → Entry) (s : State) : HeatKept s (modOwn g s) := SameHeat.kept {}

/-! ### The intents -/

/-- The intents bounded but for the allocation, with the occupancy within them: what a lowering finds. -/
def State.Announces (s : State) : Prop :=
  ∀ c : Cls, s.alloc.usable.get c ≤ s.alloc.announced.get c ∧ s.occupancy c ≤ s.alloc.usable.get c

theorem State.Bounded.announces {s : State} (h : s.Bounded) : s.Announces := fun c => ⟨(h.1 c).1, h.2 c⟩

/-- The cuts of a lowering, in the classes whose usable intent fell. -/
def cuts (usable before : PerClass Nat) (l : List Cls) (s : State) : State :=
  l.foldl (fun s c => if usable.get c < before.get c then cut c s else s) s

theorem cuts_heat (p q : PerClass Nat) (l : List Cls) (s : State) : HeatKept s (cuts p q l s) :=
  .foldl (fun s c => by
    split
    · exact cut_heat c s
    · exact .refl s) l s

theorem cuts_only (p q : PerClass Nat) : ∀ (l : List Cls) (s : State), StageOnly s (cuts p q l s)
  | [], s => .refl s
  | c :: l, s => by
    refine StageOnly.trans (t := if p.get c < q.get c then cut c s else s) ?_ (cuts_only p q l _)
    split
    · exact cut_only c s
    · exact .refl s

theorem cuts_thins (p q : PerClass Nat) : ∀ (l : List Cls) (s : State), s.Thins (cuts p q l s)
  | [], _ => .of_eq rfl
  | c :: l, s => by
    refine State.Thins.trans (t := if p.get c < q.get c then cut c s else s) ?_ (cuts_thins p q l _)
    split
    · exact cut_thins c s
    · exact .of_eq rfl

/-- After the cuts the occupancy of every class named, and of every class that needed none, is within the usable intent. -/
theorem cuts_occupancy {p q : PerClass Nat} {c : Cls} : ∀ {l : List Cls} {s : State}, s.alloc.usable = p →
    (c ∈ l ∧ p.get c < q.get c ∨ s.occupancy c ≤ p.get c) → (cuts p q l s).occupancy c ≤ p.get c
  | [], _, _, h => h.resolve_left fun hm => List.not_mem_nil hm.1
  | c' :: l, s, hu, h => by
    have step : State.Thins s (if p.get c' < q.get c' then cut c' s else s) := by
      split
      · exact cut_thins c' s
      · exact .of_eq rfl
    have hu' : (if p.get c' < q.get c' then cut c' s else s).alloc.usable = p := by
      split
      · rw [(cut_only c' s).alloc_eq, hu]
      · exact hu
    refine cuts_occupancy (l := l) (s := if p.get c' < q.get c' then cut c' s else s) hu' ?_
    rcases h with ⟨hm, hlt⟩ | h
    · rcases List.mem_cons.1 hm with rfl | hm
      · refine .inr ?_
        rw [if_pos hlt, ← hu]
        exact cut_occupancy c s
      · exact .inl ⟨hm, hlt⟩
    · exact .inr (Nat.le_trans (step.occupancy_le c) h)

/-- The allocator's record with the intents lowered to the allocation (R74), before the cuts. -/
def lowered (s : State) : State :=
  setUsable (s.alloc.usable.map₂ min s.alloc.allocation)
    (if s.alloc.announced.map₂ min s.alloc.allocation = s.alloc.announced then s
    else setAnnounced (s.alloc.announced.map₂ min s.alloc.allocation) s)

theorem lowerIntents_eq (s : State) : lowerIntents s =
    if s.alloc.announced.map₂ min s.alloc.allocation = s.alloc.announced then
      cuts (s.alloc.usable.map₂ min s.alloc.allocation) s.alloc.usable Cls.all (lowered s)
    else demandDue (cuts (s.alloc.usable.map₂ min s.alloc.allocation) s.alloc.usable Cls.all (lowered s)) := rfl

theorem lowered_same (s : State) : SameStages s (lowered s) := by
  unfold lowered
  split <;> exact {}

theorem lowered_alloc (s : State) : (lowered s).alloc =
    { s.alloc with usable := s.alloc.usable.map₂ min s.alloc.allocation
                   announced := s.alloc.announced.map₂ min s.alloc.allocation } := by
  unfold lowered
  split
  · next h => rw [h]; rfl
  · rfl

/-- A lowering brings the usable intents under the allocation, and the occupancy with them (R57, R74). -/
theorem cuts_lowered_bounded {s : State} (h : s.Announces) :
    (cuts (s.alloc.usable.map₂ min s.alloc.allocation) s.alloc.usable Cls.all (lowered s)).Bounded := by
  have ha := (cuts_only (s.alloc.usable.map₂ min s.alloc.allocation) s.alloc.usable Cls.all (lowered s)).alloc_eq
  rw [lowered_alloc] at ha
  refine ⟨fun c => ?_, fun c => ?_⟩
  · have hc := (h c).1
    rw [ha]
    simp only [PerClass_get_map₂]
    omega
  · have hc := (h c).2
    rw [ha]
    refine cuts_occupancy (by rw [lowered_alloc]) ?_
    rw [occupancy_congr (lowered_same s).stages, PerClass_get_map₂]
    by_cases hlt : min (s.alloc.usable.get c) (s.alloc.allocation.get c) < s.alloc.usable.get c
    · exact .inl ⟨Cls.mem_all c, hlt⟩
    · exact .inr (by omega)

theorem lowerIntents_bounded {s : State} (h : s.Announces) : (lowerIntents s).Bounded := by
  rw [lowerIntents_eq]
  split
  · exact cuts_lowered_bounded h
  · exact (demandDue_heat _).bounded (cuts_lowered_bounded h)

theorem lowerIntents_heat (s : State) : HeatKept s (lowerIntents s) := by
  refine .after (t := lowered s) (lowered_same s) ?_ fun h => lowerIntents_bounded h.announces
  rw [lowerIntents_eq]
  split
  · exact cuts_heat _ _ _ _
  · exact (cuts_heat _ _ _ _).trans (demandDue_heat _)

theorem raiseIntents_heat (s : State) : HeatKept s (raiseIntents s) := by
  have raised : ∀ u : State, SameStages s u → u.alloc.usable = s.alloc.usable → u.alloc.allocation = s.alloc.allocation →
      u.alloc.announced = s.alloc.announced.map₂ max s.alloc.allocation → HeatKept s u := fun u hs hu ha hn =>
    .after hs (.refl u) fun h => by
      refine ⟨fun c => ?_, fun c => ?_⟩
      · have hc := h.1 c
        rw [hu, ha, hn, PerClass_get_map₂]
        omega
      · rw [hu, occupancy_congr hs.stages]; exact h.2 c
  unfold raiseIntents
  dsimp only
  split
  · exact .refl s
  · refine HeatKept.trans (raised { (setAnnounced (s.alloc.announced.map₂ max s.alloc.allocation) s) with
      alloc := { (setAnnounced (s.alloc.announced.map₂ max s.alloc.allocation) s).alloc with
        raisePending := true, holdOff := .stopped } } {} rfl rfl rfl) (demandDue_heat _)

theorem recompute_heat (s : State) : HeatKept s (recompute s) := by
  have shares : ∀ u : State, SameStages s u → u.alloc.usable = s.alloc.usable → u.alloc.announced = s.alloc.announced →
      HeatKept s (raiseIntents (lowerIntents u)) := fun u hs hu hn =>
    .after hs ((lowerIntents_heat u).trans (raiseIntents_heat _)) fun h =>
      (raiseIntents_heat _).bounded (lowerIntents_bounded fun c => by
        rw [hu, hn, occupancy_congr hs.stages]
        exact h.announces c)
  unfold recompute
  dsimp only
  split
  · exact shares _ {} rfl rfl
  · have hr := recheck_only .defrostShort { s with alloc := { s.alloc with allocation := s.ownShare } }
    exact shares _ ⟨hr.stages_eq, hr.queue_eq, hr.fans_eq, by rw [hr.alloc_eq]⟩ (by rw [hr.alloc_eq]) (by rw [hr.alloc_eq])

theorem reformClaims_heat (s : State) : HeatKept s (reformClaims s) := by
  have announced := ((modOwn_heat (fun e => { e with claims := s.claimsNow }) s).trans (demandDue_heat _)).trans (recompute_heat _)
  unfold reformClaims
  dsimp only
  split
  · exact .refl s
  · split
    · exact announced
    · exact announced.trans (recheck_heat _ _)

/-! ### Sheds -/

/-- Where nothing heats and the usable intents are 0, the bounds hold. -/
theorem State.Cold.bounded {s : State} (h : s.Cold) (hu : s.alloc.usable = .const 0) : s.Bounded :=
  ⟨fun c => by rw [hu, PerClass_get_const]; exact ⟨Nat.zero_le _, Nat.zero_le _⟩,
    fun c => by rw [h.occupancy]; exact Nat.zero_le _⟩

/-- The intents of a shed at 0, before the allocation is compared with them (R89). -/
def zeroed (s : State) : State :=
  if (setUsable (.const 0) s).alloc.announced = .const 0 then setUsable (.const 0) s
  else demandDue (setAnnounced (.const 0) (setUsable (.const 0) s))

/-- The hold-off stopped and raise pending cleared (R89). -/
def disarmed (s : State) : State := s.modAlloc (fun a => { a with holdOff := .stopped, raisePending := false })

theorem shed_eq (s : State) : shed s = raiseIntents (disarmed (zeroed (shedStages s))) := rfl

theorem zeroed_same (s : State) : SameStages s (zeroed s) ∧ (zeroed s).alloc.usable = .const 0 := by
  unfold zeroed
  split
  · exact ⟨{}, rfl⟩
  · have h := demandDue_only (setAnnounced (.const 0) (setUsable (.const 0) s))
    exact ⟨⟨h.stages_eq, h.queue_eq, h.fans_eq, by rw [h.alloc_eq]; rfl⟩, by rw [h.alloc_eq]; rfl⟩

/-- A shed keeps the stages' invariants, and leaves no stage heating (R61, R89). -/
theorem shed_kept (s : State) : HeatKept s (shed s) ∧ (shed s).Cold := by
  obtain ⟨hsame, husable⟩ := zeroed_same (shedStages s)
  have hcold : (disarmed (zeroed (shedStages s))).Cold := fun i st hs =>
    shedStages_cold s i st ((stage?_congr hsame.stages i).symm.trans hs)
  have hraise := raiseIntents_heat (disarmed (zeroed (shedStages s)))
  have hrest : HeatKept (shedStages s) (raiseIntents (disarmed (zeroed (shedStages s)))) :=
    .after (t := disarmed (zeroed (shedStages s))) ⟨hsame.stages, hsame.queue, hsame.fans, hsame.sharing⟩ hraise
      fun _ => hraise.bounded (hcold.bounded husable)
  rw [shed_eq]
  exact ⟨(shedStages_heat s).trans hrest, hcold.cools hraise.cools⟩

theorem shed_heat (s : State) : HeatKept s (shed s) := (shed_kept s).1

/-- What ends in a shed keeps that stages are ENERGIZED only in ACTIVE, whatever the sharing state became before it. -/
theorem StagesKept.shed {s t : State} (h : StagesKept s t) : HeatKept s (shed t) :=
  ⟨h.trans (shed_heat t).toStagesKept, fun _ => (shed_kept t).2.activeOnly⟩

/-! ### Fans -/

/-- The fans' records change; none that is RUNNING leaves it. -/
theorem fansMove_heat {s t : State} (hs : t.stages = s.stages) (hq : t.queue = s.queue) (ha : t.alloc = s.alloc)
    (hf : ∀ f, s.fanRunning f = true → t.fanRunning f = true) : HeatKept s t where
  cools := (State.Thins.of_eq hs).cools
  sound := queueSound_congr hs hq
  proven := (State.Thins.of_eq hs).cools.proven hf
  bounded hb := by
    refine ⟨fun c => ?_, fun c => ?_⟩
    · rw [ha]; exact hb.1 c
    · rw [ha, occupancy_congr hs]; exact hb.2 c
  active := (State.Thins.of_eq hs).cools.active fun h => by rw [ha]; exact h

/-- One fan's record changes and its stages are taken off, so that it may have left RUNNING (R65). -/
theorem fanLoss_heat {s t : State} {f : FanId} (hs : t.stages = s.stages) (hq : t.queue = s.queue) (ha : t.alloc = s.alloc)
    (hf : ∀ f', f' ≠ f → s.fanRunning f' = true → t.fanRunning f' = true) : HeatKept s (blowerLoss f t) := by
  have hloss := blowerLoss_heat f t
  have hcools : s.Cools (blowerLoss f t) := (State.Thins.of_eq hs).cools.trans hloss.cools
  refine { cools := hcools, sound := fun h => hloss.sound (queueSound_congr hs hq h), proven := fun h => ?_,
           bounded := fun hb => hloss.bounded ?_, active := fun h => hloss.active ?_ }
  · refine BlowersProven_iff.2 fun i st ht hh => ?_
    obtain ⟨st', hs', hr⟩ := hcools i st ht
    have hne : st.owner.fan ≠ f := fun he => by rw [blowerLoss_cold ht he] at hh; cases hh
    rw [fanRunning_congr (blowerLoss_only f t).fans_eq]
    refine hf _ hne ?_
    rw [hr.owner]
    exact BlowersProven_iff.1 h i st' hs' (hr.heating hh)
  · exact ⟨fun c => by rw [ha]; exact hb.1 c, fun c => by rw [ha, occupancy_congr hs]; exact hb.2 c⟩
  · exact (State.Thins.of_eq hs).cools.active (fun h => by rw [ha]; exact h) h

theorem fanRunning_of_fan? {s t : State} {f : FanId} (h : t.fan? f = s.fan? f) : t.fanRunning f = s.fanRunning f := by
  unfold State.fanRunning
  rw [h]

/-- A fan's record changes; where it is RUNNING it stays so. -/
theorem modFan_heat {f : FanId} {g : Blower → Blower} (hname : ∀ b, (g b).fan = b.fan) {s : State}
    (h : ∀ b, s.fan? f = some b → b.state = .running → (g b).state = .running) : HeatKept s (s.modFan f g) := by
  refine fansMove_heat rfl rfl rfl fun f' hr => ?_
  by_cases he : f' = f
  · subst he
    cases hb : s.fan? f' with
    | none => simp [State.fanRunning, hb] at hr
    | some b =>
      have hrun : b.state = .running := by simpa [State.fanRunning, hb] using hr
      simp [State.fanRunning, fan?_modFan s f' f' hname, hb, h b hb hrun]
  · rw [fanRunning_of_fan? (s := s) (by rw [fan?_modFan s f f' hname, if_neg he])]
    exact hr

theorem commandFan_heat (f : FanId) (level : Nat) (s : State) : HeatKept s (commandFan f level s) := by
  have other : ∀ f', f' ≠ f → (commandFan f level s).fanRunning f' = s.fanRunning f' := fun f' hne => by
    refine fanRunning_of_fan? ?_
    rw [commandFan_fan?, if_neg hne]
  have setLevel : HeatKept s (s.modFan f (fun b => { b with level := level })) :=
    modFan_heat (g := fun b => { b with level := level }) (fun _ => rfl) fun _ _ h => h
  unfold commandFan at other ⊢
  cases hb : s.fan? f with
  | none => exact .refl s
  | some b =>
    simp only [hb] at other ⊢
    split
    · exact .refl s
    · next hlevel =>
      rw [if_neg hlevel] at other
      split
      · cases hst : b.state with
        | stopped =>
          refine setLevel.trans (modFan_heat (g := Blower.starting s.clock) (fun _ => rfl) fun b' hb' hr => ?_)
          rw [fan?_modFan _ _ _ (by exact fun _ => rfl), if_pos rfl, hb] at hb'
          cases hb'
          rw [hst] at hr
          cases hr
        | starting => exact setLevel
        | running => exact setLevel
        | failed => exact setLevel
      · next hon =>
        rw [if_neg hon] at other
        by_cases hoff : level = 0
        · rw [if_pos hoff] at other ⊢
          have hr := recheck_only .blowerFailed ((s.modFan f (fun b => { b with level := level })).modFan f Blower.stop)
          by_cases hrun : b.state = .running
          · rw [if_pos hrun] at other ⊢
            refine fanLoss_heat hr.stages_eq hr.queue_eq hr.alloc_eq fun f' hne hf => ?_
            rw [← fanRunning_congr (blowerLoss_only f _).fans_eq, other f' hne]
            exact hf
          · rw [if_neg hrun] at other ⊢
            refine fansMove_heat hr.stages_eq hr.queue_eq hr.alloc_eq fun f' hf => ?_
            by_cases hne : f' = f
            · subst hne
              simp [State.fanRunning, hb, hrun] at hf
            · rw [other f' hne]
              exact hf
        · rw [if_neg hoff]
          exact setLevel

theorem rechooseZoneFan_heat (z : Fin 4) (s : State) : HeatKept s (rechooseZoneFan z s) := by
  unfold rechooseZoneFan
  split
  · exact commandFan_heat _ _ s
  · exact .refl s

theorem rechooseZoneFans_heat (s : State) : HeatKept s (rechooseZoneFans s) :=
  (((rechooseZoneFan_heat 0 s).trans (rechooseZoneFan_heat 1 _)).trans (rechooseZoneFan_heat 2 _)).trans
    (rechooseZoneFan_heat 3 _)

theorem handDemand_heat (z : Fin 4) (u : Nat) (s : State) : HeatKept s (handDemand z u s) :=
  (modFan_heat (g := fun b => { b with demandLevel := demandLevelAfter b.demandLevel u }) (fun _ => rfl)
    fun _ _ h => h).trans (rechooseZoneFan_heat z _)

/-- The fans but one stand after a change of it and a recheck. -/
theorem fanRunning_recheck_modFan {f f' : FanId} {g : Blower → Blower} (hname : ∀ b, (g b).fan = b.fan) (c : Condition) {s : State}
    (hne : f' ≠ f) : (recheck c (s.modFan f g)).fanRunning f' = s.fanRunning f' := by
  refine fanRunning_of_fan? ?_
  rw [fan?_congr (recheck_only c _).fans_eq, fan?_modFan s f f' hname, if_neg hne]

theorem failFan_heat (f : FanId) (s : State) : HeatKept s (failFan f s) := by
  have hr := recheck_only .blowerFailed (s.modFan f (Blower.fail s.clock))
  have other : ∀ f', f' ≠ f → s.fanRunning f' = true →
      (recheck .blowerFailed (s.modFan f (Blower.fail s.clock))).fanRunning f' = true := fun f' hne hf => by
    rw [fanRunning_recheck_modFan (by exact fun _ => rfl) _ hne]; exact hf
  unfold failFan
  dsimp only
  split
  · exact fanLoss_heat hr.stages_eq hr.queue_eq hr.alloc_eq other
  · next hwas =>
    refine fansMove_heat hr.stages_eq hr.queue_eq hr.alloc_eq fun f' hf => ?_
    by_cases hne : f' = f
    · subst hne; exact absurd hf hwas
    · exact other f' hne hf

theorem proveFan_heat (f : FanId) (s : State) : HeatKept s (proveFan f s) :=
  ((modFan_heat (g := fun b => { b with state := .running, start := .stopped, retrying := false }) (fun _ => rfl)
    fun _ _ _ => rfl).trans (recheck_heat _ _)).trans (oweAttempt_heat _)

theorem examineFan_heat (f : FanId) (s : State) : HeatKept s (examineFan f s) := by
  unfold examineFan
  dsimp only
  refine HeatKept.trans ?_ (modFan_heat (by exact fun _ => rfl) fun _ _ h => h)
  split
  · split
    · split
      · exact proveFan_heat f s
      · exact .refl s
    · split
      · exact .refl s
      · exact failFan_heat f s
    · exact .refl s
    · exact .refl s
  · exact .refl s

theorem windowExpiry_heat (s : State) : HeatKept s (windowExpiry s) :=
  HeatKept.trans (t := { s with windowTimer := s.windowTimer.next 500 }) (SameHeat.kept {})
    (.foldl (fun s b => examineFan_heat b.fan s) s.fans _)

theorem startExpiry_heat (f : FanId) (s : State) : HeatKept s (startExpiry f s) := by
  have h : HeatKept s (s.modFan f (fun b => { b with start := .stopped })) :=
    modFan_heat (g := fun b => { b with start := .stopped }) (fun _ => rfl) fun _ _ h => h
  unfold startExpiry
  dsimp only
  split
  · split
    · exact h.trans (failFan_heat f _)
    · exact h
  · exact h

theorem retryExpiry_heat (f : FanId) (s : State) : HeatKept s (retryExpiry f s) :=
  modFan_heat (g := fun b => if b.state = .failed then b.starting s.clock else { b with retry := .stopped })
    (fun b => by split <;> rfl) fun b _ h => by
      rw [if_neg (by rw [h]; exact fun h => by cases h)]
      exact h

theorem sampleTach_heat (tachs : BitVec 8) (s : State) (f : FanId) : HeatKept s (sampleTach tachs s f) := by
  unfold sampleTach
  split
  · next b _ =>
    dsimp only
    have filtered : HeatKept s (s.modFan f (fun b' => { b' with filter := (b.filter.sample 2 (tachs.getLsbD f.pin)).1 })) :=
      modFan_heat (g := fun b' => { b' with filter := (b.filter.sample 2 (tachs.getLsbD f.pin)).1 }) (fun _ => rfl)
        fun _ _ h => h
    split
    · exact filtered.trans (modFan_heat (g := fun b => { b with tach := capNat 255 (b.tach + 1) }) (fun _ => rfl)
        fun _ _ h => h)
    · exact filtered
  · exact .refl s

/-! ### Sharing states -/

/-- The sharing state changed, and the conditions that follow it examined (R90, R118). -/
def sharingTold (new : Sharing) (s : State) : State :=
  recheck .duplicateStation (recheck .txFailed (recheck .powerSilent (s.modAlloc (fun a => { a with sharing := new }))))

/-- The attempt that an entry into ACTIVE owes (R55). -/
def sharingOwed (new : Sharing) (s : State) : State :=
  if new = .active then oweAttempt (sharingTold new s) else sharingTold new s

theorem enterSharing_eq (new : Sharing) (s : State) : enterSharing new s =
    if (s.alloc.sharing = .joining) ≠ (new = .joining) then rechooseZoneFans (sharingOwed new s) else sharingOwed new s := rfl

theorem sharingTold_only (new : Sharing) (s : State) :
    CondOnly (s.modAlloc (fun a => { a with sharing := new })) (sharingTold new s) :=
  ((recheck_only _ _).trans (recheck_only _ _)).trans (recheck_only _ _)

/-- A change of the sharing state, with what follows it. -/
theorem enterSharing_stages (new : Sharing) (s : State) : StagesKept s (enterSharing new s) := by
  have entered : StagesKept s (s.modAlloc (fun a => { a with sharing := new })) :=
    { cools := (State.Thins.of_eq rfl).cools, sound := queueSound_congr rfl rfl
      proven := (State.Thins.of_eq rfl).cools.proven fun _ h => h
      bounded := fun h => h }
  have told := (sharingTold_only new s).heat
  have owed : HeatKept (s.modAlloc (fun a => { a with sharing := new })) (sharingOwed new s) := by
    unfold sharingOwed
    split
    · exact told.trans (oweAttempt_heat _)
    · exact told
  rw [enterSharing_eq]
  split
  · exact entered.trans (owed.trans (rechooseZoneFans_heat _)).toStagesKept
  · exact entered.trans owed.toStagesKept

theorem enterSharing_sharing (new : Sharing) (s : State) : (enterSharing new s).alloc.sharing = new := by
  have told : (sharingTold new s).alloc.sharing = new := by rw [(sharingTold_only new s).alloc_eq]; rfl
  have owed : (sharingOwed new s).alloc.sharing = new := by unfold sharingOwed; split <;> exact told
  rw [enterSharing_eq]
  split
  · rw [(rechooseZoneFans_only _).alloc_eq]; exact owed
  · exact owed

/-- ACTIVE is entered: stages may be ENERGIZED in it. -/
theorem enterActive_heat (s : State) : HeatKept s (enterSharing .active s) :=
  ⟨enterSharing_stages _ s, fun _ hne => absurd (enterSharing_sharing _ s) hne⟩

/-- From a state other than ACTIVE no stage is ENERGIZED, and none is in the state entered. -/
theorem enterSharing_heat {new : Sharing} {s : State} (h : s.alloc.sharing ≠ .active) : HeatKept s (enterSharing new s) :=
  ⟨enterSharing_stages new s, (enterSharing_stages new s).cools.active fun ha => absurd ha h⟩

theorem stopGap_heat (s : State) : HeatKept s (stopGap s) := SameHeat.kept {}

theorem enterSilent_heat (s : State) : HeatKept s (enterSilent s) :=
  ((stopGap_heat s).toStagesKept.trans (enterSharing_stages .silent _)).shed

theorem enterMuted_heat (s : State) : HeatKept s (enterMuted s) :=
  ((stopGap_heat s).toStagesKept.trans (enterSharing_stages .muted _)).shed

theorem enterIsolated_heat (s : State) : HeatKept s (enterIsolated s) :=
  (((stopGap_heat s).toStagesKept.trans (enterSharing_stages .isolated _)).trans (reformClaims_heat _).toStagesKept).shed

theorem enterGapHold_heat (s : State) : HeatKept s (enterGapHold s) := by
  have hold : HeatKept (enterSharing .gapHold s) ((enterSharing .gapHold s).modAlloc (fun a => { a with gap := s.timer 3000 })) :=
    SameHeat.kept {}
  obtain ⟨hk, hactive⟩ := suspendAll_kept ((enterSharing .gapHold s).modAlloc (fun a => { a with gap := s.timer 3000 }))
  exact ⟨((enterSharing_stages .gapHold s).trans hold.toStagesKept).trans hk.toStagesKept, fun _ => hactive⟩

theorem joinExit_heat (s : State) : HeatKept s (joinExit s) := by
  unfold joinExit
  split
  · split
    · exact enterSilent_heat s
    · exact enterActive_heat s
  · exact .refl s

theorem powerOnSharing_heat (a b : Line) (s : State) : HeatKept s (powerOnSharing a b s) := by
  have sheds : ∀ (p : Prop) [Decidable p], HeatKept s (if p then shed s else s) := fun p _ => by
    split
    · exact shed_heat s
    · exact .refl s
  unfold powerOnSharing
  dsimp only
  split
  · exact .refl s
  · exact sheds _
  · exact (sheds _).trans (joinExit_heat _)
  · exact (sheds _).trans (enterActive_heat _)
  · split
    · exact enterGapHold_heat s
    · exact sheds _
  · split
    · exact (stopGap_heat s).trans (enterActive_heat _)
    · exact ((stopGap_heat s).trans (shed_heat _)).trans (enterActive_heat _)
    · exact .refl s
    · exact .refl s

theorem takePower_heat (b : PowerBody) (s : State) : HeatKept s (takePower b s) := by
  have heard : HeatKept s (s.modAlloc (fun a => { a with silence := s.timer 500, powerHeard := true })) := SameHeat.kept {}
  have figures : ∀ (n m : Nat) (l : Line) (u : State),
      HeatKept u (u.modAlloc (fun a => { a with budget := n, surplus := m, line := l })) := fun _ _ _ _ => SameHeat.kept {}
  unfold takePower
  split
  · exact .refl s
  · next line _ =>
    have taken := heard.trans (powerOnSharing_heat s.alloc.line line _)
    dsimp only
    split
    · exact taken.trans (figures _ _ _ _)
    · exact (taken.trans (figures _ _ _ _)).trans (recompute_heat _)

theorem silenceExpiry_heat (s : State) : HeatKept s (silenceExpiry s) := by
  have h : HeatKept s (recompute (s.modAlloc (fun a =>
      { a with silence := .expired, budget := 0, surplus := 0, line := .none }))) :=
    HeatKept.trans (SameHeat.kept {}) (recompute_heat _)
  unfold silenceExpiry
  dsimp only
  split
  · exact h.trans (enterSilent_heat _)
  · exact h.trans (enterSilent_heat _)
  all_goals exact h

theorem gapExpiry_heat (s : State) : HeatKept s (gapExpiry s) := by
  unfold gapExpiry
  split
  · exact ((stopGap_heat s).trans (shed_heat _)).trans (enterActive_heat _)
  · exact stopGap_heat s

/-- The hold-off's expiry raises the usable intents to the announced, as far as the allocation goes (R77). -/
theorem holdOffExpiry_heat (s : State) : HeatKept s (holdOffExpiry s) := by
  have raised : HeatKept s (setUsable (s.alloc.announced.map₂ min s.alloc.allocation)
      (s.modAlloc (fun a => { a with holdOff := .stopped }))) :=
    .after {} (.refl _) fun h => by
      refine ⟨fun c => ?_, fun c => ?_⟩
      · simp only [setUsable_alloc, State.modAlloc, PerClass_get_map₂]
        omega
      · have hc := h.1 c
        refine Nat.le_trans (h.2 c) ?_
        simp only [setUsable_alloc, PerClass_get_map₂]
        omega
  unfold holdOffExpiry
  dsimp only
  split
  · exact raised.trans (oweAttempt_heat _)
  · exact raised

theorem demandConfirmation_heat (p : PerClass Byte) (s : State) : HeatKept s (demandConfirmation p s) := by
  unfold demandConfirmation
  dsimp only
  refine SameHeat.kept { sharing := ?_, usable := ?_, announced := ?_, allocation := ?_ } <;>
    (unfold State.modAlloc; dsimp only; split <;> rfl)

theorem mutedExit_heat (s : State) : HeatKept s (mutedExit s) := by
  unfold mutedExit
  split
  · next h =>
    split
    · split
      · exact enterSilent_heat s
      · exact enterActive_heat s
    · exact enterSharing_heat (by rw [h]; exact fun h => by cases h)
  · exact .refl s

theorem confirmation_heat (f : Frame) (s : State) : HeatKept s (confirmation f s) := by
  unfold confirmation
  dsimp only
  refine HeatKept.trans (HeatKept.trans ?_ (mutedExit_heat _)) (joinExit_heat _)
  split
  · exact demandConfirmation_heat _ s
  · exact .refl s

theorem failureExpiry_heat (s : State) : HeatKept s (failureExpiry s) := by
  have h : HeatKept s (s.modLink (fun l => { l with failure := .expired })) := SameHeat.kept {}
  unfold failureExpiry transmitFailure
  split
  · exact h.trans (enterMuted_heat _)
  · exact h.trans (enterMuted_heat _)
  · exact h.trans (enterMuted_heat _)
  · exact h.trans (enterMuted_heat _)
  · exact h
  · exact h

end Sys2Proof.Machine
end

section
/-! What closes a step switches at most one stage on, and only where the stages' invariants let it; a reset leaves every stage
IDLE. -/

namespace Sys2Proof.Machine

/-! ### The admission attempt -/

/-- The stage at `j` is QUEUED in the class, its blower RUNNING, and its size fits the room (R54). -/
def State.Able (s : State) (c : Cls) (j : Nat) : Prop := ∃ w, s.stage? j = some w ∧ w.state = .queued ∧ w.cls = some c
  ∧ s.fanRunning w.owner.fan = true ∧ s.occupancy c + w.size ≤ s.alloc.usable.get c

theorem admissible_iff {s : State} {c : Cls} {j : Nat} : s.admissible c j = true ↔ s.Able c j := by
  unfold State.admissible State.Able
  cases s.stage? j with
  | none => simp
  | some st => simp [Stage.inClass, State.fits, and_assoc]

/-- The attempt admits only what can be admitted. -/
theorem firstAdmissible_able {s : State} {i : Nat} (h : s.firstAdmissible = some i) :
    ∃ c, i ∈ s.queue.get c ∧ s.Able c i := by
  obtain ⟨c, -, hc⟩ := List.mem_flatMap.1 (List.mem_of_mem_head? h)
  obtain ⟨hm, hp⟩ := List.mem_filter.1 hc
  exact ⟨c, hm, admissible_iff.1 hp⟩

/-- What an attempt makes of a state: nothing, a resumption, or the admission of a stage that can be admitted (R54). -/
inductive AttemptMakes (s t : State) : Prop
  | nothing (h : t = s)
  | resumes (i : Nat) (st : Stage) (active : s.alloc.sharing = .active) (hs : s.stage? i = some st) (hst : st.state = .suspended)
      (h : t = resume i s)
  | admits (i : Nat) (c : Cls) (active : s.alloc.sharing = .active) (first : s.firstAdmissible = some i) (able : s.Able c i)
      (h : t = admitStage i s)

theorem admissionAttempt_makes (s : State) : AttemptMakes s (admissionAttempt s) := by
  unfold admissionAttempt
  split
  · next hactive =>
    split
    · next i hi =>
      obtain ⟨st, hs, hst⟩ := firstSuspended_held hi
      exact .resumes i st hactive.1 hs hst rfl
    · split
      · next i hi =>
        obtain ⟨c, -, hable⟩ := firstAdmissible_able hi
        exact .admits i c hactive.1 hi hable rfl
      · exact .nothing rfl
  · exact .nothing rfl

/-- The rewriting that closes a step touches neither stages nor pause (R66, R120). -/
theorem closing_same (v : State) : SameHeat v (driveOutputs (noteDraw v)) ∧ (driveOutputs (noteDraw v)).pacing = v.pacing
    ∧ (driveOutputs (noteDraw v)).seq = v.seq ∧ (driveOutputs (noteDraw v)).clock = v.clock := ⟨{}, rfl, rfl, rfl⟩

theorem settled_same (s : State) : SameHeat s (noteDraw { s with attemptDue := false }) := {}

/-- The closing of a step, apart from what it rewrites, is an attempt. -/
theorem finish_makes (s : State) : ∃ u v, SameHeat s u ∧ AttemptMakes u v ∧ SameHeat v (finish s)
    ∧ (finish s).pacing = v.pacing ∧ (finish s).seq = v.seq ∧ (finish s).clock = v.clock := by
  by_cases hdue : s.attemptDue = true
  · have hpay : payAttempt s = admissionAttempt (noteDraw { s with attemptDue := false }) := by
      unfold payAttempt; rw [if_pos hdue]
    have hfinish : finish s = driveOutputs (noteDraw (admissionAttempt (noteDraw { s with attemptDue := false }))) := by
      rw [← hpay]; rfl
    rw [hfinish]
    exact ⟨_, _, settled_same s, admissionAttempt_makes _, closing_same _⟩
  · have hfinish : finish s = driveOutputs (noteDraw s) := by
      unfold finish; rw [payAttempt_none s (by simpa using hdue)]
    rw [hfinish]
    exact ⟨s, s, {}, .nothing rfl, closing_same s⟩

/-- The stage at `i` is switched on from not heating, with its class kept; every other stage stands. -/
structure SwitchesOn (s t : State) (i : Nat) : Prop where
  others : ∀ j, j ≠ i → t.stage? j = s.stage? j
  stage : ∃ st st', s.stage? i = some st ∧ t.stage? i = some st' ∧ st'.owner = st.owner ∧ st'.size = st.size
    ∧ st'.cls = st.cls ∧ st'.state = .energized ∧ st'.wear = wearUp st.wear

theorem modStage_switchesOn {s : State} {i : Nat} {st : Stage} (hs : s.stage? i = some st) {g : Stage → Stage}
    (hg : (g st).owner = st.owner ∧ (g st).size = st.size ∧ (g st).cls = st.cls ∧ (g st).state = .energized
      ∧ (g st).wear = wearUp st.wear) {t : State} (ht : t.stages = (modStage i g s).stages) : SwitchesOn s t i where
  others j hj := (stage?_congr ht j).trans (stage?_modStage_other g s hj)
  stage := by
    obtain ⟨v, hv⟩ := refeedback_eq s.clock st (g st)
    refine ⟨st, _, hs, (stage?_congr ht i).trans (stage?_modStage_same hs g), ?_⟩
    rw [hv]
    exact hg

theorem resume_switchesOn {s : State} {i : Nat} {st : Stage} (hs : s.stage? i = some st) : SwitchesOn s (resume i s) i :=
  modStage_switchesOn hs ⟨rfl, rfl, rfl, rfl, rfl⟩ (resume_stages i s)

theorem admit_switchesOn {s : State} {i : Nat} {st : Stage} (hs : s.stage? i = some st) : SwitchesOn s (admitStage i s) i :=
  modStage_switchesOn hs ⟨rfl, rfl, rfl, rfl, rfl⟩ (admitStage_stages i s)

/-! ### The invariants at the attempt -/

/-- The invariants of the stages and their queue, each kept where it held. -/
structure HeatSafe (s t : State) : Prop where
  sound : s.QueueSound → t.QueueSound
  proven : s.BlowersProven → t.BlowersProven
  bounded : s.Bounded → t.Bounded
  active : s.ActiveOnly → t.ActiveOnly

theorem HeatKept.safe {s t : State} (h : HeatKept s t) : HeatSafe s t := ⟨h.sound, h.proven, h.bounded, h.active⟩

theorem HeatSafe.trans {s t u : State} (h₁ : HeatSafe s t) (h₂ : HeatSafe t u) : HeatSafe s u :=
  ⟨fun h => h₂.sound (h₁.sound h), fun h => h₂.proven (h₁.proven h), fun h => h₂.bounded (h₁.bounded h),
    fun h => h₂.active (h₁.active h)⟩

/-- A stage switched on in ACTIVE over a running blower keeps the invariants of stages, blowers and ACTIVE. -/
theorem SwitchesOn.proven {s t : State} {i : Nat} (h : SwitchesOn s t i) (hf : t.fans = s.fans)
    (hrun : ∀ st, s.stage? i = some st → s.BlowersProven → s.fanRunning st.owner.fan = true) (hp : s.BlowersProven) :
    t.BlowersProven := BlowersProven_iff.2 fun j x hx hh => by
  rw [fanRunning_congr hf]
  by_cases hj : j = i
  · subst hj
    obtain ⟨st, st', hs, ht, ho, -⟩ := h.stage
    rw [ht] at hx
    cases hx
    rw [ho]
    exact hrun st hs hp
  · exact BlowersProven_iff.1 hp j x ((h.others j hj).symm.trans hx) hh

theorem resume_safe {s : State} {i : Nat} {st : Stage} (hactive : s.alloc.sharing = .active) (hs : s.stage? i = some st)
    (hst : st.state = .suspended) : HeatSafe s (resume i s) where
  sound h := by
    refine queueSound_congr (resume_stages i s) rfl (modStage_sound (g := Stage.resumed s.clock s.sliceMs) h fun st' hs' => ?_)
    rw [hs] at hs'
    cases hs'
    exact ⟨by rw [hst]; exact StageState.noConfusion, StageState.noConfusion⟩
  proven h := (resume_switchesOn hs).proven rfl (fun st' hs' hp => by
    rw [hs] at hs'
    cases hs'
    exact BlowersProven_iff.1 hp i st hs ((Stage.heating_iff st).2 (.inr hst))) h
  bounded h := by
    refine ⟨h.1, fun c => Nat.le_trans (Nat.le_of_eq ?_) (h.2 c)⟩
    have hocc := occupancy_modStage (g := Stage.resumed s.clock s.sliceMs) hs rfl c
    have hwas : st.heating = true := (Stage.heating_iff st).2 (.inr hst)
    have hnow : (st.resumed s.clock s.sliceMs).heating = true := rfl
    have hcls : (st.resumed s.clock s.sliceMs).inClass c = st.inClass c := rfl
    rw [hwas, hnow, hcls] at hocc
    rw [occupancy_congr (resume_stages i s)]
    omega
  active _ := ActiveOnly_iff.2 fun hne => absurd hactive hne

theorem admitStage_safe {s : State} {i : Nat} {c : Cls} (hactive : s.alloc.sharing = .active) (h : s.Able c i) :
    HeatSafe s (admitStage i s) := by
  obtain ⟨st, hs, hst, hc, hrun, hroom⟩ := h
  refine { sound := fun h => ?_, proven := fun h => ?_, bounded := fun h => ?_,
           active := fun _ => ActiveOnly_iff.2 fun hne => absurd hactive hne }
  · have hsw := admit_switchesOn hs
    obtain ⟨_, st', -, ht, -, -, -, he, -⟩ := hsw.stage
    refine h.change (i := i) hsw.others (fun c' j hj => ?_) (queueNodup_unqueue (fun c => (h c).1) i)
      (lined_of_not_queued (fun c' hm => ?_) fun x hx => ?_)
    · rw [admitStage_queue, List.mem_filter]; simp [hj]
    · rw [admitStage_queue, List.mem_filter] at hm; simp at hm
    · rw [ht] at hx; cases hx; rw [he]; exact StageState.noConfusion
  · exact (admit_switchesOn hs).proven rfl (fun st' hs' _ => by rw [hs] at hs'; cases hs'; exact hrun) h
  · refine ⟨h.1, fun c' => ?_⟩
    have hocc := occupancy_modStage (g := Stage.admitted s.clock s.sliceMs) hs rfl c'
    have hnow : (st.admitted s.clock s.sliceMs).heating = true := rfl
    have hcls : (st.admitted s.clock s.sliceMs).inClass c' = st.inClass c' := rfl
    have hwas : st.heating = false := by simp [Stage.heating, hst]
    rw [hwas, hnow, hcls] at hocc
    have hle := h.2 c'
    change (admitStage i s).occupancy c' ≤ s.alloc.usable.get c'
    rw [occupancy_congr (admitStage_stages i s)]
    by_cases he : c = c'
    · subst he
      simp [Stage.inClass, hc] at hocc
      omega
    · simp [Stage.inClass, hc, he] at hocc
      omega

theorem AttemptMakes.safe {s t : State} (h : AttemptMakes s t) : HeatSafe s t := by
  rcases h with rfl | ⟨i, st, hactive, hs, hst, rfl⟩ | ⟨i, c, hactive, -, hable, rfl⟩
  · exact (HeatKept.refl _).safe
  · exact resume_safe hactive hs hst
  · exact admitStage_safe hactive hable

/-- What closes a step keeps the invariants. -/
theorem finish_safe (s : State) : HeatSafe s (finish s) := by
  obtain ⟨u, v, hu, hmake, hv, -⟩ := finish_makes s
  exact (hu.kept.safe.trans hmake.safe).trans hv.kept.safe

/-! ### Resets -/

/-- Every stage IDLE, the queue empty and the usable intents 0. -/
structure State.Unheated (s : State) : Prop where
  idle : ∀ i st, s.stage? i = some st → st.state = .idle
  queue : s.queue = .const []
  usable : s.alloc.usable = .const 0

theorem State.Unheated.cold {s : State} (h : s.Unheated) : s.Cold := fun i st hs => by simp [Stage.heating, h.idle i st hs]

theorem State.Unheated.sound {s : State} (h : s.Unheated) : s.QueueSound := fun c => by
  rw [h.queue, PerClass_get_const]
  refine ⟨.nil, fun i => iff_of_false List.not_mem_nil ?_⟩
  rintro ⟨st, hs, hq, -⟩
  rw [h.idle i st hs] at hq
  cases hq

theorem State.Unheated.safe {s t : State} (h : t.Unheated) : HeatSafe s t :=
  ⟨fun _ => h.sound, fun _ => h.cold.blowersProven, fun _ => h.cold.bounded h.usable, fun _ => h.cold.activeOnly⟩

theorem keepWear_idle {l : List Stage} (h : ∀ st ∈ l, st.state = .idle) (old : List Stage) :
    ∀ st ∈ keepWear old l, st.state = .idle := by
  induction l generalizing old with
  | nil => cases old <;> exact h
  | cons x l ih =>
    cases old with
    | nil => exact h
    | cons y olds =>
      intro st hm
      unfold keepWear at hm
      rcases List.mem_cons.1 hm with rfl | hm
      · exact h x (List.mem_cons_self ..)
      · exact ih (fun z hz => h z (List.mem_cons_of_mem _ hz)) olds st hm

theorem stageTable_idle {c : Image} {cab : Bool} : ∀ st ∈ stageTable c cab, st.state = .idle := by
  have own : ∀ o n size, ∀ st ∈ ownerStages o n size, st.state = .idle := fun o n size st hm => by
    obtain ⟨i, -, rfl⟩ := List.mem_map.1 hm
    rfl
  intro st hm
  rcases List.mem_append.1 hm with hm | hm
  · rcases List.mem_append.1 hm with hm | hm
    · obtain ⟨p, -, hm⟩ := List.mem_flatMap.1 hm
      exact own _ _ _ st hm
    · obtain ⟨p, -, hm⟩ := List.mem_flatMap.1 hm
      exact own _ _ _ st hm
  · split at hm
    · exact own _ _ _ st hm
    · cases hm

/-- A reset of the blocks leaves no stage heating, and owes no attempt (R164). -/
theorem finish_completeReset_unheated (warm : Bool) (s : State) : (finish (completeReset warm s)).Unheated := by
  have hcond := foldl_recheck_only Condition.all (resetBlocks warm s)
  have hstages : (resetBlocks warm s).stages = keepWear s.stages (stageTable s.config s.straps.cab) := rfl
  have hqueue : (resetBlocks warm s).queue = .const [] := rfl
  have husable : (resetBlocks warm s).alloc.usable = .const 0 := rfl
  have hdue : (resetBlocks warm s).attemptDue = false := rfl
  rw [completeReset_eq]
  unfold reevaluateFlags
  generalize Condition.all.foldl (fun s c => recheck c s) (resetBlocks warm s) = u at hcond
  obtain ⟨v, l, o, hfin⟩ := finish_frame_of_settled (hcond.attemptDue_eq.trans hdue)
  rw [hfin]
  refine ⟨fun i st hs => ?_, hcond.queue_eq.trans hqueue, ?_⟩
  · have hs' : (resetBlocks warm s).stage? i = some st := (stage?_congr hcond.stages_eq i).symm.trans hs
    rw [State.stage?, hstages] at hs'
    exact keepWear_idle stageTable_idle _ st (List.mem_of_getElem? hs')
  · change u.alloc.usable = _
    rw [hcond.alloc_eq, husable]

end Sys2Proof.Machine
end

section
/-! Every command keeps the stages' invariants up to what closes its step: doors and curtains, zones, the defrost controller,
the overrides, the view, the inputs, the link and the service responder. -/

namespace Sys2Proof.Machine

/-- A change of records that the stages do not rest on. -/
theorem same_heat {s t : State} (h : SameHeat s t) : HeatKept s t := h.kept

theorem modDoor_heat (d : Fin 3) (g : Door → Door) (s : State) : HeatKept s (s.modDoor d g) := same_heat {}

theorem modZone_heat (z : Fin 4) (g : Zone → Zone) (s : State) : HeatKept s (s.modZone z g) := same_heat {}

theorem mapDrafts_heat (g : Nat → List Draft → List Draft) (s : State) : HeatKept s (s.mapDrafts g) := same_heat {}

theorem modDefrost_heat (g : Defrost → Defrost) (s : State) : HeatKept s (s.modDefrost g) := same_heat {}

theorem modLink_heat (g : Link → Link) (s : State) : HeatKept s (s.modLink g) := same_heat {}

theorem modEntry_heat (i : Station) (g : Entry → Entry) (s : State) : HeatKept s (s.modEntry i g) := same_heat {}

theorem noticeDamper_heat (s : State) : HeatKept s (noticeDamper s) := (noticeDamper_only s).heat

theorem retarget_heat (s : State) : HeatKept s (retarget s) := (retarget_only s).heat

theorem modDamper_heat (g : Damper → Damper) (s : State) : HeatKept s (s.modDamper g) := same_heat {}

/-! ### Curtains and doors -/

theorem handCurtain_heat (d : Fin 3) (s : State) : HeatKept s (handCurtain d s) :=
  ((handOffSingle_heat _ _ _ s).trans (commandFan_heat _ _ _)).trans (reformClaims_heat _)

theorem setCurtain_heat (d : Fin 3) (c : Curtain) (timer : Timer) (s : State) : HeatKept s (setCurtain d c timer s) := by
  unfold setCurtain
  split
  · split
    · exact .refl s
    · dsimp only
      split
      · exact modDoor_heat d _ s
      · exact (modDoor_heat d _ s).trans (handCurtain_heat d _)
  · exact .refl s

theorem barCurtain_heat (d : Fin 3) (s : State) : HeatKept s (barCurtain d s) := by
  unfold barCurtain
  split
  · split
    · exact setCurtain_heat _ _ _ s
    · exact .refl s
  · exact .refl s

theorem ventCurtain_heat (d : Fin 3) (s : State) : HeatKept s (ventCurtain d s) := by
  unfold ventCurtain
  split
  · split
    · exact setCurtain_heat _ _ _ s
    · exact setCurtain_heat _ _ _ s
    · exact .refl s
    · exact .refl s
  · exact .refl s

theorem ventCurtains_heat (s : State) : HeatKept s (ventCurtains s) :=
  ((ventCurtain_heat 0 s).trans (ventCurtain_heat 1 _)).trans (ventCurtain_heat 2 _)

theorem layoverCurtain_heat (d : Fin 3) (s : State) : HeatKept s (layoverCurtain d s) := by
  unfold layoverCurtain
  split
  · split
    · exact barCurtain_heat _ s
    · exact .refl s
  · exact .refl s

theorem layoverCurtains_heat (s : State) : HeatKept s (layoverCurtains s) :=
  ((layoverCurtain_heat 0 s).trans (layoverCurtain_heat 1 _)).trans (layoverCurtain_heat 2 _)

theorem curtainOpened_heat (d : Fin 3) (c : Curtain) (s : State) : HeatKept s (curtainOpened d c s) := by
  unfold curtainOpened
  split
  · exact setCurtain_heat _ _ _ s
  · split
    · exact setCurtain_heat _ _ _ s
    · exact setCurtain_heat _ _ _ s
    · exact .refl s
    · exact .refl s

theorem curtainClosed_heat (d : Fin 3) (c : Curtain) (n : Nat) (s : State) : HeatKept s (curtainClosed d c n s) := by
  unfold curtainClosed
  split
  · split
    · exact setCurtain_heat _ _ _ s
    · exact setCurtain_heat _ _ _ s
  · exact setCurtain_heat _ _ _ s
  · exact .refl s
  · exact .refl s

theorem announceDoor_heat (d : Fin 3) (g : DoorCfg) (o : Bool) (w : Nat) (s : State) : HeatKept s (announceDoor d g o w s) :=
  (queueDoor_only _ s).heat

theorem acceptedOpen_heat (d : Fin 3) (s : State) : HeatKept s (acceptedOpen d s) := by
  unfold acceptedOpen
  split
  · split
    · exact ((((modDoor_heat d _ s).trans (mapDrafts_heat _ _)).trans (curtainOpened_heat d _ _)).trans
        (announceDoor_heat d _ _ _ _)).trans (noticeDamper_heat _)
    · exact .refl s
  · exact .refl s

theorem acceptedClose_heat (d : Fin 3) (s : State) : HeatKept s (acceptedClose d s) := by
  unfold acceptedClose
  split
  · dsimp only
    split
    · exact ((((modDoor_heat d _ s).trans (mapDrafts_heat _ _)).trans (curtainClosed_heat d _ _ _)).trans
        (announceDoor_heat d _ _ _ _)).trans (noticeDamper_heat _)
    · exact ((((modDoor_heat d _ s).trans (mapDrafts_heat _ _)).trans (announceDoor_heat d _ _ _ _)).trans
        (setCurtain_heat d _ _ _)).trans (recheck_heat _ _)
    · exact .refl s
  · exact .refl s

theorem sampleDoor_heat (d : Fin 3) (level : Bool) (s : State) : HeatKept s (sampleDoor d level s) := by
  unfold sampleDoor
  split
  · dsimp only
    split
    · exact ((modDoor_heat d _ s).trans (modDoor_heat d _ _)).trans (noticeDamper_heat _)
    · split
      · exact (modDoor_heat d _ s).trans (acceptedOpen_heat d _)
      · exact (modDoor_heat d _ s).trans (acceptedClose_heat d _)
      · exact modDoor_heat d _ s
  · exact .refl s

theorem stuckExpiry_heat (d : Fin 3) (s : State) : HeatKept s (stuckExpiry d s) := by
  unfold stuckExpiry
  split
  · dsimp only
    split
    · exact (((((modDoor_heat d _ s).trans (modDoor_heat d _ _)).trans (setCurtain_heat d _ _ _)).trans
        (announceDoor_heat d _ _ _ _)).trans (noticeDamper_heat _)).trans (recheck_heat _ _)
    · exact modDoor_heat d _ s
  · exact .refl s

theorem layoverMarkExpiry_heat (d : Fin 3) (s : State) : HeatKept s (layoverMarkExpiry d s) := by
  unfold layoverMarkExpiry
  dsimp only
  split
  · exact (modDoor_heat d _ s).trans (barCurtain_heat d _)
  · exact modDoor_heat d _ s

theorem runOnExpiry_heat (d : Fin 3) (s : State) : HeatKept s (runOnExpiry d s) := by
  unfold runOnExpiry
  split
  · split
    · exact setCurtain_heat d _ _ s
    · exact modDoor_heat d _ s
  · exact .refl s

/-! ### Zones -/

theorem holdExpiry_heat (z : Fin 4) (s : State) : HeatKept s (holdExpiry z s) :=
  (modZone_heat z _ s).trans (recheck_heat _ _)

theorem scanZone_heat (q : ScanReplies) (z : Fin 4) (s : State) : HeatKept s (scanZone q z s) := by
  unfold scanZone
  split
  · exact (modZone_heat z _ s).trans (recheck_heat _ _)
  · exact .refl s

theorem controlExpiry_heat (z : Fin 4) (s : State) : HeatKept s (controlExpiry z s) := by
  have handed : ∀ (a b : Zone) (u : State), HeatKept u (handOff z a b u) := fun a b u => by
    unfold handOff
    split
    · exact .refl u
    · exact (handOffZone_heat _ _ _ u).trans (reformClaims_heat _)
  have moved : ∀ r b : Zone, HeatKept s (handOff z r b (recheck .zoneSensor (s.modZone z (fun _ => b)))) := fun r b =>
    ((modZone_heat z (fun _ => b) s).trans (recheck_heat .zoneSensor _)).trans (handed r b _)
  unfold controlExpiry
  split
  · unfold afterControl
    dsimp only
    split
    · exact moved _ _
    · exact (moved _ _).trans (handDemand_heat z _ _)
  · exact .refl s

theorem enterOff_heat (z : Fin 4) (s : State) : HeatKept s (enterOff z s) := by
  unfold enterOff
  split
  · split
    · exact .refl s
    · exact ((modZone_heat z _ s).trans (modFan_heat (g := fun b => { b with demandLevel := 1 }) (fun _ => rfl)
        fun _ _ h => h)).trans (handOffZone_heat z 0 0 _)
  · exact .refl s

theorem enterOffAll_heat (s : State) : HeatKept s (enterOffAll s) :=
  ((((enterOff_heat 0 s).trans (enterOff_heat 1 _)).trans (enterOff_heat 2 _)).trans (enterOff_heat 3 _)).trans (recheck_heat _ _)

theorem capZone_heat (z : Fin 4) (s : State) : HeatKept s (capZone z s) := by
  unfold capZone
  split
  · dsimp only
    split
    · exact .refl s
    · exact ((modZone_heat z _ s).trans (handOffZone_heat _ _ _ _)).trans (reformClaims_heat _)
  · exact .refl s

theorem capZones_heat (s : State) : HeatKept s (capZones s) :=
  (((capZone_heat 0 s).trans (capZone_heat 1 _)).trans (capZone_heat 2 _)).trans (capZone_heat 3 _)

theorem availFall_heat (z : Fin 4) (s : State) : HeatKept s (availFall z s) := by
  unfold availFall
  split
  · dsimp only
    split
    · exact modZone_heat z _ s
    · exact ((modZone_heat z _ s).trans (zoneFalls_heat z _ _ _)).trans (reformClaims_heat _)
  · exact .refl s

theorem writeOffsets_heat (x : Int) (s : State) : HeatKept s (writeOffsets x s) := same_heat {}

/-! ### Defrost -/

theorem defrostEnter_heat (new : DefrostState) (s : State) : HeatKept s (defrostEnter new s) := by
  unfold defrostEnter
  split
  · exact .refl s
  · dsimp only
    split
    · exact .refl s
    · exact ((((modDefrost_heat _ s).trans (handOffSingle_heat _ _ _ _)).trans (commandFan_heat _ _ _)).trans
        (reformClaims_heat _)).trans (modDefrost_heat _ _)

theorem fogTest_heat (s : State) : HeatKept s (fogTest s) := modDefrost_heat _ s

theorem defrostCheck_heat (s : State) : HeatKept s (defrostCheck s) := by
  have tested := fun g => (modDefrost_heat g s).trans (fogTest_heat _)
  unfold defrostCheck
  split
  · exact .refl s
  · dsimp only
    split
    · split
      · exact (tested _).trans (defrostEnter_heat _ _)
      · exact tested _
    · split
      · split
        · exact ((tested _).trans (defrostEnter_heat _ _)).trans (modDefrost_heat _ _)
        · exact (tested _).trans (modDefrost_heat _ _)
      · exact (tested _).trans (modDefrost_heat _ _)
    · exact tested _

theorem boostEnter_heat (s : State) : HeatKept s (boostEnter s) := (modDefrost_heat _ s).trans (defrostEnter_heat _ _)

theorem boostExit_heat (s : State) : HeatKept s (boostExit s) := by
  unfold boostExit
  split
  · exact .refl s
  · dsimp only
    split
    · exact ((modDefrost_heat _ s).trans (fogTest_heat _)).trans (defrostEnter_heat _ _)
    · exact .refl s

/-! ### Overrides -/

/-- A part of a command that is made only where a test says so. -/
theorem HeatKept.ite {s t u : State} {p : Prop} [Decidable p] (h₁ : HeatKept s t) (h₂ : HeatKept s u) :
    HeatKept s (if p then t else u) := by
  split
  · exact h₁
  · exact h₂

theorem ventGained_heat (s : State) : HeatKept s (ventGained s) :=
  ((((enterOffAll_heat s).trans (ventCurtains_heat _)).trans (reformClaims_heat _)).trans (rechooseZoneFans_heat _)).trans
    (retarget_heat _)

theorem ventLost_heat (s : State) : HeatKept s (ventLost s) :=
  ((reformClaims_heat s).trans (rechooseZoneFans_heat _)).trans (retarget_heat _)

theorem adopt_heat (old : InUse) (s : State) : HeatKept s (adopt old s) := by
  have offsets := HeatKept.ite (p := old.offsets.ofCar s.straps.car = s.inUse.offsets.ofCar s.straps.car) (.refl s)
    (writeOffsets_heat (s.inUse.offsets.ofCar s.straps.car) s)
  have vents := fun u => HeatKept.ite (p := (s.inUse.flags.ventOnly && !old.flags.ventOnly) = true) (ventGained_heat u)
    (.ite (p := (old.flags.ventOnly && !s.inUse.flags.ventOnly) = true) (ventLost_heat u) (.refl u))
  have caps := fun u => HeatKept.ite (p := (s.inUse.flags.eco && !old.flags.eco) = true) (capZones_heat u) (.refl u)
  have layovers := fun u => HeatKept.ite (p := (s.inUse.flags.layover && !old.flags.layover) = true)
    (layoverCurtains_heat u) (.refl u)
  exact (((offsets.trans (vents _)).trans (caps _)).trans (layovers _)).trans (.ite (.refl _) (retarget_heat _))

theorem setInUse_heat (new : InUse) (s : State) : HeatKept s (setInUse new s) :=
  HeatKept.trans (t := { s with inUse := new }) (same_heat {}) (adopt_heat _ _)

theorem takeWord_heat (s : State) : HeatKept s (takeWord s) := by
  unfold takeWord
  split
  · exact setInUse_heat _ s
  · exact .refl s

theorem handWord_heat (f : Frame) (s : State) : HeatKept s (handWord f s) := by
  unfold handWord
  split
  · dsimp only
    split
    · exact takeWord_heat s
    · exact (takeWord_heat s).trans (queueSingle_heat _ _)
  · exact .refl s

theorem changeWord_heat (g : OvrWord → OvrWord) (s : State) : HeatKept s (changeWord g s) := by
  unfold changeWord
  split
  · exact .refl s
  · next w _ =>
    have written : ∀ w', HeatKept s { s with word := some w' } := fun _ => same_heat {}
    dsimp only
    refine HeatKept.trans ?_ (handWord_heat _ _)
    split
    · exact written _
    · split
      · exact (written _).trans (boostEnter_heat _)
      · exact (written _).trans (boostExit_heat _)

theorem layoverExpiry_heat (s : State) : HeatKept s (layoverExpiry s) :=
  HeatKept.trans (t := s.modWord (fun w => { w with layover := .stopped })) (same_heat {}) (changeWord_heat _ _)

theorem boostExpiry_heat (s : State) : HeatKept s (boostExpiry s) := (modDefrost_heat _ s).trans (changeWord_heat _ _)

theorem boostFall_heat (s : State) : HeatKept s (boostFall s) := (modDefrost_heat _ s).trans (handWord_heat _ _)

theorem enterHolding_heat (s : State) : HeatKept s (enterHolding s) := same_heat {}

theorem holdInUse_heat (s : State) : HeatKept s (holdInUse s) := by
  unfold holdInUse
  split
  · exact enterHolding_heat s
  · exact enterHolding_heat s
  · exact .refl s
  · exact .refl s

theorem acceptedChanged_heat (new : Option Station) (s : State) : HeatKept s (acceptedChanged new s) := by
  have accepted : HeatKept s { s with view := { s.view with accepted := new } } := same_heat {}
  unfold acceptedChanged
  dsimp only
  split
  · exact ((accepted.trans (takeWord_heat _)).trans (queueSingle_heat _ _)).trans (recheck_heat _ _)
  · exact ((accepted.trans (holdInUse_heat _)).trans (.ite (withdrawOverride_only _).heat (.refl _))).trans (recheck_heat _ _)

theorem takeOverride_heat (i : Station) (b : OverrideBody) (s : State) : HeatKept s (takeOverride i b s) := by
  unfold takeOverride
  split
  · exact setInUse_heat _ s
  · exact .refl s

theorem overrideSilence_heat (s : State) : HeatKept s (overrideSilence s) := by
  have stopped : HeatKept s { s with inUse := { s.inUse with silence := .stopped } } := same_heat {}
  unfold overrideSilence
  dsimp only
  split
  · exact stopped.trans (enterHolding_heat _)
  · exact stopped

/-! ### The view -/

theorem reevaluate_heat (s : State) : HeatKept s (reevaluate s) := by
  unfold reevaluate
  split
  · exact .refl s
  · exact acceptedChanged_heat _ s

theorem entryChanged_heat (a b : Entry) (s : State) : HeatKept s (entryChanged a b s) := by
  have computed := HeatKept.ite (p := a.state = b.state ∧ a.claims = b.claims ∧ a.intents = b.intents) (.refl s) (recompute_heat s)
  unfold entryChanged
  dsimp only
  split
  · exact computed
  · exact computed.trans (reevaluate_heat _)

theorem hear_heat (i : Station) (f : Frame) (s : State) : HeatKept s (hear i f s) :=
  (modEntry_heat i _ s).trans (entryChanged_heat _ _ _)

theorem duplicate_heat (s : State) : HeatKept s (duplicate s) := by
  unfold duplicate
  split
  · exact .refl s
  · exact enterIsolated_heat s

theorem receive_heat {further : State → State} (h : ∀ s, HeatKept s (further s)) (i : Station) (f : Frame) (s : State) :
    HeatKept s (receive i f further s) := by
  unfold receive
  split
  · exact duplicate_heat s
  · split
    · exact .refl s
    · exact (hear_heat i f s).trans (h _)

theorem receivePower_heat (i : Station) (b : PowerBody) (s : State) : HeatKept s (receivePower i b s) := by
  unfold receivePower
  split
  · exact duplicate_heat s
  · split
    · exact takePower_heat b s
    · exact (hear_heat _ _ s).trans (latch_only _ _).heat

theorem peerDoor_heat (i : Station) (b : DoorBody) (s : State) : HeatKept s (peerDoor i b s) := by
  unfold peerDoor
  split
  · exact .refl s
  · split
    · exact mapDrafts_heat _ s
    · split
      · exact mapDrafts_heat _ s
      · exact .refl s

theorem ageStation_heat (i : Station) (s : State) : HeatKept s (ageStation i s) := by
  have lost : ∀ u, HeatKept u (sourceLost i u) := fun u => by
    unfold sourceLost
    split
    · exact enterHolding_heat u
    · exact .refl u
  unfold ageStation
  split
  · exact .refl s
  · dsimp only
    split
    · exact .refl s
    · have aged := (modEntry_heat i (fun _ => (s.entry i).aged s.clock) s).trans (entryChanged_heat (s.entry i)
        ((s.entry i).aged s.clock) _)
      split
      · split
        · exact (aged.trans (mapDrafts_heat _ _)).trans (lost _)
        · exact aged.trans (mapDrafts_heat _ _)
      · exact aged

theorem formAgreement_heat (s : State) : HeatKept s (formAgreement s) := by
  unfold formAgreement
  split <;> exact same_heat {}

theorem ageingExpiry_heat (s : State) : HeatKept s (ageingExpiry s) :=
  ((HeatKept.trans (t := s.modView (fun v => { v with ageing := v.ageing.next 200 })) (same_heat {})
    (HeatKept.foldl (fun s i => ageStation_heat i s) stations _)).trans (formAgreement_heat _)).trans (demandDue_heat _)

/-! ### The link -/

theorem startSpacing_heat (f : Frame) (s : State) : HeatKept s (startSpacing f s) := (startSpacing_only f s).heat

theorem listenEnd_heat (s : State) : HeatKept s (listenEnd s) := by
  unfold listenEnd
  dsimp only
  refine HeatKept.trans ?_ (queueSingle_heat _ _)
  split
  · exact (((modLink_heat _ s).trans (queueSingle_heat _ _)).trans (queueSingle_heat _ _)).trans (queueSingle_heat _ _)
  · exact ((modLink_heat _ s).trans (queueSingle_heat _ _)).trans (queueSingle_heat _ _)

theorem attemptStart_heat (n : Nat) (d : Bool) (s : State) : HeatKept s (attemptStart n d s) := by
  unfold attemptStart
  split
  · exact .refl s
  · split
    · exact .refl s
    · dsimp only
      split <;> exact same_heat {}

theorem attemptFailed_heat (s : State) : HeatKept s (attemptFailed s) := by
  unfold attemptFailed
  split
  · exact .refl s
  · dsimp only
    split
    · exact same_heat {}
    · split
      · exact same_heat {}
      · split
        · exact HeatKept.trans (same_heat {}) (startSpacing_heat _ _)
        · exact same_heat {}

theorem attemptConfirmed_heat (s : State) : HeatKept s (attemptConfirmed s) := by
  have head : ∀ u, HeatKept u (confirmHead u) := fun u => by
    unfold confirmHead
    split
    · exact .refl u
    · exact HeatKept.trans (same_heat {}) (startSpacing_heat _ _)
  unfold attemptConfirmed
  split
  · exact .refl s
  · dsimp only
    exact (((modLink_heat _ s).trans (.ite (.refl _) (head _))).trans (modLink_heat _ _)).trans (confirmation_heat _ _)

theorem spacingExpiry_heat (s : State) : HeatKept s (spacingExpiry s) := by
  unfold spacingExpiry
  dsimp only
  split
  · exact HeatKept.trans (same_heat {}) (queueSingle_heat _ _)
  · exact same_heat {}

theorem overrideExpiry_heat (s : State) : HeatKept s (overrideExpiry s) := by
  unfold overrideExpiry
  dsimp only
  split
  · exact HeatKept.trans (same_heat {}) (queueSingle_heat _ _)
  · exact same_heat {}

/-! ### The inputs -/

theorem scanOutside_heat (r : Reply) (s : State) : HeatKept s (scanOutside r s) := by
  have run : ∀ n u, HeatKept u (u.modView (fun v => { v with outsideRun := n })) := fun _ _ => same_heat {}
  unfold scanOutside
  split
  · refine HeatKept.trans ?_ (recheck_heat _ _)
    split
    · exact (modOwn_heat _ s).trans (run _ _)
    · dsimp only
      split
      · exact (run _ s).trans (modOwn_heat _ _)
      · exact run _ s
  · exact .refl s

theorem scanWindscreen_heat (cab : CabReply) (screen : Reply) (s : State) : HeatKept s (scanWindscreen cab screen s) := by
  unfold scanWindscreen
  split
  · exact (modDefrost_heat _ s).trans (recheck_heat _ _)
  · exact .refl s

theorem scanExpiry_heat (q : ScanReplies) (s : State) : HeatKept s (scanExpiry q s) := by
  have start : HeatKept s { s with scanTimer := s.scanTimer.next 500 } := same_heat {}
  exact (((((start.trans (scanZone_heat q 0 _)).trans (scanZone_heat q 1 _)).trans (scanZone_heat q 2 _)).trans
    (scanZone_heat q 3 _)).trans (scanOutside_heat _ _)).trans (scanWindscreen_heat _ _ _)

theorem sampleKey_heat (keys : BitVec 8) (s : State) (k : Nat) : HeatKept s (sampleKey keys s k) := by
  have sampled : ∀ l, HeatKept s { s with keys := l } := fun _ => same_heat {}
  unfold sampleKey
  split
  · dsimp only
    split
    · exact (sampled _).trans (changeWord_heat _ _)
    · exact sampled _
  · exact .refl s

theorem sampleExpiry_heat (p : Pins) (s : State) : HeatKept s (sampleExpiry p s) := by
  have start : HeatKept s { s with sampleTimer := s.sampleTimer.next 10 } := same_heat {}
  exact (((((start.trans (sampleDoor_heat 0 _ _)).trans (sampleDoor_heat 1 _ _)).trans (sampleDoor_heat 2 _ _)).trans
    (.foldl (sampleKey_heat p.keys) _ _)).trans (.foldl (sampleTach_heat p.tachs) _ _)).trans (feedback_heat _ _ _)

theorem encoderStep_heat (m : EncoderMove) (s : State) : HeatKept s (encoderStep m s) := by
  have motion : HeatKept s (motionEvent s) := by
    unfold motionEvent
    split
    · exact .refl s
    · exact modDamper_heat _ s
  unfold encoderStep
  split
  · exact .refl s
  · dsimp only
    split
    · exact motion.trans ((modDamper_heat _ _).trans (trackMotor_only _).heat)
    · exact motion

theorem stallExpiry_heat (s : State) : HeatKept s (stallExpiry s) := by
  unfold stallExpiry
  split
  · exact (modDamper_heat _ s).trans (recheck_heat _ _)
  · exact ((modDamper_heat _ s).trans (trackMotor_only _).heat).trans (recheck_heat _ _)
  · exact modDamper_heat _ s

theorem restExpiry_heat (s : State) : HeatKept s (restExpiry s) := by
  unfold restExpiry
  dsimp only
  split <;> exact same_heat {}

theorem refillOwner_heat (o : Owner) (first : Option (Cls × Place)) (s : State) : HeatKept s (refillOwner o first s) := by
  unfold refillOwner
  split
  · split
    · exact (refill_heat _ _ _ _ s).trans (refill_heat _ _ _ _ _)
    · exact .refl s
  · exact (refill_heat _ _ _ _ s).trans (reformClaims_heat _)
  · split
    · exact (refill_heat _ _ _ _ s).trans (reformClaims_heat _)
    · exact .refl s

theorem tellOwner_heat (o : Owner) (s : State) : HeatKept s (tellOwner o s) := by
  unfold tellOwner
  split
  · exact availFall_heat _ s
  · exact .refl s
  · exact .refl s

theorem feedbackFault_heat (i : Nat) (s : State) : HeatKept s (feedbackFault i s) := by
  unfold feedbackFault
  split
  · exact .refl s
  · next st hs =>
    split
    · exact modStage_same_heat (g := fun st => { st with feedback := .disagree .expired })
        (fun _ => ⟨rfl, rfl, rfl, rfl, rfl⟩) s
    · have filled := (((fault_heat hs).trans (recheck_heat .stageFaulty _)).trans (tellOwner_heat st.owner _)).trans
        (refillOwner_heat st.owner (s.replacementPlace i st) _)
      dsimp only
      split
      · exact filled.trans (oweAttempt_heat _)
      · exact filled

/-! ### The service responder -/

theorem refuse_heat (i : Station) (s : State) : HeatKept s (refuse i s) := queueSingle_heat _ s

theorem selectCursor_heat (i : Station) (c n : Byte) (s : State) : HeatKept s (selectCursor i c n s) := by
  unfold selectCursor
  split
  · exact same_heat {}
  · exact queueSingle_heat _ s

theorem readCursor_heat (advance : Bool) (i : Station) (s : State) : HeatKept s (readCursor advance i s) := by
  unfold readCursor
  split
  · exact refuse_heat i s
  · dsimp only
    split
    · split
      · exact (queueSingle_heat _ s).trans (same_heat {})
      · exact queueSingle_heat _ s
    · exact queueSingle_heat _ s

theorem clearLatches_heat (i : Station) (s : State) : HeatKept s (clearLatches i s) :=
  HeatKept.trans (t := { s with cond := { s.cond with latched := s.cond.latched &&& s.cond.current } }) (same_heat {})
    (queueSingle_heat _ _)

theorem applyMasks_heat (i : Station) (a b : Byte) (s : State) : HeatKept s (applyMasks i a b s) := by
  unfold applyMasks
  split
  · exact changeWord_heat _ s
  · exact refuse_heat i s

theorem forMe_heat {effect : State → State} (h : ∀ s, HeatKept s (effect s)) (m : Byte) (s : State) :
    HeatKept s (forMe m effect s) := by
  unfold forMe
  split
  · exact h s
  · exact .refl s

/-! ### Every command -/

/-- Every command but a restart keeps the stages' invariants up to what closes its step. -/
theorem effectOf_heat {c : Instr} (h : ∀ i m a b, c ≠ .controlRestart i m a b) (s : State) : HeatKept s (effectOf c s) := by
  cases c with
  | controlRestart i m a b => exact absurd rfl (h i m a b)
  | powerOnReset => exact .refl s
  | imageReadDone _ => exact .refl s
  | imageReadTimeout => exact .refl s
  | resetPinRelease _ => exact .refl s
  | joinListenEnd => exact listenEnd_heat s
  | controlPeriodExpiry z => exact controlExpiry_heat z s
  | sensorScan q => exact scanExpiry_heat q s
  | holdTimerExpiry z => exact holdExpiry_heat z s
  | inputSample p => exact sampleExpiry_heat p s
  | stuckTimerExpiry d => exact stuckExpiry_heat d s
  | layoverMarkExpiry d => exact layoverMarkExpiry_heat d s
  | runOnExpiry d => exact runOnExpiry_heat d s
  | feedbackFault i => exact feedbackFault_heat i.val s
  | pacingExpiry => exact same_heat {}
  | sliceExpiry i => exact sliceExpiry_heat i.val s
  | tachWindowExpiry => exact windowExpiry_heat s
  | startTimerExpiry f => exact startExpiry_heat f s
  | retryTimerExpiry f => exact retryExpiry_heat f s
  | encoderStep m => exact encoderStep_heat m s
  | stallTimerExpiry => exact stallExpiry_heat s
  | restTimerExpiry => exact restExpiry_heat s
  | defrostCheck => exact defrostCheck_heat s
  | boostTimerExpiry => exact boostExpiry_heat s
  | boostRemainingFall => exact boostFall_heat s
  | louvreStep => exact modDefrost_heat _ s
  | layoverTimerExpiry => exact layoverExpiry_heat s
  | layoverMinutesFall => exact changeWord_heat _ s
  | overrideSilenceExpiry => exact overrideSilence_heat s
  | overrideHoldExpiry => exact setInUse_heat _ s
  | ageingExpiry => exact ageingExpiry_heat s
  | agreementHoldExpiry => exact same_heat {}
  | silenceExpiry => exact silenceExpiry_heat s
  | gapTimerExpiry => exact gapExpiry_heat s
  | holdOffExpiry => exact holdOffExpiry_heat s
  | txFailureExpiry => exact failureExpiry_heat s
  | spacingExpiry => exact spacingExpiry_heat s
  | presenceTimerExpiry =>
    exact HeatKept.trans (modLink_heat (fun l => { l with presence := l.presence.next 1000 }) s) (queueSingle_heat _ _)
  | overrideTimerExpiry => exact overrideExpiry_heat s
  | statusTimerExpiry =>
    exact HeatKept.trans (modLink_heat (fun l => { l with status := l.status.next 5000 }) s) (queueSingle_heat _ _)
  | txAttemptStart n d => exact attemptStart_heat n d s
  | collision => exact attemptFailed_heat s
  | frameConfirmed => exact attemptConfirmed_heat s
  | frameDiscard r =>
    change HeatKept s ((if r.isDiscard then discard else id) s)
    split
    · exact (modLink_heat _ s).trans (recheck_heat _ _)
    · exact .refl s
  | errorWindowDeparture => exact (modLink_heat _ s).trans (recheck_heat _ _)
  | powerFrame i b => exact receivePower_heat i b s
  | demandFrame i b => exact receive_heat (fun s => .refl s) i _ s
  | presenceFrame i b => exact receive_heat (fun s => .refl s) i _ s
  | doorFrame i b => exact receive_heat (peerDoor_heat i b) i _ s
  | overrideFrame i b => exact receive_heat (takeOverride_heat i b) i _ s
  | statusFrame i b => exact receive_heat (fun s => .refl s) i _ s
  | answerFrame i b => exact receive_heat (fun s => .refl s) i _ s
  | probeSelect i m c n => exact receive_heat (forMe_heat (selectCursor_heat i c n) m) i _ s
  | probeNext i m c n => exact receive_heat (forMe_heat (readCursor_heat true i) m) i _ s
  | probePeek i m c n => exact receive_heat (forMe_heat (readCursor_heat false i) m) i _ s
  | probeClear i m c n => exact receive_heat (forMe_heat (clearLatches_heat i) m) i _ s
  | probeBadOperation i m o c n => exact receive_heat (forMe_heat (refuse_heat i) m) i _ s
  | controlOvrMasks i m a b => exact receive_heat (forMe_heat (applyMasks_heat i a b) m) i _ s
  | controlBadOperation i m o a b => exact receive_heat (forMe_heat (refuse_heat i) m) i _ s

end Sys2Proof.Machine
end

section
/-! Every command on the stages: it lets them cool and closes the step, or resets them. With it the invariants of the stages
and their queue, and the one stage that a step switches on. -/

namespace Sys2Proof.Machine

/-! ### Every command -/

/-- How a command acts on the stages: not at all; by a part that lets them cool, and what closes its step; or by a reset. -/
inductive HeatDoes (s t : State) : Prop
  | stands (h : SameHeat s t)
  | closes (u : State) (h : HeatKept s u) (ht : t = finish u)
  | resets (h : t.Unheated)

theorem install_unheated (c : Image) (check : BitVec 16) (s : State) : (finish (install c check s)).Unheated := by
  unfold install
  exact finish_completeReset_unheated false _

theorem installBuiltIn_unheated (s : State) : (finish (installBuiltIn s)).Unheated := by
  unfold installBuiltIn
  exact install_unheated _ _ _

theorem release_heatDoes (p : StrapPins) (s : State) : HeatDoes s (finish (releaseReset p s)) := by
  unfold releaseReset
  dsimp only
  split
  · exact .closes _ (by split <;> exact same_heat {}) rfl
  · exact .resets (installBuiltIn_unheated _)

theorem imageRead_heatDoes (image : Option (List Byte)) (s : State) : HeatDoes s (finish (imageRead image s)) := by
  unfold imageRead
  split
  · split
    · exact .resets (install_unheated _ _ _)
    · exact .resets (installBuiltIn_unheated _)
  · exact .resets (installBuiltIn_unheated _)

theorem restart_heatDoes (i : Station) (m a b : Byte) (s : State) :
    HeatDoes s (finish (effectOf (.controlRestart i m a b) s)) := by
  change HeatDoes s (finish (receive i (.control ⟨m, 0, a, b⟩) (forMe m warmRestart) s))
  unfold receive
  split
  · exact .closes _ (duplicate_heat s) rfl
  · split
    · exact .closes _ (.refl s) rfl
    · have hear := hear_heat i (.control ⟨m, 0, a, b⟩) s
      unfold forMe
      split
      · unfold warmRestart
        split
        · exact .closes _ hear rfl
        · exact .resets (finish_completeReset_unheated true _)
      · exact .closes _ hear rfl

/-- Every command acts on the stages in one of the three ways. -/
theorem command_heatDoes {c : Instr} {s t : State} (h : exec c s = .next t) : HeatDoes s t := by
  rcases exec_does h with rfl | ⟨-, now, rfl⟩ | rfl | ⟨p, rfl⟩ | ⟨image, rfl⟩ | ⟨e, rfl⟩
  · exact .stands {}
  · have hclock : HeatKept s { s with clock := now } := same_heat {}
    by_cases hc : ∃ i m a b, c = .controlRestart i m a b
    · obtain ⟨i, m, a, b, rfl⟩ := hc
      rcases restart_heatDoes i m a b { s with clock := now } with hsame | ⟨u, hu, ht⟩ | hreset
      · exact .stands ⟨⟨hsame.stages, hsame.queue, hsame.fans, hsame.sharing⟩, hsame.usable, hsame.announced, hsame.allocation⟩
      · exact .closes u (hclock.trans hu) ht
      · exact .resets hreset
    · exact .closes _ (hclock.trans (effectOf_heat (fun i m a b he => hc ⟨i, m, a, b, he⟩) _)) rfl
  · exact .resets ⟨fun i st hs => (by cases hs), rfl, rfl⟩
  · exact release_heatDoes p s
  · exact imageRead_heatDoes image s
  · exact .resets (installBuiltIn_unheated _)

theorem HeatDoes.safe {s t : State} (h : HeatDoes s t) : HeatSafe s t := by
  rcases h with hsame | ⟨u, hu, rfl⟩ | hreset
  · exact hsame.kept.safe
  · exact hu.safe.trans (finish_safe u)
  · exact hreset.safe

/-- A step keeps the invariants of the stages and their queue. -/
theorem step_safe {s t : State} (h : step s = .next t) : HeatSafe s t := by
  rcases step_does h with rfl | ⟨c, pending, hexec⟩
  · exact SameHeat.kept (s := s) (t := tick s) {} |>.safe
  · have hpending : HeatKept s { s with pending := pending } := same_heat {}
    exact hpending.safe.trans (command_heatDoes hexec).safe

/-! ### The statements -/

/-- Settles O51: a lowering of the intents cuts the classes whose usable intent fell, every other part of a command only
lowers the occupancy, and the attempt admits only what fits. -/
theorem usableIntentsBoundTheOccupancy : Obligations.UsableIntentsBoundTheOccupancy :=
  fun _ _ hintents hroom h => (step_safe h).bounded ⟨hintents, hroom⟩

/-- Settles O52: no stage begins to heat but by the attempt, which is made in ACTIVE over running blowers; the other sharing
states shed or suspend, and a blower that leaves RUNNING takes its stages off. -/
theorem stagesHeatOnlyWhereTheyMay : Obligations.StagesHeatOnlyWhereTheyMay :=
  fun _ _ h => ⟨(step_safe h).active, (step_safe h).proven⟩

/-- Settles O53: every operation of the stage controller moves a stage into or out of QUEUED together with its place in the
queue. -/
theorem queueHoldsTheQueuedStages : Obligations.QueueHoldsTheQueuedStages :=
  fun _ _ hs h => (step_safe h).sound hs

/-- The attempt switches on no stage but the one it names, in ACTIVE, and starts the pause of the draw it takes. -/
theorem AttemptMakes.switches {s t : State} (h : AttemptMakes s t) : t.stages = s.stages
    ∨ ∃ i, SwitchesOn s t i ∧ t.alloc.sharing = .active
      ∧ t.pacing = .running (timeAfter t.clock (20 * (1 + t.seq.toNat % 16))) := by
  rcases h with rfl | ⟨i, st, hactive, hs, -, rfl⟩ | ⟨i, c, hactive, -, ⟨st, hs, -⟩, rfl⟩
  · exact .inl rfl
  · exact .inr ⟨i, resume_switchesOn hs, hactive, rfl⟩
  · exact .inr ⟨i, admit_switchesOn hs, hactive, rfl⟩

/-- Settles O21: up to what closes the step no stage begins to heat, so that only the stage of the attempt is switched on. -/
theorem oneStageSwitchesOnAtATime : Obligations.OneStageSwitchesOnAtATime := by
  intro c s t h switched i hi
  have energized : ∀ {u : State}, s.Cools u → ∀ {j}, switched j → ∀ {x}, u.stage? j = some x → x.state ≠ .energized :=
    fun hcools _ hj x hx he => by
      obtain ⟨st, hs, hr⟩ := hcools _ x hx
      exact hj.2 st hs (hr.energized he)
  obtain ⟨⟨x, hx, hxe⟩, -⟩ := id hi
  rcases command_heatDoes h with hsame | ⟨u, hu, rfl⟩ | hreset
  · exact absurd hxe (energized hsame.kept.cools hi hx)
  · obtain ⟨u', v, hu', hmake, hv, hpacing, hseq, hclock⟩ := finish_makes u
    have hcools : s.Cools u' := hu.cools.trans hu'.kept.cools
    rw [hpacing, hseq, hclock, hv.sharing]
    rcases hmake.switches with hsame | ⟨k, hsw, hactive, hpause⟩
    · rw [stage?_congr hv.stages, stage?_congr hsame] at hx
      exact absurd hxe (energized hcools hi hx)
    · have only : ∀ j, switched j → j = k := fun j hj => by
        obtain ⟨y, hy, hye⟩ := hj.1
        by_contra hne
        rw [stage?_congr hv.stages, hsw.others j hne] at hy
        exact energized hcools hj hy hye
      refine ⟨fun j hj => (only j hj).trans (only i hi).symm, hactive, hpause, fun st st' hs ht => ?_⟩
      obtain rfl := only i hi
      obtain ⟨y, y', hy, hy', -, -, -, -, hwear⟩ := hsw.stage
      obtain ⟨w, hw, hr⟩ := hcools i y hy
      rw [stage?_congr hv.stages, hy'] at ht
      cases ht
      rw [hs] at hw
      cases hw
      rw [hwear, hr.wear]
      rfl
  · rw [hreset.idle i x hx] at hxe
    cases hxe

end Sys2Proof.Machine
end

section
/-! A slice expiry (R59): the stage rotates out behind a waiting stage that fits in its place, which the attempt then prefers
to it, or begins a fresh slice. -/

namespace Sys2Proof.Machine

/-- A change of one stage that is there, as a table. -/
theorem modStage_eq {s : State} {i : Nat} {st : Stage} (hs : s.stage? i = some st) (g : Stage → Stage) :
    modStage i g s = { s with stages := s.stages.set i (refeedback s.clock st (g st)) } := by
  have hs' : s.stages[i]? = some st := hs
  unfold modStage
  rw [List.modify_eq_set_getElem?, hs']
  rfl

/-- A change that keeps a stage's state does not re-examine its feedback (R62). -/
theorem refeedback_same {now : Time} {was st : Stage} (h : st.state = was.state) : refeedback now was st = st := by
  unfold refeedback
  rw [if_pos (by unfold Stage.output; rw [h])]

/-- What R59 asks of a waiting stage, so that the stage at `i` rotates out for it. -/
theorem rotatesFor_iff {s : State} {c : Cls} {size j : Nat} : s.rotatesFor c size j = true ↔
    ∃ w, s.stage? j = some w ∧ w.state = .queued ∧ s.fanRunning w.owner.fan = true
      ∧ s.occupancy c + w.size ≤ s.alloc.usable.get c + size := by
  unfold State.rotatesFor
  cases s.stage? j with
  | none => simp
  | some st => simp [and_assoc]

/-- The slice timer stopped, as its expiry leaves it. -/
def sliceStopped (i : Nat) (s : State) : State := modStage i (fun st => { st with slice := .stopped }) s

theorem sliceExpiry_rotates {s : State} {i : Nat} {st : Stage} {c : Cls} (hs : s.stage? i = some st) (hst : st.state = .energized)
    (hc : st.cls = some c) (h : ∃ j ∈ s.queue.get c, s.rotatesFor c st.size j = true) :
    sliceExpiry i s = oweAttempt (queueBack c i (modStage i Stage.toQueued (sliceStopped i s))) := by
  unfold sliceExpiry
  simp only [hs, hst, hc, if_pos (List.any_eq_true.2 h)]
  rfl

theorem sliceExpiry_begins {s : State} {i : Nat} {st : Stage} {c : Cls} (hs : s.stage? i = some st) (hst : st.state = .energized)
    (hc : st.cls = some c) (h : ∀ j ∈ s.queue.get c, s.rotatesFor c st.size j ≠ true) :
    sliceExpiry i s =
      modStage i (fun st => { st with sliceStart := some s.clock, slice := s.timer s.sliceMs }) (sliceStopped i s) := by
  have hany : ¬ (s.queue.get c).any (s.rotatesFor c st.size) = true := fun ha => by
    obtain ⟨j, hj, hr⟩ := List.any_eq_true.1 ha
    exact h j hj hr
  unfold sliceExpiry
  simp only [hs, hst, hc, if_neg hany]
  rfl

theorem sliceStopped_stage? {s : State} {i : Nat} {st : Stage} (hs : s.stage? i = some st) :
    (sliceStopped i s).stage? i = some { st with slice := .stopped } := by
  rw [sliceStopped, stage?_modStage_same hs, refeedback_same (by exact rfl)]

/-- The fresh slice of R59 changes the stage's slice start and slice timer alone. -/
theorem sliceExpiry_begins_eq {s : State} {i : Nat} {st : Stage} {c : Cls} (hs : s.stage? i = some st)
    (hst : st.state = .energized) (hc : st.cls = some c) (h : ∀ j ∈ s.queue.get c, s.rotatesFor c st.size j ≠ true) :
    sliceExpiry i s = { s with stages := s.stages.set i { st with
      sliceStart := some s.clock, slice := .running (timeAfter s.clock (s.config.slice * 1000)) } } := by
  rw [sliceExpiry_begins hs hst hc h, modStage_eq (sliceStopped_stage? hs), refeedback_same (by exact rfl), sliceStopped,
    modStage_eq hs, refeedback_same (by exact rfl), List.set_set]
  rfl

/-! ### The stage that rotates out is not the attempt's -/

/-- The first of the lists' elements comes from one of the lists as its first. -/
theorem head?_flatMap {α β : Type} {f : α → List β} {b : β} : ∀ {l : List α}, (l.flatMap f).head? = some b →
    ∃ a ∈ l, (f a).head? = some b
  | [], h => by cases h
  | a :: l, h => by
    rw [List.flatMap_cons, List.head?_append] at h
    cases hf : (f a).head? with
    | some x =>
      rw [hf] at h
      exact ⟨a, List.mem_cons_self .., hf.trans h⟩
    | none =>
      rw [hf] at h
      obtain ⟨a', ha', he⟩ := head?_flatMap (l := l) h
      exact ⟨a', List.mem_cons_of_mem _ ha', he⟩

/-- A stage that stands last in its class, behind one that can be admitted, is not the first to be admitted. -/
theorem firstAdmissible_ne_last {s : State} (h : s.QueueSound) {c : Cls} {q : List Nat} {i j : Nat}
    (hq : s.queue.get c = q ++ [i]) (hj : j ∈ q) (hable : s.Able c j) : s.firstAdmissible ≠ some i := fun hfirst => by
  obtain ⟨c', -, hhead⟩ := head?_flatMap hfirst
  have hi : i ∈ s.queue.get c' := (List.mem_filter.1 (List.mem_of_mem_head? hhead)).1
  have hnodup : (q ++ [i]).Nodup := hq ▸ (h c).1
  have hsame : c' = c := by
    obtain ⟨st, hs, -, hc'⟩ := ((h c').2 i).1 hi
    obtain ⟨st', hs', -, hc⟩ := ((h c).2 i).1 (by rw [hq]; simp)
    rw [hs] at hs'
    cases hs'
    exact Option.some.inj (hc'.symm.trans hc)
  subst hsame
  rw [hq, List.filter_append, List.head?_append] at hhead
  cases hf : (q.filter (s.admissible c')).head? with
  | none =>
    have hjm : j ∈ q.filter (s.admissible c') := List.mem_filter.2 ⟨hj, admissible_iff.2 hable⟩
    rw [List.head?_eq_none_iff.1 hf] at hjm
    cases hjm
  | some x =>
    rw [hf] at hhead
    obtain rfl : x = i := Option.some.inj hhead
    have hx : x ∈ q := (List.mem_filter.1 (List.mem_of_mem_head? hf)).1
    exact (List.nodup_append.1 hnodup).2.2 x hx x (by simp) rfl

/-- A stage QUEUED last in its class, behind one that can be admitted, still stands so after the step closes. -/
theorem finish_last {s : State} (h : s.QueueSound) {c : Cls} {q : List Nat} {i j : Nat} {st : Stage}
    (hq : s.queue.get c = q ++ [i]) (hj : j ∈ q) (hable : s.Able c j) (hs : s.stage? i = some st) (hst : st.state = .queued) :
    (finish s).stage? i = some st ∧ ((finish s).queue.get c).getLast? = some i := by
  obtain ⟨u, v, hu, hmake, hv, -⟩ := finish_makes s
  have hsu : u.stage? i = some st := (stage?_congr hu.stages i).trans hs
  have hqu : u.queue.get c = q ++ [i] := by rw [hu.queue]; exact hq
  have hableu : u.Able c j := by
    obtain ⟨w, hw, hwq, hwc, hrun, hroom⟩ := hable
    refine ⟨w, (stage?_congr hu.stages j).trans hw, hwq, hwc, (fanRunning_congr hu.fans _).trans hrun, ?_⟩
    rw [occupancy_congr hu.stages, hu.usable]
    exact hroom
  have hlast : (q ++ [i]).getLast? = some i := by simp
  rw [stage?_congr hv.stages, hv.queue]
  rcases hmake with rfl | ⟨k, sk, -, hk, hsk, rfl⟩ | ⟨k, ck, -, hfirst, ⟨sk, hk, -⟩, rfl⟩
  · exact ⟨hsu, hqu ▸ hlast⟩
  · have hne : i ≠ k := by
      rintro rfl
      rw [hk] at hsu
      cases hsu
      rw [hsk] at hst
      cases hst
    exact ⟨((resume_switchesOn hk).others i hne).trans hsu, by
      rw [show (resume k u).queue = u.queue from rfl, hqu]; exact hlast⟩
  · have hne : i ≠ k := by
      rintro rfl
      exact firstAdmissible_ne_last (hu.kept.sound h) hqu hj hableu hfirst
    refine ⟨((admit_switchesOn hk).others i hne).trans hsu, ?_⟩
    rw [admitStage_queue, hqu, List.filter_append]
    simp [hne]

/-! ### The statement -/

/-- After the rotation the waiting stage that fits in the place of the stage rotated out can be admitted (R54, R59). -/
theorem able_of_rotated {s : State} (h : s.QueueSound) {i j : Nat} {st : Stage} {c : Cls} (hs : s.stage? i = some st)
    (hst : st.state = .energized) (hc : st.cls = some c) (hj : j ∈ s.queue.get c) (hfit : s.rotatesFor c st.size j = true) :
    State.Able (oweAttempt (queueBack c i (modStage i Stage.toQueued (sliceStopped i s)))) c j := by
  obtain ⟨w, hw, hwq, hrun, hroom⟩ := rotatesFor_iff.1 hfit
  have hne : j ≠ i := by
    rintro rfl
    rw [hs] at hw
    cases hw
    rw [hst] at hwq
    cases hwq
  obtain ⟨w', hw', -, hwc⟩ := ((h c).2 j).1 hj
  rw [hw] at hw'
  cases hw'
  have hstage : State.stage? (oweAttempt (queueBack c i (modStage i Stage.toQueued (sliceStopped i s)))) j = some w :=
    (stage?_modStage_other _ _ hne).trans ((stage?_modStage_other _ _ hne).trans hw)
  refine ⟨w, hstage, hwq, hwc, hrun, ?_⟩
  have hstop := occupancy_modStage (g := fun st => { st with slice := .stopped }) hs rfl c
  have hoff := occupancy_modStage (g := Stage.toQueued) (sliceStopped_stage? hs) rfl c
  have hon : (st.heating && st.inClass c) = true := by simp [Stage.heating, Stage.inClass, hst, hc]
  have hon' : (Stage.heating { st with slice := .stopped } && Stage.inClass { st with slice := .stopped } c) = true := hon
  have hcold : (Stage.heating (Stage.toQueued { st with slice := .stopped })
      && Stage.inClass (Stage.toQueued { st with slice := .stopped }) c) = false := rfl
  rw [if_pos hon, if_pos hon'] at hstop
  rw [if_pos hon', hcold, if_neg Bool.false_ne_true] at hoff
  change (modStage i Stage.toQueued (sliceStopped i s)).occupancy c + w.size ≤ s.alloc.usable.get c
  unfold sliceStopped at hoff ⊢
  dsimp only at hstop hoff
  omega

/-- The stage that rotates out is QUEUED last in its class when the step has closed (R59). -/
theorem finish_rotated {s : State} (h : s.QueueSound) {i : Nat} {st : Stage} {c : Cls} (hs : s.stage? i = some st)
    (hst : st.state = .energized) (hc : st.cls = some c) (hfit : ∃ j ∈ s.queue.get c, s.rotatesFor c st.size j = true) :
    (∃ v, (finish (sliceExpiry i s)).stage? i = some { st with
      state := .queued, slice := .stopped, sliceStart := none, suspendedAt := none, feedback := v })
    ∧ ((finish (sliceExpiry i s)).queue.get c).getLast? = some i
    ∧ ∃ stages queue, sliceExpiry i s = { s with stages := stages, queue := queue, attemptDue := true } := by
  have hrot := sliceExpiry_rotates hs hst hc hfit
  obtain ⟨j, hj, hfits⟩ := hfit
  have hstage := stage?_modStage_same (sliceStopped_stage? hs) Stage.toQueued
  obtain ⟨v, hv⟩ := refeedback_eq (sliceStopped i s).clock { st with slice := .stopped }
    (Stage.toQueued { st with slice := .stopped })
  rw [hv] at hstage
  have hback : State.queue (oweAttempt (queueBack c i (modStage i Stage.toQueued (sliceStopped i s)))) =
      s.queue.set c (s.queue.get c ++ [i]) := rfl
  obtain ⟨hkept, hlast⟩ := finish_last (hrot ▸ (sliceExpiry_heat i s).sound h)
    (by rw [hback, PerClass_get_set, if_pos rfl]) hj (able_of_rotated h hs hst hc hj hfits) hstage rfl
  rw [hrot]
  exact ⟨⟨v, hkept⟩, hlast, _, _, rfl⟩

/-- Settles O23: where a waiting stage fits, it can be admitted once the stage is out, and stands ahead of it, so that the
stage rotated out stays last in its class; otherwise its slice alone changes. -/
theorem sliceExpiryRotates : Obligations.SliceExpiryRotates := by
  intro s e i st c hready hsound hs hst hc hslice s1 fits
  obtain ⟨now, hnow⟩ : ∃ now, s1 = { s with clock := now } := advanceTo_eq e s
  have hexec : exec (.sliceExpiry i) s = .next (finish (sliceExpiry i.val s1)) := by
    have htimer : s.sliceTimer i = .running e := by simp [State.sliceTimer, hs, hslice]
    change atExpiry (s.sliceTimer i) (sliceExpiry i.val) s = _
    rw [htimer]
    exact atExpiry_running e _ s hready.running
  clear_value s1
  subst hnow
  have hs1 : State.stage? { s with clock := now } i.val = some st := hs
  have hfits : ∀ j ∈ s.queue.get c, (State.rotatesFor { s with clock := now } c st.size j = true ↔ fits j) := fun j hj => by
    rw [rotatesFor_iff]
    constructor
    · rintro ⟨w, hw, -, hrun, hroom⟩
      exact ⟨w, hw, hrun, hroom⟩
    · rintro ⟨w, hw, hrun, hroom⟩
      obtain ⟨w', hw', hwq, -⟩ := ((hsound c).2 j).1 hj
      rw [hw] at hw'
      cases hw'
      exact ⟨w, hw, hwq, hrun, hroom⟩
  refine ⟨fun ⟨j, hj, hfit⟩ => ?_, fun hnone => ⟨_, hexec, ?_⟩⟩
  · obtain ⟨⟨v, hstage⟩, hlast, stages, queue, hu⟩ := finish_rotated (s := { s with clock := now })
      (queueSound_congr rfl rfl hsound) hs1 hst hc ⟨j, hj, (hfits j hj).2 hfit⟩
    refine ⟨_, _, hexec, hstage, rfl, hlast, ?_⟩
    obtain ⟨_, _, _, _, _, _, _, hfin⟩ := finish_frame (sliceExpiry i.val { s with clock := now })
    rw [hfin, hu]
    exact congrArg (fun a => ({ s with attemptDue := a } : State)) hready.settled.symm
  · rw [sliceExpiry_begins_eq hs1 hst hc fun j hj hr => hnone j hj ((hfits j hj).1 hr)]
    exact finish_closes_none _ hready.settled

end Sys2Proof.Machine
end

section
/-! The attempt at a pacing expiry (R54): which SUSPENDED stage comes first in class order, which QUEUED stage can be admitted
first, and the record of the stage switched on. -/

namespace Sys2Proof.Machine

/-! ### The first in class order -/

/-- The place of a class in the class order (R45). -/
def classRank : Cls → Nat
  | .safety => 0
  | .curtain => 1
  | .zone => 2
  | .absorb => 3

/-- The first class in class order that offers one gives the first of all. -/
theorem head?_byClass {α : Type} {f : Cls → List α} {c : Cls} {a : α} (h : (f c).head? = some a)
    (hnone : ∀ c', classRank c' < classRank c → f c' = []) : (Cls.all.flatMap f).head? = some a := by
  have hall : ∃ before after, Cls.all = before ++ c :: after ∧ ∀ c' ∈ before, classRank c' < classRank c := by
    cases c
    · exact ⟨[], _, rfl, by decide⟩
    · exact ⟨[.safety], _, rfl, by decide⟩
    · exact ⟨[.safety, .curtain], _, rfl, by decide⟩
    · exact ⟨[.safety, .curtain, .zone], _, rfl, by decide⟩
  obtain ⟨before, after, hsplit, hbefore⟩ := hall
  have hempty : before.flatMap f = [] := List.flatMap_eq_nil_iff.2 fun c' hc' => hnone c' (hbefore c' hc')
  rw [hsplit, List.flatMap_append, hempty, List.nil_append, List.flatMap_cons, List.head?_append, h]
  rfl

/-- Stage numbers come in table order. -/
theorem stageIndexes_sorted (p : Stage → Bool) : ∀ (l : List Stage) (i : Nat), (stageIndexes p i l).Pairwise (· < ·)
  | [], _ => .nil
  | st :: l, i => by
    have ih := stageIndexes_sorted p l (i + 1)
    unfold stageIndexes
    split
    · exact List.pairwise_cons.2 ⟨fun j hj => ((mem_stageIndexes (i + 1)).1 hj).1, ih⟩
    · exact ih

/-- A stage that every other follows by `key`, or equals and follows in the table, comes first (R48). -/
theorem head?_sortBySince {now : Time} {key : Nat → Option Time} {i : Nat} : ∀ {l : List Nat}, l.Pairwise (· < ·) → i ∈ l →
    (∀ j ∈ l, j ≠ i → sinceLe now (key i) (key j) = true ∧ (sinceLe now (key j) (key i) = true → i < j)) →
    (sortBySince now key l).head? = some i
  | x :: l, hsorted, hi, h => by
    obtain ⟨hx, hl⟩ := List.pairwise_cons.1 hsorted
    unfold sortBySince
    by_cases hxi : x = i
    · subst hxi
      cases hrest : sortBySince now key l with
      | nil => rfl
      | cons k rest =>
        have hk : k ∈ l := mem_sortBySince.1 (hrest ▸ List.mem_cons_self ..)
        have hle := (h k (List.mem_cons_of_mem _ hk) (Nat.ne_of_gt (hx k hk))).1
        unfold insertBySince
        rw [if_pos hle]
        rfl
    · have hil : i ∈ l := (List.mem_cons.1 hi).resolve_left (Ne.symm hxi)
      have ih := head?_sortBySince hl hil fun j hj => h j (List.mem_cons_of_mem _ hj)
      obtain ⟨rest, hrest⟩ := List.head?_eq_some_iff.1 ih
      have hafter : ¬ sinceLe now (key x) (key i) = true := fun hle =>
        Nat.lt_asymm (hx i hil) ((h x (List.mem_cons_self ..) hxi).2 hle)
      rw [hrest]
      unfold insertBySince
      rw [if_neg hafter]
      rfl

/-! ### The stage the attempt chooses -/

/-- The SUSPENDED stages of a class, in table order. -/
def State.suspendedIn (s : State) (c : Cls) : List Nat := s.stagesWith (fun st => st.state == .suspended && st.inClass c)

theorem mem_suspendedIn {s : State} {c : Cls} {j : Nat} :
    j ∈ s.suspendedIn c ↔ ∃ st, s.stage? j = some st ∧ st.state = .suspended ∧ st.cls = some c := by
  simp [State.suspendedIn, mem_stagesWith, Stage.inClass]

theorem firstSuspended_none {s : State} (h : ∀ st ∈ s.stages, st.state ≠ .suspended) : s.firstSuspended = none := by
  refine Option.eq_none_iff_forall_ne_some.2 fun i hi => ?_
  obtain ⟨st, hs, hst⟩ := firstSuspended_held hi
  exact h st (List.mem_of_getElem? hs) hst

/-- The SUSPENDED stage of the first class that has one, earliest energized-since first, then lowest in the table (R48, R54). -/
theorem firstSuspended_eq {s : State} {i : Nat} {st : Stage} {c : Cls} {since : Time} (hs : s.stage? i = some st)
    (hst : st.state = .suspended) (hc : st.cls = some c) (hsince : st.since = some since)
    (hfirst : ∀ j w c', j ≠ i → s.stage? j = some w → w.state = .suspended → w.cls = some c' →
      classRank c < classRank c' ∨ (c' = c ∧ ∃ b, w.since = some b ∧
        (elapsed s.clock b < elapsed s.clock since ∨ (elapsed s.clock b = elapsed s.clock since ∧ i < j)))) :
    s.firstSuspended = some i := by
  have hof : ∀ {j w}, s.stage? j = some w → s.sinceOf j = w.since := fun {j w} hw => by
    unfold State.sinceOf; rw [hw]
  refine head?_byClass (c := c) (head?_sortBySince (stageIndexes_sorted _ _ _) (mem_suspendedIn.2 ⟨st, hs, hst, hc⟩)
    fun j hj hne => ?_) fun c' hlower => List.eq_nil_iff_forall_not_mem.2 fun j hj => ?_
  · obtain ⟨w, hw, hwst, hwc⟩ := mem_suspendedIn.1 hj
    rcases hfirst j w c hne hw hwst hwc with hlt | ⟨-, b, hb, hlater⟩
    · exact absurd hlt (Nat.lt_irrefl _)
    · rw [hof hs, hof hw, hsince, hb]
      simp only [sinceLe, decide_eq_true_eq]
      omega
  · obtain ⟨w, hw, hwst, hwc⟩ := mem_suspendedIn.1 (mem_bySince.1 hj)
    have hne : j ≠ i := by
      rintro rfl
      rw [hs] at hw
      cases hw
      rw [hc] at hwc
      cases hwc
      exact Nat.lt_irrefl _ hlower
    rcases hfirst j w c' hne hw hwst hwc with hlt | ⟨rfl, -⟩
    · exact Nat.lt_asymm hlt hlower
    · exact Nat.lt_irrefl _ hlower

theorem firstAdmissible_none {s : State} (h : ∀ c, ∀ j ∈ s.queue.get c, ¬ s.Able c j) : s.firstAdmissible = none := by
  refine Option.eq_none_iff_forall_ne_some.2 fun i hi => ?_
  obtain ⟨c, hm, hable⟩ := firstAdmissible_able hi
  exact h c i hm hable

/-- The first stage that can be admitted, in the queue's order of the first class that has one (R48, R54). -/
theorem firstAdmissible_eq {s : State} {i : Nat} {c : Cls} {before after : List Nat}
    (hq : s.queue.get c = before ++ i :: after) (hable : s.Able c i) (hbefore : ∀ j ∈ before, ¬ s.Able c j)
    (hlower : ∀ c', classRank c' < classRank c → ∀ j ∈ s.queue.get c', ¬ s.Able c' j) : s.firstAdmissible = some i := by
  refine head?_byClass (c := c) ?_ fun c' hc' => List.filter_eq_nil_iff.2 fun j hj hadm =>
    hlower c' hc' j hj (admissible_iff.1 hadm)
  have hnone : before.filter (s.admissible c) = [] :=
    List.filter_eq_nil_iff.2 fun j hj hadm => hbefore j hj (admissible_iff.1 hadm)
  rw [hq, List.filter_append, hnone, List.nil_append, List.filter_cons_of_pos (admissible_iff.2 hable)]
  rfl

theorem admissionAttempt_resume {s : State} {i : Nat} (hactive : s.alloc.sharing = .active) (hpace : s.pacing = .stopped)
    (h : s.firstSuspended = some i) : admissionAttempt s = resume i s := by
  unfold admissionAttempt
  rw [if_pos ⟨hactive, hpace⟩, h]

theorem admissionAttempt_admit {s : State} {i : Nat} (hactive : s.alloc.sharing = .active) (hpace : s.pacing = .stopped)
    (hnone : s.firstSuspended = none) (h : s.firstAdmissible = some i) : admissionAttempt s = admitStage i s := by
  unfold admissionAttempt
  rw [if_pos ⟨hactive, hpace⟩, hnone, h]

theorem admissionAttempt_nothing {s : State}
    (h : s.alloc.sharing = .active → s.firstSuspended = none ∧ s.firstAdmissible = none) : admissionAttempt s = s := by
  unfold admissionAttempt
  split
  · next hactive =>
    obtain ⟨hsus, hadm⟩ := h hactive.1
    rw [hsus, hadm]
  · rfl

/-! ### The statement -/

/-- The step of a pacing expiry: an attempt over the noted draw. -/
theorem finish_oweAttempt {s : State} (h : s.attemptDue = false) :
    finish (oweAttempt s) = driveOutputs (noteDraw (admissionAttempt (noteDraw s))) := by
  have hback : ({ oweAttempt s with attemptDue := false } : State) = s :=
    congrArg (fun a => ({ s with attemptDue := a } : State)) h.symm
  exact congrArg (fun u => driveOutputs (noteDraw (admissionAttempt (noteDraw u)))) hback

theorem finish_oweAttempt_nothing {s : State} (hdue : s.attemptDue = false)
    (h : s.alloc.sharing = .active → s.firstSuspended = none ∧ s.firstAdmissible = none) :
    Closes s (finish (oweAttempt s)) := by
  rw [finish_oweAttempt hdue, admissionAttempt_nothing (s := noteDraw s) h, noteDraw_noteDraw]
  exact close_closes s

/-- What switches a stage on, besides the stage's record and the queue: the next draw, and the pause it gives (R56). -/
structure Paces (s t : State) : Prop where
  seq : t.seq = seqStep s.seq
  pacing : t.pacing = .running (timeAfter s.clock (20 * (1 + (seqStep s.seq).toNat % 16)))

theorem resume_paces (i : Nat) (s : State) : Paces s (resume i s) := ⟨rfl, rfl⟩

theorem admitStage_paces (i : Nat) (s : State) : Paces s (admitStage i s) := ⟨rfl, rfl⟩

theorem resume_stage? {s : State} {i : Nat} {st : Stage} (hs : s.stage? i = some st) :
    ∃ v, (resume i s).stage? i = some { st.resumed s.clock s.sliceMs with feedback := v } := by
  obtain ⟨v, hv⟩ := refeedback_eq s.clock st (st.resumed s.clock s.sliceMs)
  exact ⟨v, (stage?_congr (resume_stages i s) i).trans ((stage?_modStage_same hs _).trans (congrArg some hv))⟩

theorem admitStage_stage? {s : State} {i : Nat} {st : Stage} (hs : s.stage? i = some st) :
    ∃ v, (admitStage i s).stage? i = some { st.admitted s.clock s.sliceMs with feedback := v } := by
  obtain ⟨v, hv⟩ := refeedback_eq s.clock st (st.admitted s.clock s.sliceMs)
  exact ⟨v, (stage?_congr (admitStage_stages i s) i).trans ((stage?_modStage_same hs _).trans (congrArg some hv))⟩

/-- A class rotates where it is zone or absorb (R58). -/
theorem admitted_turns (st : Stage) (now : Time) (ms : Nat) : st.admitted now ms = { st with
    state := .energized, since := some now, suspendedAt := none, wear := wearUp st.wear
    sliceStart := if st.cls = some .zone ∨ st.cls = some .absorb then some now else none
    slice := if st.cls = some .zone ∨ st.cls = some .absorb then .running (timeAfter now ms) else .stopped } := by
  unfold Stage.admitted
  cases st.cls with
  | none => rfl
  | some c => cases c <;> rfl

/-- The pacing timer stopped at its expiry. -/
def State.unpaced (s : State) (now : Time) : State := { s with clock := now, pacing := .stopped }

/-- Settles O22: the attempt finds the stage that class order, energized-since and the queue's order put first. -/
theorem pacingExpiryMakesAnAttempt : Obligations.PacingExpiryMakesAnAttempt := by
  intro s e hready hpace s1 v switchedOn rank able
  have hrank : rank = classRank := funext fun c => by cases c <;> rfl
  have hexec : exec .pacingExpiry s = .next (finish (oweAttempt s1)) := by
    change atExpiry s.pacing pacingExpiry s = _
    rw [hpace]
    exact atExpiry_running e _ s hready.running
  obtain ⟨now, hnow⟩ : ∃ now, s1 = s.unpaced now := by
    obtain ⟨now, hnow⟩ := advanceTo_eq e s
    exact ⟨now, congrArg (fun t : State => { t with pacing := .stopped }) hnow⟩
  clear_value s1 rank
  subst hnow hrank
  have hclosed := finish_oweAttempt (s := s.unpaced now) hready.settled
  have hswitched : ∀ i t, finish (oweAttempt (s.unpaced now)) = driveOutputs (noteDraw t) → Paces (noteDraw (s.unpaced now)) t →
      SwitchesOn (noteDraw (s.unpaced now)) t i → switchedOn (driveOutputs (noteDraw t)) i := fun i t ht hpaces hon => by
    refine ⟨hpaces.seq, hpaces.pacing, hon.others, ?_⟩
    obtain ⟨_, _, _, _, _, _, _, hfin⟩ := finish_frame (oweAttempt (s.unpaced now))
    rw [← ht, hfin]
    exact congrArg (fun a => ({ s with attemptDue := a } : State)) hready.settled.symm
  refine ⟨fun hne => ⟨_, hexec, finish_oweAttempt_nothing hready.settled fun hactive => absurd hactive hne⟩,
    fun _ hcold hnone => ⟨_, hexec, finish_oweAttempt_nothing hready.settled fun _ =>
      ⟨firstSuspended_none hcold, firstAdmissible_none hnone⟩⟩, ?_, ?_⟩
  · intro i st c since hactive hs hst hc hsince hfirst
    rw [admissionAttempt_resume (s := noteDraw (s.unpaced now)) hactive rfl
      (firstSuspended_eq hs hst hc hsince hfirst)] at hclosed
    obtain ⟨v, hstage⟩ := resume_stage? (s := noteDraw (s.unpaced now)) hs
    refine ⟨_, _, hexec.trans (congrArg _ hclosed), hswitched i _ hclosed (resume_paces i _) (resume_switchesOn hs), rfl, hstage,
      rfl, fun a b ha hb => ?_⟩
    simp only [Stage.resumed, ha, hb]
    exact ⟨rfl, rfl⟩
  · intro i st c before after hactive hcold hq hable hbefore hlower hs rotating
    rw [admissionAttempt_admit (s := noteDraw (s.unpaced now)) hactive rfl (firstSuspended_none hcold)
      (firstAdmissible_eq hq hable hbefore hlower)] at hclosed
    obtain ⟨v, hstage⟩ := admitStage_stage? (s := noteDraw (s.unpaced now)) hs
    refine ⟨_, _, hexec.trans (congrArg _ hclosed), hswitched i _ hclosed (admitStage_paces i _) (admit_switchesOn hs),
      admitStage_queue i _, hstage, ?_⟩
    rw [admitted_turns]
    rfl

end Sys2Proof.Machine
end

section
/-! The blower supervisor's timers (R155, R156): what the examination of a window leaves of each fan's record, and what the
failure of a fan leaves behind it until the step has closed. -/

namespace Sys2Proof.Machine

/-! ### BLOWER_FAILED follows the fans -/

/-- BLOWER_FAILED reads its flag and the fans only. -/
theorem blowerFailed_congr {s t : State} (hc : t.cond = s.cond) (hf : t.fans = s.fans) (h : s.Follows .blowerFailed) :
    t.Follows .blowerFailed := by
  have hholds : conditionHolds t .blowerFailed = conditionHolds s .blowerFailed := congrArg (List.any · _) hf
  unfold State.Follows
  rw [hc, hholds]
  exact h

theorem modFan_blowerFailed {f : FanId} {g : Blower → Blower} (hg : ∀ b, (g b).retrying = b.retrying) {s : State}
    (h : s.Follows .blowerFailed) : (s.modFan f g).Follows .blowerFailed :=
  h.trans (modFan_plain f hg s).anyRetrying.symm

theorem failFan_blowerFailed (f : FanId) (s : State) : (failFan f s).Follows .blowerFailed := by
  have h := recheck_follows .blowerFailed (s.modFan f (Blower.fail s.clock))
  unfold failFan
  dsimp only
  split
  · exact blowerFailed_congr (blowerLoss_only f _).cond_eq (blowerLoss_only f _).fans_eq h
  · exact h

theorem proveFan_blowerFailed (f : FanId) (s : State) : (proveFan f s).Follows .blowerFailed :=
  blowerFailed_congr rfl rfl (recheck_follows .blowerFailed _)

/-- BLOWER_FAILED is current where it follows the fans and one of them retries (R156). -/
theorem blowerFailed_of_retrying {s : State} {f : FanId} {b : Blower} (h : s.Follows .blowerFailed) (hb : s.fan? f = some b)
    (hr : b.retrying = true) : flagSet s.cond.current .blowerFailed = true :=
  h.trans (List.any_eq_true.2 ⟨b, List.mem_of_find?_eq_some hb, hr⟩)

/-! ### One fan fails, or is proven -/

/-- A fan reached RUNNING (R155). -/
def Blower.proven (b : Blower) : Blower := { b with state := .running, start := .stopped, retrying := false }

theorem failFan_fan? (f f' : FanId) (s : State) :
    (failFan f s).fan? f' = if f' = f then (s.fan? f').map (Blower.fail s.clock) else s.fan? f' := by
  have hfan : (recheck .blowerFailed (s.modFan f (Blower.fail s.clock))).fan? f' =
      if f' = f then (s.fan? f').map (Blower.fail s.clock) else s.fan? f' :=
    (fan?_congr (recheck_only _ _).fans_eq f').trans (fan?_modFan s f f' fun _ => rfl)
  unfold failFan
  dsimp only
  split
  · exact (fan?_congr (blowerLoss_only f _).fans_eq f').trans hfan
  · exact hfan

theorem proveFan_fan? (f f' : FanId) (s : State) :
    (proveFan f s).fan? f' = if f' = f then (s.fan? f').map Blower.proven else s.fan? f' :=
  (fan?_congr (recheck_only .blowerFailed _).fans_eq f').trans (fan?_modFan s f f' fun _ => rfl)

/-- No stage that the fan serves heats. -/
def State.ColdBehind (s : State) (f : FanId) : Prop := ∀ i st, s.stage? i = some st → st.owner.fan = f → st.heating = false

theorem State.ColdBehind.cools {s t : State} {f : FanId} (h : s.ColdBehind f) (hc : s.Cools t) : t.ColdBehind f :=
  fun i st' ht hf => Bool.eq_false_iff.2 fun hh => by
    obtain ⟨st, hs, hr⟩ := hc i st' ht
    exact Bool.false_ne_true ((h i st hs (hr.owner ▸ hf)).symm.trans (hr.heating hh))

/-- A RUNNING fan that fails takes the stages it serves off (R65). -/
theorem failFan_coldBehind {f : FanId} {s : State} (h : s.fanRunning f = true) : (failFan f s).ColdBehind f := by
  unfold failFan
  dsimp only
  rw [if_pos h]
  exact fun _ _ ht hf => blowerLoss_cold ht hf

theorem SwitchesOn.coldBehind {s t : State} {i : Nat} {f : FanId} (h : SwitchesOn s t i)
    (hi : ∀ st, s.stage? i = some st → st.owner.fan ≠ f) (hcold : s.ColdBehind f) : t.ColdBehind f := fun j x hx hf => by
  by_cases hj : j = i
  · subst hj
    obtain ⟨st, st', hs, ht, ho, -⟩ := h.stage
    rw [ht] at hx
    cases hx
    exact absurd (ho ▸ hf) (hi st hs)
  · exact hcold j x ((h.others j hj).symm.trans hx) hf

/-- What closes a step switches no stage on whose blower does not run: it resumes none that is off, and admits over a RUNNING
blower (R54). -/
theorem finish_coldBehind {s : State} {f : FanId} (hf : s.fanRunning f = false) (h : s.ColdBehind f) :
    (finish s).ColdBehind f := by
  obtain ⟨u, v, hu, hmake, hv, -⟩ := finish_makes s
  have hcold := h.cools hu.kept.cools
  refine State.ColdBehind.cools ?_ hv.kept.cools
  rcases hmake with rfl | ⟨i, st, -, hs, hst, rfl⟩ | ⟨i, c, -, -, ⟨st, hs, -, -, hrun, -⟩, rfl⟩
  · exact hcold
  · refine (resume_switchesOn hs).coldBehind (fun st' hs' ho => ?_) hcold
    rw [hs] at hs'
    cases hs'
    have hheats : st.heating = true := (Stage.heating_iff st).2 (.inr hst)
    exact Bool.false_ne_true ((hcold i st hs ho).symm.trans hheats)
  · refine (admit_switchesOn hs).coldBehind (fun st' hs' ho => ?_) hcold
    rw [hs] at hs'
    cases hs'
    rw [ho, fanRunning_congr hu.fans, hf] at hrun
    cases hrun

/-! ### The examination of one fan -/

/-- What the examination of a window leaves of a fan's record, by the least count `least` of its tachometer (R155). -/
def Blower.examined (least : Nat) (now : Time) (b : Blower) : Blower :=
  if b.state = .starting ∧ least ≤ b.tach then { b.proven with tach := 0 }
  else if b.state = .running ∧ ¬ least ≤ b.tach then { b.fail now with tach := 0 }
  else { b with tach := 0 }

theorem Blower.examined_fails {least : Nat} {now : Time} {b : Blower} (hst : b.state = .running) (h : ¬ least ≤ b.tach) :
    b.examined least now = { b.fail now with tach := 0 } := by
  have hnot : ¬ (b.state = .starting ∧ least ≤ b.tach) := fun hp => h hp.2
  unfold Blower.examined
  rw [if_neg hnot, if_pos ⟨hst, h⟩]

theorem Blower.examined_leaves {least : Nat} {now : Time} {b : Blower}
    (h : b.state = .starting ∧ ¬ least ≤ b.tach ∨ b.state = .running ∧ least ≤ b.tach ∨ b.state = .stopped ∨ b.state = .failed) :
    b.examined least now = { b with tach := 0 } := by
  have hprove : ¬ (b.state = .starting ∧ least ≤ b.tach) := by rintro ⟨hst, hle⟩; simp [hst, hle] at h
  have hfail : ¬ (b.state = .running ∧ ¬ least ≤ b.tach) := by rintro ⟨hst, hlt⟩; simp [hst, hlt] at h
  unfold Blower.examined
  rw [if_neg hprove, if_neg hfail]

theorem examineFan_proves {f : FanId} {s : State} {b : Blower} (hb : s.fan? f = some b)
    (h : b.state = .starting ∧ s.config.fanMinOf f ≤ b.tach) :
    examineFan f s = (proveFan f s).modFan f (fun b => { b with tach := 0 }) := by
  simp [examineFan, hb, h]

theorem examineFan_fails {f : FanId} {s : State} {b : Blower} (hb : s.fan? f = some b)
    (h : b.state = .running ∧ ¬ s.config.fanMinOf f ≤ b.tach) :
    examineFan f s = (failFan f s).modFan f (fun b => { b with tach := 0 }) := by
  simp [examineFan, hb, h]

theorem examineFan_leaves {f : FanId} {s : State}
    (h : ∀ b, s.fan? f = some b → ¬ (b.state = .starting ∧ s.config.fanMinOf f ≤ b.tach)
      ∧ ¬ (b.state = .running ∧ ¬ s.config.fanMinOf f ≤ b.tach)) :
    examineFan f s = s.modFan f (fun b => { b with tach := 0 }) := by
  unfold examineFan
  cases hb : s.fan? f with
  | none => rfl
  | some b =>
    obtain ⟨hprove, hfail⟩ := h b hb
    cases hst : b.state with
    | starting =>
      have hless : ¬ s.config.fanMinOf f ≤ b.tach := fun hle => hprove ⟨hst, hle⟩
      simp only [hst, hless, decide_false, Bool.false_eq_true, if_false]
    | running =>
      have hless : s.config.fanMinOf f ≤ b.tach := Decidable.byContradiction fun hle => hfail ⟨hst, hle⟩
      simp only [hst, hless, decide_true, if_true]
    | stopped => simp only [hst]
    | failed => simp only [hst]

/-- The examination of a fan proves it, fails it, or leaves it, and then clears its count. -/
theorem examineFan_does (f : FanId) (s : State) : ∃ u, examineFan f s = u.modFan f (fun b => { b with tach := 0 })
    ∧ (u = proveFan f s ∨ u = failFan f s ∨ u = s) := by
  by_cases h : ∃ b, s.fan? f = some b ∧ b.state = .starting ∧ s.config.fanMinOf f ≤ b.tach
  · obtain ⟨b, hb, hprove⟩ := h
    exact ⟨_, examineFan_proves hb hprove, .inl rfl⟩
  · by_cases h' : ∃ b, s.fan? f = some b ∧ b.state = .running ∧ ¬ s.config.fanMinOf f ≤ b.tach
    · obtain ⟨b, hb, hfail⟩ := h'
      exact ⟨_, examineFan_fails hb hfail, .inr (.inl rfl)⟩
    · exact ⟨_, examineFan_leaves fun b hb => ⟨fun hp => h ⟨b, hb, hp⟩, fun hf => h' ⟨b, hb, hf⟩⟩, .inr (.inr rfl)⟩

theorem examineFan_fan?_other {f f' : FanId} (hne : f' ≠ f) (s : State) : (examineFan f s).fan? f' = s.fan? f' := by
  obtain ⟨u, h, hu⟩ := examineFan_does f s
  rw [h, fan?_modFan _ _ _ (by exact fun _ => rfl), if_neg hne]
  rcases hu with rfl | rfl | rfl
  · rw [proveFan_fan?, if_neg hne]
  · rw [failFan_fan?, if_neg hne]
  · rfl

theorem examineFan_fan?_same {f : FanId} {s : State} {b : Blower} (hb : s.fan? f = some b) :
    (examineFan f s).fan? f = some (b.examined (s.config.fanMinOf f) s.clock) := by
  unfold Blower.examined
  by_cases hprove : b.state = .starting ∧ s.config.fanMinOf f ≤ b.tach
  · rw [examineFan_proves hb hprove, fan?_modFan _ _ _ (by exact fun _ => rfl), proveFan_fan?, hb, if_pos hprove]
    simp
  · by_cases hfail : b.state = .running ∧ ¬ s.config.fanMinOf f ≤ b.tach
    · rw [examineFan_fails hb hfail, fan?_modFan _ _ _ (by exact fun _ => rfl), failFan_fan?, hb, if_neg hprove, if_pos hfail]
      simp
    · have hleaves := examineFan_leaves (f := f) (s := s) fun b' hb' => by
        rw [hb] at hb'
        cases hb'
        exact ⟨hprove, hfail⟩
      rw [hleaves, fan?_modFan _ _ _ (by exact fun _ => rfl), hb, if_neg hprove, if_neg hfail]
      simp

theorem examineFan_blowerFailed {f : FanId} {s : State} (h : s.Follows .blowerFailed) :
    (examineFan f s).Follows .blowerFailed := by
  obtain ⟨u, heq, hu⟩ := examineFan_does f s
  rw [heq]
  refine modFan_blowerFailed (by exact fun _ => rfl) ?_
  rcases hu with rfl | rfl | rfl
  · exact proveFan_blowerFailed f s
  · exact failFan_blowerFailed f s
  · exact h

/-! ### The examination of every fan -/

/-- Every fan of a list is examined, in its order. -/
def examineFans (l : List FanId) (s : State) : State := l.foldl (fun s f => examineFan f s) s

theorem examineFans_only : ∀ (l : List FanId) (s : State), FanOnly s (examineFans l s)
  | [], s => .refl s
  | f :: l, s => (examineFan_only f s).trans (examineFans_only l _)

theorem examineFans_cools (l : List FanId) (s : State) : s.Cools (examineFans l s) :=
  (HeatKept.foldl (fun s f => examineFan_heat f s) l s).cools

theorem examineFans_blowerFailed (l : List FanId) {s : State} (h : s.Follows .blowerFailed) :
    (examineFans l s).Follows .blowerFailed := by
  induction l generalizing s with
  | nil => exact h
  | cons g l ih => exact ih (examineFan_blowerFailed h)

theorem examineFans_fan?_other {f : FanId} {l : List FanId} (h : f ∉ l) (s : State) : (examineFans l s).fan? f = s.fan? f := by
  induction l generalizing s with
  | nil => rfl
  | cons g l ih =>
    obtain ⟨hne, hl⟩ := not_or.1 (fun hm => h (List.mem_cons.2 hm))
    exact (ih hl _).trans (examineFan_fan?_other hne s)

/-- Each fan is examined once, by the record it began with. -/
theorem examineFans_fan? {f : FanId} {b : Blower} {l : List FanId} {s : State} (hn : l.Nodup) (hf : f ∈ l)
    (hb : s.fan? f = some b) : (examineFans l s).fan? f = some (b.examined (s.config.fanMinOf f) s.clock) := by
  induction l generalizing s with
  | nil => cases hf
  | cons g l ih =>
    obtain ⟨hg, hl⟩ := List.nodup_cons.1 hn
    change (examineFans l (examineFan g s)).fan? f = _
    by_cases hgf : f = g
    · subst hgf
      exact (examineFans_fan?_other hg _).trans (examineFan_fan?_same hb)
    · rw [ih hl ((List.mem_cons.1 hf).resolve_left hgf) ((examineFan_fan?_other hgf s).trans hb),
        (examineFan_only g s).config_eq, (examineFan_only g s).clock_eq]

/-- A RUNNING fan that is not proven fails, and its stages stay off to the end of the examination. -/
theorem examineFans_fails {f : FanId} {b : Blower} {l : List FanId} {s : State} (hf : f ∈ l) (hb : s.fan? f = some b)
    (hrun : b.state = .running) (htach : ¬ s.config.fanMinOf f ≤ b.tach) :
    (examineFans l s).Follows .blowerFailed ∧ (examineFans l s).ColdBehind f := by
  induction l generalizing s with
  | nil => cases hf
  | cons g l ih =>
    change (examineFans l (examineFan g s)).Follows .blowerFailed ∧ (examineFans l (examineFan g s)).ColdBehind f
    by_cases hgf : f = g
    · subst hgf
      have hfails := examineFan_fails hb ⟨hrun, htach⟩
      have hfollows : (examineFan f s).Follows .blowerFailed := by
        rw [hfails]
        exact modFan_blowerFailed (by exact fun _ => rfl) (failFan_blowerFailed f s)
      have hcold : (examineFan f s).ColdBehind f := by
        rw [hfails]
        exact failFan_coldBehind (by simp [State.fanRunning, hb, hrun])
      exact ⟨examineFans_blowerFailed l hfollows, hcold.cools (examineFans_cools l _)⟩
    · refine ih ((List.mem_cons.1 hf).resolve_left hgf) ((examineFan_fan?_other hgf s).trans hb) ?_
      rw [(examineFan_only g s).config_eq]
      exact htach

/-! ### The statement -/

/-- With each fan named once, a fan of the table is the one its name finds. -/
theorem fan?_of_mem {s : State} {b : Blower} (hn : (s.fans.map (·.fan)).Nodup) (hb : b ∈ s.fans) : s.fan? b.fan = some b := by
  have hsome : (s.fan? b.fan).isSome := List.find?_isSome.2 ⟨b, hb, beq_self_eq_true _⟩
  obtain ⟨b', hb'⟩ := Option.isSome_iff_exists.1 hsome
  have hsame : b' = b := List.inj_on_of_nodup_map hn (List.mem_of_find?_eq_some hb') hb (fan_of_fan? hb')
  rw [hb', hsame]

/-- The start limit of a STARTING fan fails it, and takes no stage off (R155). -/
theorem startExpiry_fails {f : FanId} {s : State} {b : Blower} (hb : s.fan? f = some b) (hst : b.state = .starting) :
    startExpiry f s = failFan f (s.modFan f (fun b => { b with start := .stopped })) := by
  simp [startExpiry, hb, hst]

theorem startExpiry_only (f : FanId) (s : State) : FanOnly s (startExpiry f s) := by
  have h := modFan_only f (fun b => { b with start := .stopped }) s
  unfold startExpiry
  dsimp only
  split
  · split
    · exact h.trans (failFan_only f _)
    · exact h
  · exact h

/-- The clock moves to an expiry, and the window timer is set. -/
def State.window (s : State) (now : Time) (w : Timer) : State := { s with clock := now, windowTimer := w }

theorem windowExpiry_eq (s : State) (now : Time) : windowExpiry { s with clock := now } =
    examineFans (s.fans.map (·.fan)) (s.window now (s.windowTimer.next 500)) := by
  rw [examineFans, List.foldl_map]
  rfl

/-- Settles O25: each fan is examined by the record it had, and what its failure took off stays off while the others are
examined and the step closes; the start limit fails the fan, and the retry starts it again. -/
theorem blowersAreProven : Obligations.BlowersAreProven := by
  intro s e hready now failed others
  have hadv : advanceTo e s = { s with clock := now } := by
    obtain ⟨clock, hclock⟩ := advanceTo_eq e s
    rw [hclock, show now = clock from congrArg State.clock hclock]
  clear_value now
  have hstep : ∀ effect, atExpiry (.running e) effect s = .next (finish (effect { s with clock := now })) := fun effect =>
    hadv ▸ atExpiry_running e effect s hready.running
  have hothers : ∀ {w t}, FanOnly (s.window now w) t → others (finish t) := fun {w t} ⟨_, _, _, _, _, _, ht⟩ => by
    obtain ⟨_, _, _, _, _, _, _, hfin⟩ := finish_frame t
    change ({ finish t with
      clock := s.clock, windowTimer := s.windowTimer, fans := s.fans, stages := s.stages, queue := s.queue,
      pacing := s.pacing, seq := s.seq, view := s.view, link := s.link, cond := s.cond, outputs := s.outputs } : State) = s
    rw [hfin, ht]
    exact congrArg (fun a => ({ s with attemptDue := a } : State)) hready.settled.symm
  have hfan : ∀ {t : State} {f o}, t.fan? f = o → (finish t).fan? f = o := fun h => (fan?_congr (finish_fans _) _).trans h
  have hflag : ∀ {t : State} {f b}, t.Follows .blowerFailed → t.fan? f = some b → b.retrying = true →
      flagSet (finish t).cond.current .blowerFailed = true := fun {t f b} hfollows hb hr => by
    rw [finish_cond]
    exact blowerFailed_of_retrying hfollows hb hr
  refine ⟨fun htimer hn => ?_, fun f b hb => ⟨fun htimer hst => ?_, fun htimer hst => ?_⟩⟩
  · have hexec : exec .tachWindowExpiry s = .next (finish (windowExpiry { s with clock := now })) :=
      (congrArg (fun timer => atExpiry timer windowExpiry s) htimer).trans (hstep windowExpiry)
    rw [windowExpiry_eq, htimer] at hexec
    have honly := examineFans_only (s.fans.map (·.fan)) (s.window now (.running (timeAfter e 500)))
    refine ⟨_, hexec, ?_, hothers honly, fun b hb => ?_⟩
    · obtain ⟨_, _, _, _, _, _, _, hfin⟩ := finish_frame
        (examineFans (s.fans.map (·.fan)) (s.window now (.running (timeAfter e 500))))
      exact (congrArg State.windowTimer hfin).trans honly.windowTimer_eq
    · have hmem : b.fan ∈ s.fans.map (·.fan) := List.mem_map_of_mem hb
      have hb' : (s.window now (.running (timeAfter e 500))).fan? b.fan = some b := fan?_of_mem hn hb
      have hrecord := examineFans_fan? hn hmem hb'
      refine ⟨fun hst henough => ?_, fun hst henough => ?_, fun hst => ?_⟩
      · exact hfan (hrecord.trans (congrArg some (if_pos ⟨hst, henough⟩)))
      · have hfailed := hrecord.trans (congrArg some (Blower.examined_fails hst henough))
        obtain ⟨hfollows, hcold⟩ := examineFans_fails hmem hb' hst henough
        refine ⟨hfan hfailed, hflag hfollows hfailed rfl, fun st hmem hf => ?_⟩
        obtain ⟨i, hi⟩ := List.mem_iff_getElem?.1 hmem
        exact finish_coldBehind (by simp [State.fanRunning, hfailed, Blower.fail]) hcold i st hi hf
      · exact hfan (hrecord.trans (congrArg some (Blower.examined_leaves hst)))
  · have hstart : s.startTimer f = .running e := by rw [State.startTimer, hb]; exact htimer
    have hexec : exec (.startTimerExpiry f) s = .next (finish (startExpiry f { s with clock := now })) :=
      (congrArg (fun timer => atExpiry timer (startExpiry f) s) hstart).trans (hstep (startExpiry f))
    have hb' : (s.window now s.windowTimer).fan? f = some b := hb
    have hfails := startExpiry_fails hb' hst
    have hrecord : (startExpiry f (s.window now s.windowTimer)).fan? f = some (failed b) := by
      rw [hfails, failFan_fan?, if_pos rfl, fan?_modFan _ _ _ (by exact fun _ => rfl), if_pos rfl, hb']
      rfl
    have hfollows : (startExpiry f (s.window now s.windowTimer)).Follows .blowerFailed := by
      rw [hfails]; exact failFan_blowerFailed f _
    exact ⟨_, hexec, hfan hrecord, hflag hfollows hrecord rfl, hothers (startExpiry_only f (s.window now s.windowTimer))⟩
  · have hretry : s.retryTimer f = .running e := by rw [State.retryTimer, hb]; exact htimer
    have hexec : exec (.retryTimerExpiry f) s = .next (finish (retryExpiry f { s with clock := now })) :=
      (congrArg (fun timer => atExpiry timer (retryExpiry f) s) hretry).trans (hstep (retryExpiry f))
    have hb' : (s.window now s.windowTimer).fan? f = some b := hb
    refine ⟨_, hexec, hothers (modFan_only f _ (s.window now s.windowTimer)), hfan ?_⟩
    have hname : ∀ b : Blower, (if b.state = .failed then b.starting now else { b with retry := .stopped }).fan = b.fan :=
      fun b => by split <;> rfl
    refine (fan?_modFan (s.window now s.windowTimer) f f hname).trans ?_
    rw [if_pos rfl, hb', Option.map_some, if_pos hst]
    rfl

end Sys2Proof.Machine
end

section
/-! The defrost check (R130, R131): the record it tests, and what an entry into a defrost state hands on (R135). -/

namespace Sys2Proof.Machine

/-! ### An entry into a defrost state -/

/-- What an entry into a defrost state leaves: its record, its stage count handed on, the level of its fan, and all else as a
hand-off leaves it (R49, R135, R138). -/
structure DefrostEnters (d' : Defrost) (count level : Nat) (s t : State) : Prop where
  defrost : t.defrost = some d'
  stages : s.QueueSound → t.Handed .defrost .safety count
  fan : ∀ b, s.fan? .defrost = some b → ∃ b', t.fan? .defrost = some b' ∧ b'.level = level
  frame : HandOnly { s with defrost := some d' } t

/-- A change of the record alone, after an entry. -/
theorem DefrostEnters.modDefrost {d' : Defrost} {count level : Nat} {s t : State} (h : DefrostEnters d' count level s t)
    (g : Defrost → Defrost) : DefrostEnters (g d') count level s (t.modDefrost g) where
  defrost := by rw [State.modDefrost_defrost, h.defrost]; rfl
  stages := h.stages
  fan := h.fan
  frame := by
    obtain ⟨_, _, _, _, _, _, _, _, ht⟩ := h.frame
    rw [ht]
    exact ⟨_, _, _, _, _, _, _, _, rfl⟩

theorem Defrost.sweep_rests {now : Time} {old : DefrostState} {d : Defrost} (h : d.state = .off) :
    d.sweep now old = { d with louvreTimer := .stopped, louvre := 0, direction := .up } := if_pos h

theorem Defrost.sweep_starts {now : Time} {old : DefrostState} {d : Defrost} (h : d.state ≠ .off) (hold : old = .off) :
    d.sweep now old = { d with louvreTimer := .running (timeAfter now 200), louvre := 0, direction := .up } :=
  (if_neg h).trans (if_pos hold)

/-- The hand-off of the defrost stages and the command of the defrost fan (R135, R138). -/
theorem handDefrost_enters {s : State} {d : Defrost} (hd : s.defrost = some d) (count level : Nat) :
    DefrostEnters d count level s (reformClaims (commandFan .defrost level (handOffSingle .defrost .safety count s))) := by
  have hstages := handOffSingle_only .defrost .safety count s
  have hfan := commandFan_only .defrost level (handOffSingle .defrost .safety count s)
  have hclaims := reformClaims_only (commandFan .defrost level (handOffSingle .defrost .safety count s))
  have honly := (hstages.toHandOnly.trans hfan.toHandOnly).trans hclaims.toHandOnly
  have hroles := ((commandFan_roles .defrost level (handOffSingle .defrost .safety count s)).trans (reformClaims_roles _)).roles
  have hsame : ({ s with defrost := some d } : State) = s := congrArg (fun x => ({ s with defrost := x } : State)) hd.symm
  refine { defrost := honly.defrost_eq.trans hd, stages := fun hsound => ?_, fan := fun b hb => ?_,
           frame := by rw [hsame]; exact honly }
  · exact Handed_of_roles hroles (handOffSingle_handed hsound _ _ _)
  · refine ⟨b.commanded s.clock level, ?_, Blower.commanded_level _ _ b⟩
    rw [fan?_congr hclaims.fans_eq, commandFan_fan?, if_pos rfl, fan?_congr hstages.fans_eq, hb, hstages.clock_eq]
    rfl

theorem defrostEnter_enters {s : State} {d : Defrost} {new : DefrostState} (hd : s.defrost = some d) (hne : d.state ≠ new) :
    DefrostEnters (Defrost.sweep s.clock d.state { d with state := new }) (defrostCount s.config.cab new)
      (if new = .off then 0 else 1) s (defrostEnter new s) := by
  have hset : (s.modDefrost (fun d => { d with state := new })).defrost = some { d with state := new } := by
    rw [State.modDefrost_defrost, hd]
    rfl
  have hhand := handDefrost_enters hset (defrostCount s.config.cab new) (if new = .off then 0 else 1)
  have hswept := hhand.modDefrost (Defrost.sweep s.clock d.state)
  have henter : defrostEnter new s = (reformClaims (commandFan .defrost (if new = .off then 0 else 1) (handOffSingle .defrost
      .safety (defrostCount s.config.cab new) (s.modDefrost (fun d => { d with state := new }))))).modDefrost
        (Defrost.sweep s.clock d.state) := by
    unfold defrostEnter
    simp only [hd, if_neg hne]
  rw [henter]
  exact ⟨hswept.defrost, fun hsound => hswept.stages (queueSound_congr rfl rfl hsound), hswept.fan, hswept.frame⟩

/-! ### The check -/

/-- The record after the test of a check, its timer started anew (R130, R131). -/
def Defrost.checked (margin : Nat) (d : Defrost) : Defrost :=
  { d with check := d.check.next 5000, dew := d.dewNow, fogRisk := d.fogNow margin }

/-- The state after the test of a check. -/
def State.fogTested (s : State) (d : Defrost) : State := { s with defrost := some (d.checked s.config.cab.margin) }

theorem fogTest_check {s : State} {d : Defrost} (hd : s.defrost = some d) :
    fogTest (s.modDefrost (fun d => { d with check := d.check.next 5000 })) = s.fogTested d := by
  unfold fogTest State.modDefrost
  rw [hd]
  rfl

theorem defrostCheck_stays {s : State} {d : Defrost} (hd : s.defrost = some d)
    (h : d.state = .boost ∨ d.state = .off ∧ d.fogNow s.config.cab.margin = false) : defrostCheck s = s.fogTested d := by
  unfold defrostCheck
  rw [fogTest_check hd, hd]
  rcases h with hst | ⟨hst, hfog⟩
  · simp only [hst]
  · simp only [hst, hfog, Bool.false_eq_true, if_false]

theorem defrostCheck_demists {s : State} {d : Defrost} (hd : s.defrost = some d) (hst : d.state = .off)
    (hfog : d.fogNow s.config.cab.margin = true) : defrostCheck s = defrostEnter .demist (s.fogTested d) := by
  unfold defrostCheck
  rw [fogTest_check hd, hd]
  simp only [hst, hfog, if_true]

theorem defrostCheck_fogged {s : State} {d : Defrost} (hd : s.defrost = some d) (hst : d.state = .demist)
    (hclear : d.clearNow s.config.cab.margin = false) :
    defrostCheck s = (s.fogTested d).modDefrost (fun d => { d with clearCount := 0 }) := by
  unfold defrostCheck
  rw [fogTest_check hd, hd]
  simp only [hst, hclear, Bool.false_eq_true, if_false]

theorem defrostCheck_counts {s : State} {d : Defrost} (hd : s.defrost = some d) (hst : d.state = .demist)
    (hclear : d.clearNow s.config.cab.margin = true) (hcount : d.clearCount < 2) :
    defrostCheck s = (s.fogTested d).modDefrost (fun d => { d with clearCount := d.clearCount + 1 }) := by
  have hfew : ¬ 3 ≤ d.clearCount + 1 := by omega
  unfold defrostCheck
  rw [fogTest_check hd, hd]
  simp only [hst, hclear, if_true, if_neg hfew]

theorem defrostCheck_ends {s : State} {d : Defrost} (hd : s.defrost = some d) (hst : d.state = .demist)
    (hclear : d.clearNow s.config.cab.margin = true) (hcount : 2 ≤ d.clearCount) :
    defrostCheck s = (defrostEnter .off (s.fogTested d)).modDefrost (fun d => { d with clearCount := 0 }) := by
  have hthird : 3 ≤ d.clearCount + 1 := by omega
  unfold defrostCheck
  rw [fogTest_check hd, hd]
  simp only [hst, hclear, if_true, if_pos hthird]

/-- The dew estimate, sensor by sensor (R129, R130). -/
theorem dewNow_eq (d : Defrost) : d.dewNow = match d.cabTemp, d.humidity with
    | some x, some h => if d.cabRun = 3 then none else some (x - ((1000 - h) / 5 : Nat))
    | _, _ => none := by
  unfold Defrost.dewNow
  by_cases hrun : d.cabRun = 3
  · simp only [if_pos hrun]
    cases d.cabTemp <;> cases d.humidity <;> rfl
  · simp only [if_neg hrun]
    cases d.cabTemp <;> cases d.humidity <;> rfl

/-! ### The statement -/

/-- Settles O40: the record is tested, and moves by the table; an entry hands on stages and fan, and the step's close keeps
their roles and levels. -/
theorem defrostCheckTestsFogRisk : Obligations.DefrostCheckTestsFogRisk := by
  intro s e d hready hd hcheck s1 margin dew screen fog clear tested only moves
  have hdew : dew = d.dewNow := (dewNow_eq d).symm
  have hfog : fog = d.fogNow s.config.cab.margin := by
    unfold Defrost.fogNow
    rw [← hdew]
    rfl
  have hclear : clear = d.clearNow s.config.cab.margin := by
    unfold Defrost.clearNow
    rw [← hdew]
    rfl
  have hexec : exec .defrostCheck s = .next (finish (defrostCheck s1)) := by
    have htimer : s.defrostTimer Defrost.check = .running e := by rw [State.defrostTimer, hd]; exact hcheck
    exact (congrArg (fun timer => atExpiry timer defrostCheck s) htimer).trans (atExpiry_running e _ s hready.running)
  have htested : tested = d.checked s.config.cab.margin := by
    unfold Defrost.checked
    rw [hcheck, ← hdew, ← hfog]
    rfl
  obtain ⟨now, hnow⟩ : ∃ now, s1 = { s with clock := now } := advanceTo_eq e s
  clear_value s1 tested fog clear
  subst hnow htested hfog hclear
  have hd1 : State.defrost { s with clock := now } = some d := hd
  have honly : ∀ {d'}, defrostCheck { s with clock := now } = { s with clock := now, defrost := some d' } → only d' :=
    fun {d'} heq => by
      rw [heq] at hexec
      exact ⟨_, hexec, finish_closes_none _ hready.settled⟩
  have hmoves : ∀ {d' count level}, DefrostEnters d' count level (State.fogTested { s with clock := now } d)
      (defrostCheck { s with clock := now }) → moves d' count level := fun {d' count level} h => by
    obtain ⟨_, _, _, _, _, _, _, _, hframe⟩ := h.frame
    obtain ⟨_, _, _, _, _, _, _, hfin⟩ := finish_frame (defrostCheck { s with clock := now })
    refine ⟨_, hexec, ?_, fun hsound => ?_, fun b hb => ?_, ?_⟩
    · rw [hfin]; exact h.defrost
    · exact Handed_of_roles (finish_roles _).roles (h.stages (queueSound_congr rfl rfl hsound))
    · rw [fan?_congr (finish_fans _)]; exact h.fan b hb
    · rw [hfin, hframe]
      exact congrArg (fun a => ({ s with attemptDue := a } : State)) hready.settled.symm
  refine ⟨fun h => honly (defrostCheck_stays hd1 h), fun hst hfog => hmoves ?_,
    fun hst hclear => honly (defrostCheck_fogged hd1 hst hclear),
    fun hst hclear hcount => honly (defrostCheck_counts hd1 hst hclear hcount), fun hst hclear hcount => hmoves ?_⟩
  · have henters := defrostEnter_enters (s := State.fogTested { s with clock := now } d) (new := .demist) rfl
      (fun h => DefrostState.noConfusion (hst.symm.trans h))
    rw [Defrost.sweep_starts DefrostState.noConfusion (by exact hst)] at henters
    rw [defrostCheck_demists hd1 hst hfog]
    exact henters
  · have henters := (defrostEnter_enters (s := State.fogTested { s with clock := now } d) (new := .off) rfl
      (fun h => DefrostState.noConfusion (hst.symm.trans h))).modDefrost (fun d => { d with clearCount := 0 })
    rw [Defrost.sweep_rests rfl] at henters
    rw [defrostCheck_ends hd1 hst hclear hcount]
    exact henters

end Sys2Proof.Machine
end

section
/-! The allocation computation (R71): what one class is granted of an amount, and what that leaves for the next. -/

namespace Sys2Proof.Machine

/-! ### One class -/

/-- What the claims of one class are granted of the amount `A`: all of them, or the floors of their proportional shares (R71). -/
def grantOf (A : Nat) (claims : List Nat) : List Nat :=
  if claims.sum ≤ A then claims else claims.map (fun q => A * q / claims.sum)

theorem shareClass_eq (A : Nat) (claims : List Nat) :
    shareClass A claims = (grantOf A claims, A - (grantOf A claims).sum) := by
  unfold shareClass grantOf
  dsimp only
  split <;> rfl

/-- The floors of proportional shares sum to no more than the share of the sum. -/
theorem sum_floors_mul_le (A C : Nat) : ∀ l : List Nat, (l.map (fun q => A * q / C)).sum * C ≤ A * l.sum
  | [] => by simp
  | q :: l => by
    have hl := sum_floors_mul_le A C l
    have hq := Nat.div_mul_le_self (A * q) C
    simp only [List.map_cons, List.sum_cons, Nat.add_mul, Nat.mul_add]
    omega

theorem grantOf_sum_le (A : Nat) (claims : List Nat) : (grantOf A claims).sum ≤ A := by
  unfold grantOf
  split
  · assumption
  · next h => exact Nat.le_of_mul_le_mul_right (sum_floors_mul_le A claims.sum claims) (by omega)

/-- A class is granted to no station more than it claims. -/
theorem grantOf_le {A i x q : Nat} {claims : List Nat} (hx : (grantOf A claims)[i]? = some x) (hq : claims[i]? = some q) :
    x ≤ q := by
  unfold grantOf at hx
  split at hx
  · rw [hx] at hq
    cases hq
    exact Nat.le_refl _
  · next h =>
    rw [List.getElem?_map, hq] at hx
    cases hx
    exact Nat.div_le_of_le_mul (Nat.mul_le_mul_right q (by omega))

/-! ### The four classes -/

/-- SAFETY, CURTAIN and ZONE share the budget in that order, ABSORB the surplus. -/
theorem allocate_eq (budget surplus : Nat) (counted : PerClass (List Nat)) :
    let afterSafety := budget - (grantOf budget counted.safety).sum
    let afterCurtain := afterSafety - (grantOf afterSafety counted.curtain).sum
    allocate budget surplus counted = ⟨grantOf budget counted.safety, grantOf afterSafety counted.curtain,
      grantOf afterCurtain counted.zone, grantOf surplus counted.absorb⟩ := by
  unfold allocate
  simp only [shareClass_eq]

/-- Every class is granted out of some amount. -/
theorem allocate_get (budget surplus : Nat) (counted : PerClass (List Nat)) (c : Cls) :
    ∃ A, (allocate budget surplus counted).get c = grantOf A (counted.get c) := by
  rw [allocate_eq]
  cases c <;> exact ⟨_, rfl⟩

theorem allocate_sums (budget surplus : Nat) (counted : PerClass (List Nat)) :
    (allocate budget surplus counted).safety.sum + (allocate budget surplus counted).curtain.sum
      + (allocate budget surplus counted).zone.sum ≤ budget ∧ (allocate budget surplus counted).absorb.sum ≤ surplus := by
  rw [allocate_eq]
  have hsafety := grantOf_sum_le budget counted.safety
  have hcurtain := grantOf_sum_le (budget - (grantOf budget counted.safety).sum) counted.curtain
  have hzone := grantOf_sum_le (budget - (grantOf budget counted.safety).sum
    - (grantOf (budget - (grantOf budget counted.safety).sum) counted.curtain).sum) counted.zone
  exact ⟨by dsimp only; omega, grantOf_sum_le surplus counted.absorb⟩

/-- Settles O27: each class is granted out of what the classes before it left, and a grant is at most its amount. -/
theorem allocationSharesTheBudget : Obligations.AllocationSharesTheBudget := by
  intro budget surplus counted
  obtain ⟨hbudget, hsurplus⟩ := allocate_sums budget surplus counted
  refine ⟨?_, ?_, ?_, ?_, hbudget, hsurplus, fun c i x q hx hq => ?_⟩
  · exact congrArg PerClass.safety (allocate_eq budget surplus counted)
  · exact congrArg PerClass.curtain (allocate_eq budget surplus counted)
  · exact congrArg PerClass.zone (allocate_eq budget surplus counted)
  · exact congrArg PerClass.absorb (allocate_eq budget surplus counted)
  · obtain ⟨A, hA⟩ := allocate_get budget surplus counted c
    exact grantOf_le (hA ▸ hx) hq

/-- Of nothing nothing is granted. -/
theorem grantOf_zero (claims : List Nat) (i : Nat) : (grantOf 0 claims).getD i 0 = 0 := by
  have hsum := Nat.le_zero.1 (grantOf_sum_le 0 claims)
  rw [List.getD_eq_getElem?_getD]
  cases h : (grantOf 0 claims)[i]? with
  | none => rfl
  | some x => exact List.sum_eq_zero_iff.1 hsum x (List.mem_of_getElem? h)

/-- Without budget and surplus the own allocation is 0 (R69, R71). -/
theorem ownShare_zero {s : State} (hb : s.alloc.budget = 0) (hr : s.alloc.surplus = 0) : s.ownShare = .const 0 := by
  unfold State.ownShare State.allocations
  rw [hb, hr, allocate_eq]
  simp only [PerClass.map, Nat.zero_sub, grantOf_zero]
  rfl

end Sys2Proof.Machine
end

section
/-! What the own allocation rests on (R70 to R72), and the parts of a command that leave it standing or compute it again. -/

namespace Sys2Proof.Machine

/-! ### What the own allocation reads -/

/-- The own entry is ALIVE, was never heard, and carries the announced intents (R79, R93, R95). -/
structure State.OwnSound (s : State) : Prop where
  alive : s.ownEntry.state = .alive
  unheard : s.ownEntry.lastHeard = none
  intents : s.ownEntry.intents = s.alloc.announced

/-- The own entry is sound, and the allocation is the one its inputs give. -/
structure State.Shared (s : State) : Prop extends s.OwnSound where
  share : s.alloc.allocation = s.ownShare

/-- The own allocation rests on the budget, the surplus, the station and what each entry counts for. -/
theorem ownShare_congr {s t : State} (hs : t.straps = s.straps) (hb : t.alloc.budget = s.alloc.budget)
    (hr : t.alloc.surplus = s.alloc.surplus) (hc : ∀ i c, (t.entry i).counted c = (s.entry i).counted c) :
    t.ownShare = s.ownShare := by
  have hlist : ∀ c, t.view.entries.toList.map (fun e => e.counted c) = s.view.entries.toList.map (fun e => e.counted c) :=
    fun c => List.ext_getElem (by simp) fun i hi _ => by
      have hlt : i < 16 := by simpa using hi
      simpa [State.entry] using hc ⟨i, hlt⟩ c
  have hclaims : t.countedClaims = s.countedClaims := congrArg PerClass.ofFn (funext hlist)
  unfold State.ownShare State.allocations
  rw [hs, hb, hr, hclaims]

/-! ### Parts that keep it -/

/-- A part of a command after which the own entry is sound and the allocation follows its inputs where they were and did. -/
def ShareKept (s t : State) : Prop := s.Shared → t.Shared

theorem ShareKept.refl (s : State) : ShareKept s s := id

theorem ShareKept.trans {s t u : State} (h₁ : ShareKept s t) (h₂ : ShareKept t u) : ShareKept s u := fun h => h₂ (h₁ h)

theorem ShareKept.foldl {α : Type} {g : State → α → State} (h : ∀ s a, ShareKept s (g s a)) :
    ∀ (l : List α) (s : State), ShareKept s (l.foldl g s)
  | [], s => .refl s
  | a :: l, s => (h s a).trans (ShareKept.foldl h l _)

/-- A part of a command that is made only where a test says so. -/
theorem ShareKept.ite {s t u : State} {p : Prop} [Decidable p] (h₁ : ShareKept s t) (h₂ : ShareKept s u) :
    ShareKept s (if p then t else u) := by
  split
  · exact h₁
  · exact h₂

/-- What the own allocation reads stands: of the allocator the figures, the allocation and the announced intents, of the own
entry its state and intents, and what every entry counts for. -/
structure ShareSame (s t : State) : Prop where
  straps : t.straps = s.straps
  figures : t.alloc.budget = s.alloc.budget ∧ t.alloc.surplus = s.alloc.surplus
  allocation : t.alloc.allocation = s.alloc.allocation
  announced : t.alloc.announced = s.alloc.announced
  counted : ∀ i c, (t.entry i).counted c = (s.entry i).counted c
  own : t.ownEntry.state = s.ownEntry.state ∧ t.ownEntry.lastHeard = s.ownEntry.lastHeard
    ∧ t.ownEntry.intents = s.ownEntry.intents

theorem ShareSame.kept {s t : State} (h : ShareSame s t) : ShareKept s t := fun hs => by
  obtain ⟨hstate, hheard, hintents⟩ := h.own
  refine { alive := hstate.trans hs.alive, unheard := hheard.trans hs.unheard,
           intents := hintents.trans (hs.intents.trans h.announced.symm), share := ?_ }
  rw [h.allocation, ownShare_congr h.straps h.figures.1 h.figures.2 h.counted]
  exact hs.share

/-- Nothing changes but records that the allocation does not read. -/
theorem ShareKept.of_eq {s t : State} (hs : t.straps = s.straps) (ha : t.alloc = s.alloc)
    (hv : t.view.entries = s.view.entries) : ShareKept s t := by
  have hentry : ∀ i, t.entry i = s.entry i := fun i => by unfold State.entry; rw [hv]
  have hown : t.ownEntry = s.ownEntry := by unfold State.ownEntry; rw [hs, hentry]
  exact ShareSame.kept ⟨hs, by rw [ha]; exact ⟨rfl, rfl⟩, by rw [ha], by rw [ha], fun i c => by rw [hentry],
    by rw [hown]; exact ⟨rfl, rfl, rfl⟩⟩

/-- Of the allocator nothing changes but what the allocation does not rest on. -/
theorem modAlloc_shares {g : Alloc → Alloc} (h : ∀ a, (g a).budget = a.budget ∧ (g a).surplus = a.surplus
    ∧ (g a).allocation = a.allocation ∧ (g a).announced = a.announced) (s : State) : ShareKept s (s.modAlloc g) := by
  obtain ⟨hbudget, hsurplus, hallocation, hannounced⟩ := h s.alloc
  exact ShareSame.kept ⟨rfl, ⟨hbudget, hsurplus⟩, hallocation, hannounced, fun _ _ => rfl, rfl, rfl, rfl⟩

section
variable {s t : State}

theorem LinkOnly.shares (h : LinkOnly s t) : ShareKept s t := .of_eq h.straps_eq h.alloc_eq (by rw [h.view_eq])
theorem CondOnly.shares (h : CondOnly s t) : ShareKept s t := .of_eq h.straps_eq h.alloc_eq (by rw [h.view_eq])
theorem StageOnly.shares (h : StageOnly s t) : ShareKept s t := .of_eq h.straps_eq h.alloc_eq (by rw [h.view_eq])
theorem FanOnly.shares (h : FanOnly s t) : ShareKept s t := .of_eq h.straps_eq h.alloc_eq (by rw [h.view_eq])
theorem DamperOnly.shares (h : DamperOnly s t) : ShareKept s t := .of_eq h.straps_eq h.alloc_eq (by rw [h.view_eq])

end

/-- A change of the own entry that what it counts for, its state and its intents do not rest on. -/
theorem modEntry_own_same {g : Entry → Entry}
    (h : ∀ e, (g e).state = e.state ∧ (g e).lastHeard = e.lastHeard ∧ (g e).intents = e.intents ∧ (g e).claims = e.claims)
    (s : State) : ShareSame s (s.modEntry s.straps.station g) := by
  have hown : (s.modEntry s.straps.station g).ownEntry = g s.ownEntry := ownEntry_modEntry_own s g
  obtain ⟨hstate, hheard, hintents, -⟩ := h s.ownEntry
  refine ⟨rfl, ⟨rfl, rfl⟩, rfl, rfl, fun i c => ?_, by rw [hown]; exact ⟨hstate, hheard, hintents⟩⟩
  by_cases hi : i = s.straps.station
  · subst hi
    obtain ⟨hst, -, hin, hcl⟩ := h (s.entry s.straps.station)
    rw [entry_modEntry_same]
    unfold Entry.counted
    rw [hst, hin, hcl]
  · rw [entry_modEntry_other s g hi]

theorem modOwn_shares {g : Entry → Entry}
    (h : ∀ e, (g e).state = e.state ∧ (g e).lastHeard = e.lastHeard ∧ (g e).intents = e.intents ∧ (g e).claims = e.claims)
    (s : State) : ShareKept s (modOwn g s) := (modEntry_own_same h s).kept.trans (refreshList_only _).shares

/-- A peer's entry changes, but not what it counts for. -/
theorem modEntry_peer_shares {s : State} {i : Station} {g : Entry → Entry} (hi : i ≠ s.straps.station)
    (h : ∀ c, (g (s.entry i)).counted c = (s.entry i).counted c) : ShareKept s (s.modEntry i g) := by
  have hown := ownEntry_modEntry_peer s g hi
  refine ShareSame.kept ⟨rfl, ⟨rfl, rfl⟩, rfl, rfl, fun j c => ?_, by rw [hown]; exact ⟨rfl, rfl, rfl⟩⟩
  by_cases hj : j = i
  · subst hj; rw [entry_modEntry_same, h]
  · rw [entry_modEntry_other s g hj]

/-! ### The intents and the allocation -/

/-- What an ALIVE entry counts for does not rest on its intents (R72). -/
theorem counted_of_alive {e e' : Entry} (h : e.state = .alive) (h' : e'.state = .alive) (hc : e'.claims = e.claims) (c : Cls) :
    e'.counted c = e.counted c := by
  unfold Entry.counted
  rw [h, h', hc]

theorem modOwn_ownEntry (g : Entry → Entry) (s : State) : (modOwn g s).ownEntry = g s.ownEntry := ownEntry_modEntry_own s g

theorem modOwn_peer (g : Entry → Entry) (s : State) {i : Station} (h : i ≠ s.straps.station) :
    (modOwn g s).entry i = s.entry i := entry_modEntry_other s g h

theorem setAnnounced_ownEntry (p : PerClass Nat) (s : State) : (setAnnounced p s).ownEntry = { s.ownEntry with intents := p } :=
  modOwn_ownEntry _ _

/-- The announced intents are set in the record and in the own entry. -/
theorem setAnnounced_shares (p : PerClass Nat) (s : State) : ShareKept s (setAnnounced p s) := by
  have hown := setAnnounced_ownEntry p s
  intro h
  have halive : (setAnnounced p s).ownEntry.state = .alive := by rw [hown]; exact h.alive
  refine { alive := halive, unheard := by rw [hown]; exact h.unheard, intents := by rw [hown]; rfl,
           share := Eq.trans h.share (Eq.symm (ownShare_congr (s := s) rfl rfl rfl fun i c => ?_)) }
  by_cases hi : i = s.straps.station
  · subst hi
    exact counted_of_alive h.alive halive (congrArg Entry.claims hown :) c
  · exact congrArg (Entry.counted · c) (modOwn_peer _ _ hi)

theorem setUsable_shares (p : PerClass Nat) (s : State) : ShareKept s (setUsable p s) :=
  modAlloc_shares (g := fun a => { a with usable := p }) (fun _ => ⟨rfl, rfl, rfl, rfl⟩) s

theorem cuts_shares (p q : PerClass Nat) (l : List Cls) (s : State) : ShareKept s (cuts p q l s) := (cuts_only p q l s).shares

theorem lowerIntents_shares (s : State) : ShareKept s (lowerIntents s) := by
  have hlowered : ShareKept s (lowered s) := by
    unfold lowered
    exact ShareKept.trans (.ite (.refl s) (setAnnounced_shares _ s)) (setUsable_shares _ _)
  rw [lowerIntents_eq]
  exact .ite (hlowered.trans (cuts_shares _ _ _ _))
    ((hlowered.trans (cuts_shares _ _ _ _)).trans (demandDue_only _).shares)

/-- The announced intents raised to the allocation, with a raise pending and the hold-off stopped (R75). -/
def raised (s : State) : State :=
  (setAnnounced (s.alloc.announced.map₂ max s.alloc.allocation) s).modAlloc
    (fun a => { a with raisePending := true, holdOff := .stopped })

theorem raiseIntents_eq (s : State) : raiseIntents s =
    if s.alloc.announced.map₂ max s.alloc.allocation = s.alloc.announced then s else demandDue (raised s) := rfl

theorem raiseIntents_shares (s : State) : ShareKept s (raiseIntents s) := by
  have hraised : ShareKept s (raised s) := (setAnnounced_shares _ s).trans
    (modAlloc_shares (g := fun a => { a with raisePending := true, holdOff := .stopped }) (fun _ => ⟨rfl, rfl, rfl, rfl⟩) _)
  rw [raiseIntents_eq]
  exact .ite (.refl s) (hraised.trans (demandDue_only _).shares)

/-- The allocation as the inputs give it, written into the record. -/
def shareTaken (s : State) : State := { s with alloc := { s.alloc with allocation := s.ownShare } }

/-- The allocation taken, with the test of DEFROST_SHORT (R137). -/
def shareTested (s : State) : State :=
  if s.ownShare.safety = s.alloc.allocation.safety then shareTaken s else recheck .defrostShort (shareTaken s)

theorem recompute_eq (s : State) : recompute s = raiseIntents (lowerIntents (shareTested s)) := rfl

theorem shareTested_only (s : State) : CondOnly (shareTaken s) (shareTested s) := by
  unfold shareTested
  split
  · exact .refl _
  · exact recheck_only _ _

/-- A computation makes the allocation follow its inputs, whatever it was (R70). -/
theorem recompute_pays {s t : State} (h : s.Shared → t.OwnSound) : ShareKept s (recompute t) := by
  have taken : ShareKept s (shareTaken t) := fun hs =>
    ⟨⟨(h hs).alive, (h hs).unheard, (h hs).intents⟩, Eq.symm (ownShare_congr (s := t) rfl rfl rfl fun _ _ => rfl)⟩
  rw [recompute_eq]
  exact ((taken.trans (shareTested_only t).shares).trans (lowerIntents_shares _)).trans (raiseIntents_shares _)

/-- Claims that change owe the computation, which re-forming them makes (R24, R70). -/
theorem reformClaims_shares (s : State) : ShareKept s (reformClaims s) := by
  have formed : ShareKept s (recompute (demandDue (modOwn (fun e => { e with claims := s.claimsNow }) s))) := by
    have hdue := demandDue_only (modOwn (fun e => { e with claims := s.claimsNow }) s)
    have hown : (demandDue (modOwn (fun e => { e with claims := s.claimsNow }) s)).ownEntry
        = { s.ownEntry with claims := s.claimsNow } := by
      unfold State.ownEntry State.entry
      rw [hdue.straps_eq, hdue.view_eq]
      exact modOwn_ownEntry _ s
    refine recompute_pays fun h => ⟨?_, ?_, ?_⟩
    · rw [hown]; exact h.alive
    · rw [hown]; exact h.unheard
    · rw [hown, hdue.alloc_eq]; exact h.intents
  unfold reformClaims
  dsimp only
  exact .ite (.refl s) (.ite formed (formed.trans (recheck_only _ _).shares))

theorem zeroed_shares (s : State) : ShareKept s (zeroed s) := by
  have husable := setUsable_shares (.const 0) s
  unfold zeroed
  exact .ite husable ((husable.trans (setAnnounced_shares _ _)).trans (demandDue_only _).shares)

theorem shed_shares (s : State) : ShareKept s (shed s) := by
  have hdisarmed : ∀ u, ShareKept u (disarmed u) := modAlloc_shares
    (g := fun a => { a with raisePending := false, holdOff := .stopped }) fun _ => ⟨rfl, rfl, rfl, rfl⟩
  rw [shed_eq]
  exact (((shedStages_only s).shares.trans (zeroed_shares _)).trans (hdisarmed _)).trans (raiseIntents_shares _)

end Sys2Proof.Machine
end

section
/-! Every command keeps the own entry sound and the allocation following its inputs: each part of a command leaves what the
allocation reads, or computes it again (R70 to R72). -/

namespace Sys2Proof.Machine

theorem recheck_shares (c : Condition) (s : State) : ShareKept s (recheck c s) := (recheck_only c s).shares

theorem queueSingle_shares (f : Frame) (s : State) : ShareKept s (queueSingle f s) := (queueSingle_only f s).shares

theorem demandDue_shares (s : State) : ShareKept s (demandDue s) := (demandDue_only s).shares

theorem modDoor_shares (d : Fin 3) (g : Door → Door) (s : State) : ShareKept s (s.modDoor d g) := .of_eq rfl rfl rfl

theorem modZone_shares (z : Fin 4) (g : Zone → Zone) (s : State) : ShareKept s (s.modZone z g) := .of_eq rfl rfl rfl

theorem modFan_shares (f : FanId) (g : Blower → Blower) (s : State) : ShareKept s (s.modFan f g) := .of_eq rfl rfl rfl

theorem mapDrafts_shares (g : Nat → List Draft → List Draft) (s : State) : ShareKept s (s.mapDrafts g) := .of_eq rfl rfl rfl

theorem modDefrost_shares (g : Defrost → Defrost) (s : State) : ShareKept s (s.modDefrost g) := .of_eq rfl rfl rfl

theorem modLink_shares (g : Link → Link) (s : State) : ShareKept s (s.modLink g) := .of_eq rfl rfl rfl

theorem modDamper_shares (g : Damper → Damper) (s : State) : ShareKept s (s.modDamper g) := .of_eq rfl rfl rfl

theorem noticeDamper_shares (s : State) : ShareKept s (noticeDamper s) := (noticeDamper_only s).shares

theorem retarget_shares (s : State) : ShareKept s (retarget s) := (retarget_only s).shares

theorem handOffZone_shares (z : Fin 4) (n m : Nat) (s : State) : ShareKept s (handOffZone z n m s) :=
  (handOffZone_only z n m s).shares

theorem handOffSingle_shares (o : Owner) (c : Cls) (n : Nat) (s : State) : ShareKept s (handOffSingle o c n s) :=
  (handOffSingle_only o c n s).shares

theorem refill_shares (o : Owner) (c : Cls) (n : Nat) (p : Option (Cls × Place)) (s : State) :
    ShareKept s (refill o c n p s) := (refill_only o c n p s).shares

theorem commandFan_shares (f : FanId) (level : Nat) (s : State) : ShareKept s (commandFan f level s) :=
  (commandFan_only f level s).shares

theorem rechooseZoneFans_shares (s : State) : ShareKept s (rechooseZoneFans s) := (rechooseZoneFans_only s).shares

/-! ### Sharing states -/

theorem enterSharing_shares (new : Sharing) (s : State) : ShareKept s (enterSharing new s) := by
  have told : ShareKept s (sharingTold new s) :=
    ShareKept.trans (modAlloc_shares (g := fun a => { a with sharing := new }) (fun _ => ⟨rfl, rfl, rfl, rfl⟩) s)
      (sharingTold_only new s).shares
  have owed : ShareKept s (sharingOwed new s) := .ite (told.trans (oweAttempt_only _).shares) told
  rw [enterSharing_eq]
  exact .ite (owed.trans (rechooseZoneFans_shares _)) owed

theorem stopGap_shares (s : State) : ShareKept s (stopGap s) :=
  modAlloc_shares (g := fun a => { a with gap := .stopped }) (fun _ => ⟨rfl, rfl, rfl, rfl⟩) s

theorem enterSilent_shares (s : State) : ShareKept s (enterSilent s) :=
  ((stopGap_shares s).trans (enterSharing_shares _ _)).trans (shed_shares _)

theorem enterMuted_shares (s : State) : ShareKept s (enterMuted s) :=
  ((stopGap_shares s).trans (enterSharing_shares _ _)).trans (shed_shares _)

theorem enterIsolated_shares (s : State) : ShareKept s (enterIsolated s) :=
  (((stopGap_shares s).trans (enterSharing_shares _ _)).trans (reformClaims_shares _)).trans (shed_shares _)

theorem enterGapHold_shares (s : State) : ShareKept s (enterGapHold s) := by
  have hold : ∀ u : State, ShareKept u (u.modAlloc (fun a => { a with gap := s.timer 3000 })) := fun u =>
    modAlloc_shares (g := fun a => { a with gap := s.timer 3000 }) (fun _ => ⟨rfl, rfl, rfl, rfl⟩) u
  exact ((enterSharing_shares _ s).trans (hold _)).trans (suspendAll_only _).shares

theorem joinExit_shares (s : State) : ShareKept s (joinExit s) := by
  unfold joinExit
  exact .ite (.ite (enterSilent_shares s) (enterSharing_shares _ s)) (.refl s)

theorem powerOnSharing_shares (a b : Line) (s : State) : ShareKept s (powerOnSharing a b s) := by
  have sheds : ∀ (p : Prop) [Decidable p], ShareKept s (if p then shed s else s) := fun p _ => .ite (shed_shares s) (.refl s)
  unfold powerOnSharing
  dsimp only
  split
  · exact .refl s
  · exact sheds _
  · exact (sheds _).trans (joinExit_shares _)
  · exact (sheds _).trans (enterSharing_shares _ _)
  · exact .ite (enterGapHold_shares s) (sheds _)
  · split
    · exact (stopGap_shares s).trans (enterSharing_shares _ _)
    · exact ((stopGap_shares s).trans (shed_shares _)).trans (enterSharing_shares _ _)
    · exact .refl s
    · exact .refl s

/-- A POWER frame's figures, where they change, owe the computation that follows them (R68, R70). -/
theorem takePower_shares (b : PowerBody) (s : State) : ShareKept s (takePower b s) := by
  have heard : ShareKept s (s.modAlloc (fun a => { a with silence := s.timer 500, powerHeard := true })) :=
    modAlloc_shares (g := fun a => { a with silence := s.timer 500, powerHeard := true }) (fun _ => ⟨rfl, rfl, rfl, rfl⟩) s
  unfold takePower
  split
  · exact .refl s
  · next line _ =>
    have moved := heard.trans (powerOnSharing_shares s.alloc.line line _)
    dsimp only
    split
    · next hsame =>
      exact moved.trans (ShareSame.kept ⟨rfl, hsame, rfl, rfl, fun _ _ => rfl, rfl, rfl, rfl⟩)
    · exact moved.trans (recompute_pays fun h => ⟨h.alive, h.unheard, h.intents⟩)

theorem silenceExpiry_shares (s : State) : ShareKept s (silenceExpiry s) := by
  have silent : ShareKept s (recompute (s.modAlloc (fun a =>
      { a with silence := .expired, budget := 0, surplus := 0, line := .none }))) :=
    recompute_pays fun h => ⟨h.alive, h.unheard, h.intents⟩
  unfold silenceExpiry
  dsimp only
  split
  · exact silent.trans (enterSilent_shares _)
  · exact silent.trans (enterSilent_shares _)
  all_goals exact silent

theorem gapExpiry_shares (s : State) : ShareKept s (gapExpiry s) := by
  unfold gapExpiry
  exact .ite (((stopGap_shares s).trans (shed_shares _)).trans (enterSharing_shares _ _)) (stopGap_shares s)

theorem holdOffExpiry_shares (s : State) : ShareKept s (holdOffExpiry s) := by
  have raises : ShareKept s (setUsable (s.alloc.announced.map₂ min s.alloc.allocation)
      (s.modAlloc (fun a => { a with holdOff := .stopped }))) :=
    (modAlloc_shares (g := fun a => { a with holdOff := .stopped }) (fun _ => ⟨rfl, rfl, rfl, rfl⟩) s).trans (setUsable_shares _ _)
  unfold holdOffExpiry
  exact .ite (raises.trans (oweAttempt_only _).shares) raises

theorem mutedExit_shares (s : State) : ShareKept s (mutedExit s) := by
  unfold mutedExit
  exact .ite (.ite (.ite (enterSilent_shares s) (enterSharing_shares _ s)) (enterSharing_shares _ s)) (.refl s)

theorem demandConfirmation_shares (p : PerClass Byte) (s : State) : ShareKept s (demandConfirmation p s) := by
  unfold demandConfirmation
  refine modAlloc_shares (fun a => ?_) s
  split <;> exact ⟨rfl, rfl, rfl, rfl⟩

theorem confirmation_shares (f : Frame) (s : State) : ShareKept s (confirmation f s) := by
  unfold confirmation
  dsimp only
  refine ShareKept.trans (ShareKept.trans ?_ (mutedExit_shares _)) (joinExit_shares _)
  split
  · exact demandConfirmation_shares _ s
  · exact .refl s

theorem failureExpiry_shares (s : State) : ShareKept s (failureExpiry s) := by
  have h : ShareKept s (s.modLink (fun l => { l with failure := .expired })) := .of_eq rfl rfl rfl
  unfold failureExpiry transmitFailure
  split
  case _ | _ | _ | _ => exact h.trans (enterMuted_shares _)
  all_goals exact h

/-! ### Curtains and doors -/

theorem handCurtain_shares (d : Fin 3) (s : State) : ShareKept s (handCurtain d s) :=
  ((handOffSingle_shares _ _ _ s).trans (commandFan_shares _ _ _)).trans (reformClaims_shares _)

theorem setCurtain_shares (d : Fin 3) (c : Curtain) (timer : Timer) (s : State) : ShareKept s (setCurtain d c timer s) := by
  unfold setCurtain
  split
  · split
    · exact .refl s
    · dsimp only
      split
      · exact modDoor_shares d _ s
      · exact (modDoor_shares d _ s).trans (handCurtain_shares d _)
  · exact .refl s

theorem barCurtain_shares (d : Fin 3) (s : State) : ShareKept s (barCurtain d s) := by
  unfold barCurtain
  split
  · split
    · exact setCurtain_shares _ _ _ s
    · exact .refl s
  · exact .refl s

theorem ventCurtain_shares (d : Fin 3) (s : State) : ShareKept s (ventCurtain d s) := by
  unfold ventCurtain
  split
  · split
    · exact setCurtain_shares _ _ _ s
    · exact setCurtain_shares _ _ _ s
    · exact .refl s
    · exact .refl s
  · exact .refl s

theorem ventCurtains_shares (s : State) : ShareKept s (ventCurtains s) :=
  ((ventCurtain_shares 0 s).trans (ventCurtain_shares 1 _)).trans (ventCurtain_shares 2 _)

theorem layoverCurtain_shares (d : Fin 3) (s : State) : ShareKept s (layoverCurtain d s) := by
  unfold layoverCurtain
  split
  · split
    · exact barCurtain_shares _ s
    · exact .refl s
  · exact .refl s

theorem layoverCurtains_shares (s : State) : ShareKept s (layoverCurtains s) :=
  ((layoverCurtain_shares 0 s).trans (layoverCurtain_shares 1 _)).trans (layoverCurtain_shares 2 _)

theorem curtainOpened_shares (d : Fin 3) (c : Curtain) (s : State) : ShareKept s (curtainOpened d c s) := by
  unfold curtainOpened
  split
  · exact setCurtain_shares _ _ _ s
  · split
    · exact setCurtain_shares _ _ _ s
    · exact setCurtain_shares _ _ _ s
    · exact .refl s
    · exact .refl s

theorem curtainClosed_shares (d : Fin 3) (c : Curtain) (n : Nat) (s : State) : ShareKept s (curtainClosed d c n s) := by
  unfold curtainClosed
  split
  · split
    · exact setCurtain_shares _ _ _ s
    · exact setCurtain_shares _ _ _ s
  · exact setCurtain_shares _ _ _ s
  · exact .refl s
  · exact .refl s

theorem announceDoor_shares (d : Fin 3) (g : DoorCfg) (o : Bool) (w : Nat) (s : State) : ShareKept s (announceDoor d g o w s) :=
  (queueDoor_only _ s).shares

theorem acceptedOpen_shares (d : Fin 3) (s : State) : ShareKept s (acceptedOpen d s) := by
  unfold acceptedOpen
  split
  · split
    · exact ((((modDoor_shares d _ s).trans (mapDrafts_shares _ _)).trans (curtainOpened_shares d _ _)).trans
        (announceDoor_shares d _ _ _ _)).trans (noticeDamper_shares _)
    · exact .refl s
  · exact .refl s

theorem acceptedClose_shares (d : Fin 3) (s : State) : ShareKept s (acceptedClose d s) := by
  unfold acceptedClose
  split
  · dsimp only
    split
    · exact ((((modDoor_shares d _ s).trans (mapDrafts_shares _ _)).trans (curtainClosed_shares d _ _ _)).trans
        (announceDoor_shares d _ _ _ _)).trans (noticeDamper_shares _)
    · exact ((((modDoor_shares d _ s).trans (mapDrafts_shares _ _)).trans (announceDoor_shares d _ _ _ _)).trans
        (setCurtain_shares d _ _ _)).trans (recheck_shares _ _)
    · exact .refl s
  · exact .refl s

theorem sampleDoor_shares (d : Fin 3) (level : Bool) (s : State) : ShareKept s (sampleDoor d level s) := by
  unfold sampleDoor
  split
  · dsimp only
    split
    · exact ((modDoor_shares d _ s).trans (modDoor_shares d _ _)).trans (noticeDamper_shares _)
    · split
      · exact (modDoor_shares d _ s).trans (acceptedOpen_shares d _)
      · exact (modDoor_shares d _ s).trans (acceptedClose_shares d _)
      · exact modDoor_shares d _ s
  · exact .refl s

theorem stuckExpiry_shares (d : Fin 3) (s : State) : ShareKept s (stuckExpiry d s) := by
  unfold stuckExpiry
  split
  · dsimp only
    split
    · exact (((((modDoor_shares d _ s).trans (modDoor_shares d _ _)).trans (setCurtain_shares d _ _ _)).trans
        (announceDoor_shares d _ _ _ _)).trans (noticeDamper_shares _)).trans (recheck_shares _ _)
    · exact modDoor_shares d _ s
  · exact .refl s

theorem layoverMarkExpiry_shares (d : Fin 3) (s : State) : ShareKept s (layoverMarkExpiry d s) := by
  unfold layoverMarkExpiry
  dsimp only
  split
  · exact (modDoor_shares d _ s).trans (barCurtain_shares d _)
  · exact modDoor_shares d _ s

theorem runOnExpiry_shares (d : Fin 3) (s : State) : ShareKept s (runOnExpiry d s) := by
  unfold runOnExpiry
  split
  · split
    · exact setCurtain_shares d _ _ s
    · exact modDoor_shares d _ s
  · exact .refl s

/-! ### Zones -/

theorem holdExpiry_shares (z : Fin 4) (s : State) : ShareKept s (holdExpiry z s) :=
  (modZone_shares z _ s).trans (recheck_shares _ _)

theorem scanZone_shares (q : ScanReplies) (z : Fin 4) (s : State) : ShareKept s (scanZone q z s) := by
  unfold scanZone
  split
  · exact (modZone_shares z _ s).trans (recheck_shares _ _)
  · exact .refl s

theorem controlExpiry_shares (z : Fin 4) (s : State) : ShareKept s (controlExpiry z s) := by
  have handed : ∀ (a b : Zone) (u : State), ShareKept u (handOff z a b u) := fun a b u => by
    unfold handOff
    split
    · exact .refl u
    · exact (handOffZone_shares _ _ _ u).trans (reformClaims_shares _)
  have moved : ∀ r b : Zone, ShareKept s (handOff z r b (recheck .zoneSensor (s.modZone z (fun _ => b)))) := fun r b =>
    ((modZone_shares z (fun _ => b) s).trans (recheck_shares .zoneSensor _)).trans (handed r b _)
  unfold controlExpiry
  split
  · unfold afterControl
    dsimp only
    split
    · exact moved _ _
    · exact (moved _ _).trans (handDemand_only z _ _).shares
  · exact .refl s

theorem enterOff_shares (z : Fin 4) (s : State) : ShareKept s (enterOff z s) := by
  unfold enterOff
  split
  · split
    · exact .refl s
    · exact ((modZone_shares z _ s).trans (modFan_shares _ _ _)).trans (handOffZone_shares z 0 0 _)
  · exact .refl s

theorem enterOffAll_shares (s : State) : ShareKept s (enterOffAll s) :=
  ((((enterOff_shares 0 s).trans (enterOff_shares 1 _)).trans (enterOff_shares 2 _)).trans (enterOff_shares 3 _)).trans
    (recheck_shares _ _)

theorem capZone_shares (z : Fin 4) (s : State) : ShareKept s (capZone z s) := by
  unfold capZone
  split
  · dsimp only
    split
    · exact .refl s
    · exact ((modZone_shares z _ s).trans (handOffZone_shares _ _ _ _)).trans (reformClaims_shares _)
  · exact .refl s

theorem capZones_shares (s : State) : ShareKept s (capZones s) :=
  (((capZone_shares 0 s).trans (capZone_shares 1 _)).trans (capZone_shares 2 _)).trans (capZone_shares 3 _)

theorem availFall_shares (z : Fin 4) (s : State) : ShareKept s (availFall z s) := by
  unfold availFall
  split
  · dsimp only
    split
    · exact modZone_shares z _ s
    · exact ((modZone_shares z _ s).trans (zoneFalls_only z _ _ _).shares).trans (reformClaims_shares _)
  · exact .refl s

theorem writeOffsets_shares (x : Int) (s : State) : ShareKept s (writeOffsets x s) := .of_eq rfl rfl rfl

/-! ### Defrost -/

theorem defrostEnter_shares (new : DefrostState) (s : State) : ShareKept s (defrostEnter new s) := by
  unfold defrostEnter
  split
  · exact .refl s
  · dsimp only
    split
    · exact .refl s
    · exact ((((modDefrost_shares _ s).trans (handOffSingle_shares _ _ _ _)).trans (commandFan_shares _ _ _)).trans
        (reformClaims_shares _)).trans (modDefrost_shares _ _)

theorem fogTest_shares (s : State) : ShareKept s (fogTest s) := modDefrost_shares _ s

theorem defrostCheck_shares (s : State) : ShareKept s (defrostCheck s) := by
  have tested := fun g => (modDefrost_shares g s).trans (fogTest_shares _)
  unfold defrostCheck
  split
  · exact .refl s
  · dsimp only
    split
    · split
      · exact (tested _).trans (defrostEnter_shares _ _)
      · exact tested _
    · split
      · split
        · exact ((tested _).trans (defrostEnter_shares _ _)).trans (modDefrost_shares _ _)
        · exact (tested _).trans (modDefrost_shares _ _)
      · exact (tested _).trans (modDefrost_shares _ _)
    · exact tested _

theorem boostEnter_shares (s : State) : ShareKept s (boostEnter s) := (modDefrost_shares _ s).trans (defrostEnter_shares _ _)

theorem boostExit_shares (s : State) : ShareKept s (boostExit s) := by
  unfold boostExit
  split
  · exact .refl s
  · dsimp only
    split
    · exact ((modDefrost_shares _ s).trans (fogTest_shares _)).trans (defrostEnter_shares _ _)
    · exact .refl s

/-! ### Overrides -/

theorem ventGained_shares (s : State) : ShareKept s (ventGained s) :=
  ((((enterOffAll_shares s).trans (ventCurtains_shares _)).trans (reformClaims_shares _)).trans (rechooseZoneFans_shares _)).trans
    (retarget_shares _)

theorem ventLost_shares (s : State) : ShareKept s (ventLost s) :=
  ((reformClaims_shares s).trans (rechooseZoneFans_shares _)).trans (retarget_shares _)

theorem adopt_shares (old : InUse) (s : State) : ShareKept s (adopt old s) := by
  have offsets := ShareKept.ite (p := old.offsets.ofCar s.straps.car = s.inUse.offsets.ofCar s.straps.car) (.refl s)
    (writeOffsets_shares (s.inUse.offsets.ofCar s.straps.car) s)
  have vents := fun u => ShareKept.ite (p := (s.inUse.flags.ventOnly && !old.flags.ventOnly) = true) (ventGained_shares u)
    (.ite (p := (old.flags.ventOnly && !s.inUse.flags.ventOnly) = true) (ventLost_shares u) (.refl u))
  have caps := fun u => ShareKept.ite (p := (s.inUse.flags.eco && !old.flags.eco) = true) (capZones_shares u) (.refl u)
  have layovers := fun u => ShareKept.ite (p := (s.inUse.flags.layover && !old.flags.layover) = true)
    (layoverCurtains_shares u) (.refl u)
  exact (((offsets.trans (vents _)).trans (caps _)).trans (layovers _)).trans (.ite (.refl _) (retarget_shares _))

theorem setInUse_shares (new : InUse) (s : State) : ShareKept s (setInUse new s) :=
  ShareKept.trans (t := { s with inUse := new }) (.of_eq rfl rfl rfl) (adopt_shares _ _)

theorem takeWord_shares (s : State) : ShareKept s (takeWord s) := by
  unfold takeWord
  split
  · exact setInUse_shares _ s
  · exact .refl s

theorem handWord_shares (f : Frame) (s : State) : ShareKept s (handWord f s) := by
  unfold handWord
  split
  · dsimp only
    split
    · exact takeWord_shares s
    · exact (takeWord_shares s).trans (queueSingle_shares _ _)
  · exact .refl s

theorem changeWord_shares (g : OvrWord → OvrWord) (s : State) : ShareKept s (changeWord g s) := by
  unfold changeWord
  split
  · exact .refl s
  · next w _ =>
    have written : ∀ w', ShareKept s { s with word := some w' } := fun _ => .of_eq rfl rfl rfl
    dsimp only
    refine ShareKept.trans ?_ (handWord_shares _ _)
    split
    · exact written _
    · split
      · exact (written _).trans (boostEnter_shares _)
      · exact (written _).trans (boostExit_shares _)

theorem layoverExpiry_shares (s : State) : ShareKept s (layoverExpiry s) :=
  ShareKept.trans (t := s.modWord (fun w => { w with layover := .stopped })) (.of_eq rfl rfl rfl) (changeWord_shares _ _)

theorem boostExpiry_shares (s : State) : ShareKept s (boostExpiry s) := (modDefrost_shares _ s).trans (changeWord_shares _ _)

theorem boostFall_shares (s : State) : ShareKept s (boostFall s) := (modDefrost_shares _ s).trans (handWord_shares _ _)

theorem enterHolding_shares (s : State) : ShareKept s (enterHolding s) := .of_eq rfl rfl rfl

theorem holdInUse_shares (s : State) : ShareKept s (holdInUse s) := by
  unfold holdInUse
  split
  · exact enterHolding_shares s
  · exact enterHolding_shares s
  · exact .refl s
  · exact .refl s

theorem acceptedChanged_shares (new : Option Station) (s : State) : ShareKept s (acceptedChanged new s) := by
  have accepted : ShareKept s { s with view := { s.view with accepted := new } } := .of_eq rfl rfl rfl
  unfold acceptedChanged
  dsimp only
  split
  · exact ((accepted.trans (takeWord_shares _)).trans (queueSingle_shares _ _)).trans (recheck_shares _ _)
  · exact ((accepted.trans (holdInUse_shares _)).trans (.ite (withdrawOverride_only _).shares (.refl _))).trans (recheck_shares _ _)

theorem takeOverride_shares (i : Station) (b : OverrideBody) (s : State) : ShareKept s (takeOverride i b s) := by
  unfold takeOverride
  split
  · exact setInUse_shares _ s
  · exact .refl s

theorem overrideSilence_shares (s : State) : ShareKept s (overrideSilence s) := by
  have stopped : ShareKept s { s with inUse := { s.inUse with silence := .stopped } } := .of_eq rfl rfl rfl
  unfold overrideSilence
  dsimp only
  split
  · exact stopped.trans (enterHolding_shares _)
  · exact stopped

/-! ### The view -/

theorem reevaluate_shares (s : State) : ShareKept s (reevaluate s) := by
  unfold reevaluate
  split
  · exact .refl s
  · exact acceptedChanged_shares _ s

/-- A peer's entry that changes what it counts for owes the computation, which handing its changes on makes (R100). -/
theorem entryChanged_shares {s : State} {i : Station} (hi : i ≠ s.straps.station) (g : Entry → Entry) :
    ShareKept s (entryChanged (s.entry i) (g (s.entry i)) (s.modEntry i g)) := by
  have hown := ownEntry_modEntry_peer s g hi
  have counts : ShareKept s (if (s.entry i).state = (g (s.entry i)).state ∧ (s.entry i).claims = (g (s.entry i)).claims
      ∧ (s.entry i).intents = (g (s.entry i)).intents then s.modEntry i g else recompute (s.modEntry i g)) := by
    split
    · next hsame =>
      obtain ⟨hstate, hclaims, hintents⟩ := hsame
      exact modEntry_peer_shares hi fun c => by unfold Entry.counted; rw [hstate, hclaims, hintents]
    · exact recompute_pays fun h => ⟨by rw [hown]; exact h.alive, by rw [hown]; exact h.unheard, by rw [hown]; exact h.intents⟩
  unfold entryChanged
  exact .ite counts (counts.trans (reevaluate_shares _))

theorem hear_shares {s : State} {i : Station} (hi : i ≠ s.straps.station) (f : Frame) : ShareKept s (hear i f s) :=
  entryChanged_shares hi _

theorem duplicate_shares (s : State) : ShareKept s (duplicate s) := by
  unfold duplicate
  split
  · exact .refl s
  · exact enterIsolated_shares s

theorem receive_shares {further : State → State} (h : ∀ s, ShareKept s (further s)) (i : Station) (f : Frame) (s : State) :
    ShareKept s (receive i f further s) := by
  unfold receive
  split
  · exact duplicate_shares s
  · next hi => exact .ite (.refl s) ((hear_shares hi f).trans (h _))

theorem receivePower_shares (i : Station) (b : PowerBody) (s : State) : ShareKept s (receivePower i b s) := by
  unfold receivePower
  split
  · exact duplicate_shares s
  · next hi => exact .ite (takePower_shares b s) ((hear_shares hi _).trans (latch_only _ _).shares)

theorem peerDoor_shares (i : Station) (b : DoorBody) (s : State) : ShareKept s (peerDoor i b s) := by
  unfold peerDoor
  split
  · exact .refl s
  · split
    · exact mapDrafts_shares _ s
    · split
      · exact mapDrafts_shares _ s
      · exact .refl s

theorem ageStation_shares (i : Station) (s : State) : ShareKept s (ageStation i s) := by
  have lost : ∀ u, ShareKept u (sourceLost i u) := fun u => by
    unfold sourceLost
    exact .ite (enterHolding_shares u) (.refl u)
  unfold ageStation
  split
  · exact .refl s
  · next hi =>
    have aged := entryChanged_shares hi fun _ => (s.entry i).aged s.clock
    exact .ite (.refl s) (.ite (.ite ((aged.trans (mapDrafts_shares _ _)).trans (lost _)) (aged.trans (mapDrafts_shares _ _))) aged)

theorem formAgreement_shares (s : State) : ShareKept s (formAgreement s) := by
  unfold formAgreement
  split <;> exact .of_eq rfl rfl rfl

theorem ageingExpiry_shares (s : State) : ShareKept s (ageingExpiry s) := by
  have turned : ShareKept s (s.modView fun v => { v with ageing := v.ageing.next 200 }) := .of_eq rfl rfl rfl
  exact ((turned.trans (ShareKept.foldl (fun s i => ageStation_shares i s) stations _)).trans
    (formAgreement_shares _)).trans (demandDue_shares _)

/-! ### The link -/

theorem startSpacing_shares (f : Frame) (s : State) : ShareKept s (startSpacing f s) := (startSpacing_only f s).shares

theorem listenEnd_shares (s : State) : ShareKept s (listenEnd s) := by
  unfold listenEnd
  dsimp only
  refine ShareKept.trans ?_ (queueSingle_shares _ _)
  split
  · exact (((modLink_shares _ s).trans (queueSingle_shares _ _)).trans (queueSingle_shares _ _)).trans (queueSingle_shares _ _)
  · exact ((modLink_shares _ s).trans (queueSingle_shares _ _)).trans (queueSingle_shares _ _)

theorem attemptStart_shares (n : Nat) (d : Bool) (s : State) : ShareKept s (attemptStart n d s) := by
  unfold attemptStart
  split
  · exact .refl s
  · split
    · exact .refl s
    · dsimp only
      split <;> exact .of_eq rfl rfl rfl

theorem withList_shares (l : List TxEntry) (s : State) : ShareKept s (s.withList l) := (withList_only s l).shares

theorem attemptFailed_shares (s : State) : ShareKept s (attemptFailed s) := by
  unfold attemptFailed
  split
  · exact .refl s
  · dsimp only
    split
    · exact .of_eq rfl rfl rfl
    · split
      · exact .of_eq rfl rfl rfl
      · split
        · exact ((modLink_shares _ s).trans (withList_shares _ _)).trans (startSpacing_shares _ _)
        · exact .of_eq rfl rfl rfl

theorem attemptConfirmed_shares (s : State) : ShareKept s (attemptConfirmed s) := by
  have head : ∀ u, ShareKept u (confirmHead u) := fun u => by
    unfold confirmHead
    split
    · exact .refl u
    · exact (withList_shares _ u).trans (startSpacing_shares _ _)
  unfold attemptConfirmed
  split
  · exact .refl s
  · dsimp only
    exact (((modLink_shares _ s).trans (.ite (.refl _) (head _))).trans (modLink_shares _ _)).trans (confirmation_shares _ _)

theorem spacingExpiry_shares (s : State) : ShareKept s (spacingExpiry s) := by
  unfold spacingExpiry
  dsimp only
  split
  · exact (modLink_shares _ s).trans (queueSingle_shares _ _)
  · exact .of_eq rfl rfl rfl

theorem overrideExpiry_shares (s : State) : ShareKept s (overrideExpiry s) := by
  unfold overrideExpiry
  dsimp only
  split
  · exact (modLink_shares _ s).trans (queueSingle_shares _ _)
  · exact .of_eq rfl rfl rfl

/-! ### The inputs -/

theorem scanOutside_shares (r : Reply) (s : State) : ShareKept s (scanOutside r s) := by
  have run : ∀ n u, ShareKept u (u.modView (fun v => { v with outsideRun := n })) := fun _ _ => .of_eq rfl rfl rfl
  unfold scanOutside
  split
  · have own : ∀ x time u, ShareKept u (modOwn (fun e => { e with outside := x, outsideAt := time }) u) := fun x time u =>
      modOwn_shares (g := fun e => { e with outside := x, outsideAt := time }) (fun _ => ⟨rfl, rfl, rfl, rfl⟩) u
    refine ShareKept.trans ?_ (recheck_shares _ _)
    split
    · exact (own _ _ s).trans (run _ _)
    · dsimp only
      exact .ite ((run _ s).trans (own _ _ _)) (run _ s)
  · exact .refl s

theorem scanWindscreen_shares (cab : CabReply) (screen : Reply) (s : State) : ShareKept s (scanWindscreen cab screen s) := by
  unfold scanWindscreen
  split
  · exact (modDefrost_shares _ s).trans (recheck_shares _ _)
  · exact .refl s

theorem scanExpiry_shares (q : ScanReplies) (s : State) : ShareKept s (scanExpiry q s) := by
  have start : ShareKept s { s with scanTimer := s.scanTimer.next 500 } := .of_eq rfl rfl rfl
  exact (((((start.trans (scanZone_shares q 0 _)).trans (scanZone_shares q 1 _)).trans (scanZone_shares q 2 _)).trans
    (scanZone_shares q 3 _)).trans (scanOutside_shares _ _)).trans (scanWindscreen_shares _ _ _)

theorem sampleKey_shares (keys : BitVec 8) (s : State) (k : Nat) : ShareKept s (sampleKey keys s k) := by
  have sampled : ∀ l, ShareKept s { s with keys := l } := fun _ => .of_eq rfl rfl rfl
  unfold sampleKey
  split
  · dsimp only
    split
    · exact (sampled _).trans (changeWord_shares _ _)
    · exact sampled _
  · exact .refl s

theorem sampleTach_shares (tachs : BitVec 8) (s : State) (f : FanId) : ShareKept s (sampleTach tachs s f) := by
  unfold sampleTach
  split
  · dsimp only
    exact .ite (.of_eq rfl rfl rfl) (.of_eq rfl rfl rfl)
  · exact .refl s

theorem sampleExpiry_shares (p : Pins) (s : State) : ShareKept s (sampleExpiry p s) := by
  have start : ShareKept s { s with sampleTimer := s.sampleTimer.next 10 } := .of_eq rfl rfl rfl
  have fed : ∀ l u, ShareKept u { u with stages := l } := fun _ _ => .of_eq rfl rfl rfl
  exact (((((start.trans (sampleDoor_shares 0 _ _)).trans (sampleDoor_shares 1 _ _)).trans (sampleDoor_shares 2 _ _)).trans
    (.foldl (sampleKey_shares p.keys) _ _)).trans (.foldl (sampleTach_shares p.tachs) _ _)).trans (fed _ _)

theorem encoderStep_shares (m : EncoderMove) (s : State) : ShareKept s (encoderStep m s) := by
  have motion : ShareKept s (motionEvent s) := by
    unfold motionEvent
    split
    · exact .refl s
    · exact modDamper_shares _ s
  unfold encoderStep
  split
  · exact .refl s
  · dsimp only
    split
    · exact motion.trans ((modDamper_shares _ _).trans (trackMotor_only _).shares)
    · exact motion

theorem stallExpiry_shares (s : State) : ShareKept s (stallExpiry s) := by
  unfold stallExpiry
  split
  · exact (modDamper_shares _ s).trans (recheck_shares _ _)
  · exact ((modDamper_shares _ s).trans (trackMotor_only _).shares).trans (recheck_shares _ _)
  · exact modDamper_shares _ s

theorem restExpiry_shares (s : State) : ShareKept s (restExpiry s) := by
  unfold restExpiry
  dsimp only
  split <;> exact .of_eq rfl rfl rfl

theorem sliceExpiry_only (i : Nat) (s : State) : StageOnly s (sliceExpiry i s) := by
  have h := modStage_only i (fun st => { st with slice := .stopped }) s
  unfold sliceExpiry
  dsimp only
  split
  · exact .refl s
  · split
    · split
      · exact ((h.trans (modStage_only i _ _)).trans (queueBack_only _ i _)).trans (oweAttempt_only _)
      · exact h.trans (modStage_only i _ _)
    · exact h

theorem windowExpiry_shares (s : State) : ShareKept s (windowExpiry s) :=
  ShareKept.trans (t := { s with windowTimer := s.windowTimer.next 500 }) (.of_eq rfl rfl rfl)
    (.foldl (fun u b => (examineFan_only b.fan u).shares) s.fans _)

theorem refillOwner_shares (o : Owner) (first : Option (Cls × Place)) (s : State) : ShareKept s (refillOwner o first s) := by
  unfold refillOwner
  split
  · split
    · exact (refill_shares _ _ _ _ s).trans (refill_shares _ _ _ _ _)
    · exact .refl s
  · exact (refill_shares _ _ _ _ s).trans (reformClaims_shares _)
  · split
    · exact (refill_shares _ _ _ _ s).trans (reformClaims_shares _)
    · exact .refl s

theorem tellOwner_shares (o : Owner) (s : State) : ShareKept s (tellOwner o s) := by
  unfold tellOwner
  split
  · exact availFall_shares _ s
  · exact .refl s
  · exact .refl s

theorem feedbackFault_shares (i : Nat) (s : State) : ShareKept s (feedbackFault i s) := by
  unfold feedbackFault
  split
  · exact .refl s
  · next st _ =>
    split
    · exact (modStage_only i _ s).shares
    · have faulty : ShareKept s (unqueue i { s with stages := s.stages.set i st.toFaulty }) := .of_eq rfl rfl rfl
      have filled := ((faulty.trans (recheck_shares .stageFaulty _)).trans (tellOwner_shares st.owner _)).trans
        (refillOwner_shares st.owner (s.replacementPlace i st) _)
      exact .ite (filled.trans (oweAttempt_only _).shares) filled

/-! ### The service responder -/

theorem refuse_shares (i : Station) (s : State) : ShareKept s (refuse i s) := queueSingle_shares _ s

theorem selectCursor_shares (i : Station) (c n : Byte) (s : State) : ShareKept s (selectCursor i c n s) := by
  unfold selectCursor
  split
  · exact .of_eq rfl rfl rfl
  · exact queueSingle_shares _ s

theorem readCursor_shares (advance : Bool) (i : Station) (s : State) : ShareKept s (readCursor advance i s) := by
  unfold readCursor
  split
  · exact refuse_shares i s
  · dsimp only
    split
    · split
      · exact (queueSingle_shares _ s).trans (.of_eq rfl rfl rfl)
      · exact queueSingle_shares _ s
    · exact queueSingle_shares _ s

theorem clearLatches_shares (i : Station) (s : State) : ShareKept s (clearLatches i s) :=
  ShareKept.trans (t := { s with cond := { s.cond with latched := s.cond.latched &&& s.cond.current } }) (.of_eq rfl rfl rfl)
    (queueSingle_shares _ _)

theorem applyMasks_shares (i : Station) (a b : Byte) (s : State) : ShareKept s (applyMasks i a b s) := by
  unfold applyMasks
  split
  · exact changeWord_shares _ s
  · exact refuse_shares i s

theorem forMe_shares {effect : State → State} (h : ∀ s, ShareKept s (effect s)) (m : Byte) (s : State) :
    ShareKept s (forMe m effect s) := by
  unfold forMe
  split
  · exact h s
  · exact .refl s

/-! ### Resets -/

/-- A reset leaves nothing to share and no claim (R94, R164). -/
theorem completeReset_shared (warm : Bool) (s : State) : (completeReset warm s).Shared := by
  have hown : (resetBlocks warm s).ownEntry = Entry.own s.straps := by
    change ((Vector.replicate 16 Entry.absent).set s.straps.station.val (Entry.own s.straps)
      s.straps.station.isLt)[s.straps.station.val] = Entry.own s.straps
    rw [Vector.getElem_set_self]
  have hshare : (resetBlocks warm s).ownShare = .const 0 := ownShare_zero rfl rfl
  rw [completeReset_eq]
  exact (foldl_recheck_only Condition.all _).shares
    ⟨⟨by rw [hown]; rfl, by rw [hown]; rfl, by rw [hown]; rfl⟩, hshare.symm⟩

theorem warmRestart_shares (s : State) : ShareKept s (warmRestart s) := by
  unfold warmRestart
  exact .ite (.refl s) fun _ => completeReset_shared true s

/-! ### Every command -/

/-- Every command of a running node, a restart among them, keeps the own entry sound and the allocation following. -/
theorem effectOf_shares (c : Instr) (s : State) : ShareKept s (effectOf c s) := by
  cases c with
  | controlRestart i m a b => exact receive_shares (forMe_shares warmRestart_shares m) i _ s
  | powerOnReset => exact .refl s
  | imageReadDone _ => exact .refl s
  | imageReadTimeout => exact .refl s
  | resetPinRelease _ => exact .refl s
  | joinListenEnd => exact listenEnd_shares s
  | controlPeriodExpiry z => exact controlExpiry_shares z s
  | sensorScan q => exact scanExpiry_shares q s
  | holdTimerExpiry z => exact holdExpiry_shares z s
  | inputSample p => exact sampleExpiry_shares p s
  | stuckTimerExpiry d => exact stuckExpiry_shares d s
  | layoverMarkExpiry d => exact layoverMarkExpiry_shares d s
  | runOnExpiry d => exact runOnExpiry_shares d s
  | feedbackFault i => exact feedbackFault_shares i.val s
  | pacingExpiry => exact .of_eq rfl rfl rfl
  | sliceExpiry i => exact (sliceExpiry_only i.val s).shares
  | tachWindowExpiry => exact windowExpiry_shares s
  | startTimerExpiry f => exact (startExpiry_only f s).shares
  | retryTimerExpiry f => exact modFan_shares f _ s
  | encoderStep m => exact encoderStep_shares m s
  | stallTimerExpiry => exact stallExpiry_shares s
  | restTimerExpiry => exact restExpiry_shares s
  | defrostCheck => exact defrostCheck_shares s
  | boostTimerExpiry => exact boostExpiry_shares s
  | boostRemainingFall => exact boostFall_shares s
  | louvreStep => exact modDefrost_shares _ s
  | layoverTimerExpiry => exact layoverExpiry_shares s
  | layoverMinutesFall => exact changeWord_shares _ s
  | overrideSilenceExpiry => exact overrideSilence_shares s
  | overrideHoldExpiry => exact setInUse_shares _ s
  | ageingExpiry => exact ageingExpiry_shares s
  | agreementHoldExpiry => exact .of_eq rfl rfl rfl
  | silenceExpiry => exact silenceExpiry_shares s
  | gapTimerExpiry => exact gapExpiry_shares s
  | holdOffExpiry => exact holdOffExpiry_shares s
  | txFailureExpiry => exact failureExpiry_shares s
  | spacingExpiry => exact spacingExpiry_shares s
  | presenceTimerExpiry =>
    exact ShareKept.trans (modLink_shares (fun l => { l with presence := l.presence.next 1000 }) s) (queueSingle_shares _ _)
  | overrideTimerExpiry => exact overrideExpiry_shares s
  | statusTimerExpiry =>
    exact ShareKept.trans (modLink_shares (fun l => { l with status := l.status.next 5000 }) s) (queueSingle_shares _ _)
  | txAttemptStart n d => exact attemptStart_shares n d s
  | collision => exact attemptFailed_shares s
  | frameConfirmed => exact attemptConfirmed_shares s
  | frameDiscard r =>
    change ShareKept s ((if r.isDiscard then discard else id) s)
    split
    · exact (modLink_shares _ s).trans (recheck_shares _ _)
    · exact .refl s
  | errorWindowDeparture => exact (modLink_shares _ s).trans (recheck_shares _ _)
  | powerFrame i b => exact receivePower_shares i b s
  | demandFrame i b => exact receive_shares ShareKept.refl i _ s
  | presenceFrame i b => exact receive_shares ShareKept.refl i _ s
  | doorFrame i b => exact receive_shares (peerDoor_shares i b) i _ s
  | overrideFrame i b => exact receive_shares (takeOverride_shares i b) i _ s
  | statusFrame i b => exact receive_shares ShareKept.refl i _ s
  | answerFrame i b => exact receive_shares ShareKept.refl i _ s
  | probeSelect i m c n => exact receive_shares (forMe_shares (selectCursor_shares i c n) m) i _ s
  | probeNext i m c n => exact receive_shares (forMe_shares (readCursor_shares true i) m) i _ s
  | probePeek i m c n => exact receive_shares (forMe_shares (readCursor_shares false i) m) i _ s
  | probeClear i m c n => exact receive_shares (forMe_shares (clearLatches_shares i) m) i _ s
  | probeBadOperation i m o c n => exact receive_shares (forMe_shares (refuse_shares i) m) i _ s
  | controlOvrMasks i m a b => exact receive_shares (forMe_shares (applyMasks_shares i a b) m) i _ s
  | controlBadOperation i m o a b => exact receive_shares (forMe_shares (refuse_shares i) m) i _ s

/-- What closes a step writes of the view the own draw only. -/
theorem finish_shares (s : State) : ShareKept s (finish s) :=
  finish_keeps_relation .trans .refl
    (fun u => (modEntry_own_same (g := fun e => { e with draw := capNat 255 u.drawNow }) (fun _ => ⟨rfl, rfl, rfl, rfl⟩) u).kept.trans
      (refreshList_only _).shares)
    (fun h hv _ => .of_eq h.straps_eq h.alloc_eq (by rw [hv])) (fun _ => .of_eq rfl rfl rfl) s

/-! ### Every step -/

/-- In a node that runs, the own entry is sound and the allocation follows its inputs. -/
theorem shared_iff {s : State} : s.OwnEntryKept ∧ s.AllocationFollows ↔ (s.phase = .running → s.Shared) :=
  ⟨fun ⟨hown, hshare⟩ hrun => ⟨⟨(hown hrun).1, (hown hrun).2.1, (hown hrun).2.2⟩, hshare hrun⟩,
    fun h => ⟨fun hrun => ⟨(h hrun).alive, (h hrun).unheard, (h hrun).intents⟩, fun hrun => (h hrun).share⟩⟩

theorem install_shared (c : Image) (check : BitVec 16) (s : State) : (finish (install c check s)).Shared :=
  finish_shares _ (completeReset_shared false _)

theorem installBuiltIn_shared (s : State) : (finish (installBuiltIn s)).Shared := install_shared _ _ _

theorem imageRead_shared (image : Option (List Byte)) (s : State) : (finish (imageRead image s)).Shared := by
  unfold imageRead
  split
  · split
    · exact install_shared _ _ _
    · exact installBuiltIn_shared _
  · exact installBuiltIn_shared _

/-- The pin's release loads the memory, in a node that does not run yet, or completes the reset (R162, R164). -/
theorem releaseReset_shared (p : StrapPins) (s : State) :
    (finish (releaseReset p s)).phase ≠ .running ∨ (finish (releaseReset p s)).Shared := by
  unfold releaseReset
  dsimp only
  split
  · refine .inl ?_
    rw [(finish_plain _).phase]
    exact fun h => by cases h
  · exact .inr (installBuiltIn_shared _)

theorem command_shared {c : Instr} {s t : State} (h : exec c s = .next t) (hs : s.phase = .running → s.Shared) :
    t.phase = .running → t.Shared := by
  rcases exec_does h with rfl | ⟨hrun, now, rfl⟩ | rfl | ⟨p, rfl⟩ | ⟨image, rfl⟩ | ⟨e, rfl⟩
  · exact hs
  · have hclock : ShareKept s { s with clock := now } := .of_eq rfl rfl rfl
    exact fun _ => finish_shares _ (effectOf_shares c _ (hclock (hs hrun)))
  · exact fun h => by cases h
  · exact fun hrun => (releaseReset_shared p s).resolve_left fun hnot => hnot hrun
  · exact fun _ => imageRead_shared image s
  · exact fun _ => installBuiltIn_shared _

/-- Settles O54: the parts of a command leave what the allocation reads or compute it again, and a reset leaves nothing to
share. -/
theorem allocationFollowsItsInputs : Obligations.AllocationFollowsItsInputs := by
  intro s t hown hshare h
  have hs := shared_iff.1 ⟨hown, hshare⟩
  refine shared_iff.2 ?_
  rcases step_does h with rfl | ⟨c, pending, hexec⟩
  · have htick : ShareKept s (tick s) := .of_eq rfl rfl rfl
    exact fun hrun => htick (hs hrun)
  · have hpending : ShareKept s { s with pending := pending } := .of_eq rfl rfl rfl
    exact command_shared hexec fun hrun => hpending (hs hrun)

end Sys2Proof.Machine
end

section
/-! The operations that move the sharing state (R61, R68 to R90): what each makes of the allocator's record, and the closing of a
step that has nothing to switch on. -/

namespace Sys2Proof.Machine

/-! ### Figures by class -/

theorem map₂_min_zero (p : PerClass Nat) : p.map₂ min (.const 0) = .const 0 := by simp [PerClass.map₂, PerClass.const]

theorem zero_map₂_min (p : PerClass Nat) : (PerClass.const 0).map₂ min p = .const 0 := by simp [PerClass.map₂, PerClass.const]

theorem zero_map₂_max (p : PerClass Nat) : (PerClass.const 0).map₂ max p = p := by simp [PerClass.map₂, PerClass.const]

/-! ### The intents and the allocation -/

theorem raiseIntents_alloc (s : State) : (raiseIntents s).alloc =
    if s.alloc.announced.map₂ max s.alloc.allocation = s.alloc.announced then s.alloc
    else { s.alloc with
      announced := s.alloc.announced.map₂ max s.alloc.allocation, raisePending := true, holdOff := .stopped } := by
  rw [raiseIntents_eq]
  split
  · rfl
  · rw [(demandDue_only _).alloc_eq]; rfl

theorem lowerIntents_alloc (s : State) : (lowerIntents s).alloc =
    { s.alloc with usable := s.alloc.usable.map₂ min s.alloc.allocation
                   announced := s.alloc.announced.map₂ min s.alloc.allocation } := by
  have hcuts : (cuts (s.alloc.usable.map₂ min s.alloc.allocation) s.alloc.usable Cls.all (lowered s)).alloc =
      { s.alloc with usable := s.alloc.usable.map₂ min s.alloc.allocation
                     announced := s.alloc.announced.map₂ min s.alloc.allocation } := by
    rw [(cuts_only _ _ _ _).alloc_eq, lowered_alloc]
  rw [lowerIntents_eq]
  split
  · exact hcuts
  · rw [(demandDue_only _).alloc_eq]; exact hcuts

theorem shareTested_alloc (s : State) : (shareTested s).alloc = { s.alloc with allocation := s.ownShare } :=
  (shareTested_only s).alloc_eq

/-- The computation moves no other figure than the intents, the allocation, and what a raise starts. -/
theorem recompute_alloc (s : State) : ∃ n p o, (recompute s).alloc =
    { s.alloc with allocation := s.ownShare, usable := s.alloc.usable.map₂ min s.ownShare, announced := n
                   raisePending := p, holdOff := o } := by
  have hlowered := lowerIntents_alloc (shareTested s)
  rw [shareTested_alloc] at hlowered
  rw [recompute_eq, raiseIntents_alloc, hlowered]
  split
  · exact ⟨_, _, _, rfl⟩
  · exact ⟨_, _, _, rfl⟩

/-- Nothing granted: the allocation and every intent are 0, and no raise follows. -/
theorem recompute_alloc_zero {s : State} (h : s.ownShare = .const 0) : (recompute s).alloc =
    { s.alloc with allocation := .const 0, usable := .const 0, announced := .const 0 } := by
  have hlowered := lowerIntents_alloc (shareTested s)
  rw [shareTested_alloc, h] at hlowered
  simp only [map₂_min_zero] at hlowered
  rw [recompute_eq, raiseIntents_alloc, hlowered]
  exact if_pos (zero_map₂_max _)

theorem zeroed_alloc (s : State) : (zeroed s).alloc = { s.alloc with usable := .const 0, announced := .const 0 } := by
  unfold zeroed
  split
  · next h => exact congrArg (fun p => { s.alloc with usable := PerClass.const 0, announced := p }) h
  · rw [(demandDue_only _).alloc_eq]; rfl

/-- A shed sets the intents to 0, and announces the allocation again (R89). -/
theorem shed_alloc (s : State) : (shed s).alloc =
    { s.alloc with usable := .const 0, announced := s.alloc.allocation, holdOff := .stopped
                   raisePending := s.alloc.allocation != .const 0 } := by
  have hdisarmed : (disarmed (zeroed (shedStages s))).alloc =
      { s.alloc with usable := .const 0, announced := .const 0, holdOff := .stopped, raisePending := false } := by
    unfold disarmed
    rw [State.modAlloc_alloc, zeroed_alloc, (shedStages_only s).alloc_eq]
  rw [shed_eq, raiseIntents_alloc, hdisarmed]
  simp only [zero_map₂_max]
  by_cases hzero : s.alloc.allocation = .const 0
  · rw [if_pos hzero, hzero, bne_self_eq_false]
  · rw [if_neg hzero, bne_iff_ne.2 hzero]

/-! ### A sharing state entered -/

theorem sharingOwed_alloc (new : Sharing) (s : State) : (sharingOwed new s).alloc = { s.alloc with sharing := new } := by
  have told : (sharingTold new s).alloc = { s.alloc with sharing := new } := (sharingTold_only new s).alloc_eq
  unfold sharingOwed
  split <;> exact told

theorem enterSharing_alloc (new : Sharing) (s : State) : (enterSharing new s).alloc = { s.alloc with sharing := new } := by
  rw [enterSharing_eq]
  split
  · rw [(rechooseZoneFans_only _).alloc_eq, sharingOwed_alloc]
  · exact sharingOwed_alloc new s

/-- Where JOINING neither ends nor begins, the fans are not chosen again. -/
theorem enterSharing_owed {new : Sharing} {s : State} (h : s.alloc.sharing = .joining ↔ new = .joining) :
    enterSharing new s = sharingOwed new s := by
  rw [enterSharing_eq]
  exact if_neg fun hne => hne (propext h)

theorem sharingOwed_only (new : Sharing) (s : State) : ShareOnly s (sharingOwed new s) := by
  have told : ShareOnly s (sharingTold new s) :=
    (modAlloc_only (fun a => { a with sharing := new }) s).trans (sharingTold_only new s).toShareOnly
  unfold sharingOwed
  split
  · exact told.trans (oweAttempt_only _).toShareOnly
  · exact told

/-- The flags of the conditions that name a sharing state (R90, R118). -/
theorem sharingTold_current (new : Sharing) (s : State) :
    flagSet (sharingTold new s).cond.current .powerSilent = (new == .silent)
    ∧ flagSet (sharingTold new s).cond.current .txFailed = (new == .muted)
    ∧ flagSet (sharingTold new s).cond.current .duplicateStation = (new == .isolated) := by
  have hsilent := (recheck_only .powerSilent (s.modAlloc fun a => { a with sharing := new })).alloc_eq
  have htx := (recheck_only .txFailed (recheck .powerSilent (s.modAlloc fun a => { a with sharing := new }))).alloc_eq
  unfold sharingTold
  simp only [recheck_current, conditionHolds, htx, hsilent]
  exact ⟨rfl, rfl, rfl⟩

theorem commandFan_current {c : Condition} (hc : c ≠ .blowerFailed) (f : FanId) (level : Nat) (s : State) :
    flagSet (commandFan f level s).cond.current c = flagSet s.cond.current c := by
  have stopped : ∀ u : State, u.cond = s.cond → flagSet (recheck .blowerFailed u).cond.current c = flagSet s.cond.current c :=
    fun u hu => by rw [recheck_current, if_neg hc, hu]
  unfold commandFan
  cases s.fan? f with
  | none => rfl
  | some b =>
    dsimp only
    split
    · rfl
    · split
      · cases b.state <;> rfl
      · split
        · split
          · rw [(blowerLoss_plain f _).current]; exact stopped _ rfl
          · exact stopped _ rfl
        · rfl

theorem rechooseZoneFan_current {c : Condition} (hc : c ≠ .blowerFailed) (z : Fin 4) (s : State) :
    flagSet (rechooseZoneFan z s).cond.current c = flagSet s.cond.current c := by
  unfold rechooseZoneFan
  split
  · exact commandFan_current hc _ _ s
  · rfl

theorem rechooseZoneFans_current {c : Condition} (hc : c ≠ .blowerFailed) (s : State) :
    flagSet (rechooseZoneFans s).cond.current c = flagSet s.cond.current c := by
  unfold rechooseZoneFans
  simp only [rechooseZoneFan_current hc]

/-- The flags after a sharing state is entered (R90, R118). -/
theorem enterSharing_current (new : Sharing) (s : State) :
    flagSet (enterSharing new s).cond.current .powerSilent = (new == .silent)
    ∧ flagSet (enterSharing new s).cond.current .txFailed = (new == .muted)
    ∧ flagSet (enterSharing new s).cond.current .duplicateStation = (new == .isolated) := by
  have owed : (sharingOwed new s).cond = (sharingTold new s).cond := by unfold sharingOwed; split <;> rfl
  have told := sharingTold_current new s
  rw [← owed] at told
  rw [enterSharing_eq]
  split
  · rw [rechooseZoneFans_current (by decide), rechooseZoneFans_current (by decide), rechooseZoneFans_current (by decide)]
    exact told
  · exact told

/-! ### A closing with nothing to switch on -/

/-- No stage can be switched on: the node is not ACTIVE, or no stage waits that could be (R54). -/
def State.NothingWaits (s : State) : Prop := s.alloc.sharing = .active → s.firstSuspended = none ∧ s.firstAdmissible = none

/-- Such a closing writes the view, the link and the outputs only. -/
theorem finish_frame_of_nothingWaits {s : State} (h : s.NothingWaits) : ∃ v l o, finish s =
    { s with attemptDue := false, view := v, link := l, outputs := o } := by
  have hpay : payAttempt s = if s.attemptDue then noteDraw { s with attemptDue := false } else s := by
    unfold payAttempt
    split
    · exact admissionAttempt_nothing (s := noteDraw { s with attemptDue := false }) h
    · rfl
  by_cases hdue : s.attemptDue = true
  · rw [if_pos hdue] at hpay
    unfold finish
    rw [hpay]
    exact ⟨_, _, _, rfl⟩
  · have hsettled : s.attemptDue = false := Bool.eq_false_iff.2 hdue
    obtain ⟨v, l, o, hfinish⟩ := finish_frame_of_settled hsettled
    exact ⟨v, l, o, by rw [hfinish, ← hsettled]⟩

/-- Where nothing heats, no intent is usable and every stage has a size, no stage can be switched on. -/
theorem State.Cold.nothingWaits {s : State} (h : s.Cold) (husable : s.alloc.usable = .const 0)
    (hsize : ∀ i st, s.stage? i = some st → 0 < st.size) : s.NothingWaits := fun _ => by
  refine ⟨firstSuspended_none fun st hst hsus => ?_, firstAdmissible_none fun c j _ ⟨w, hw, _, _, _, hroom⟩ => ?_⟩
  · obtain ⟨i, hi⟩ := mem_stages_iff.1 hst
    have := h i st hi
    simp [Stage.heating, hsus] at this
  · have := hsize j w hw
    rw [husable, PerClass_get_const] at hroom
    omega

/-- A stage keeps its size while stages cool. -/
theorem Cools.sizes {s t : State} (h : s.Cools t) (hsize : ∀ st ∈ s.stages, 0 < st.size) (i : Nat) (st' : Stage)
    (ht : t.stage? i = some st') : 0 < st'.size := by
  obtain ⟨st, hs, hcools⟩ := h i st' ht
  rw [hcools.size]
  exact hsize st (mem_stages_iff.2 ⟨i, hs⟩)

theorem State.Cold.mem {s : State} (h : s.Cold) : ∀ st ∈ s.stages, st.heating = false := fun st hst => by
  obtain ⟨i, hi⟩ := mem_stages_iff.1 hst
  exact h i st hi

end Sys2Proof.Machine
end

section
/-! The allocator's timers: silence (R69, R86), the gap (R84) and the hold-off (R77). -/

namespace Sys2Proof.Machine

/-- A step's closing leaves the allocator's record. -/
theorem finish_alloc (s : State) : (finish s).alloc = s.alloc := by
  obtain ⟨_, _, _, _, _, _, _, hfinish⟩ := finish_frame s
  rw [hfinish]

/-- A step of the allocator that switches nothing on. -/
theorem finish_shareOnly {s u : State} (h : ShareOnly s u) (hidle : u.NothingWaits) : ∃ st q a v l c o, finish u =
    { s with stages := st, queue := q, attemptDue := false, alloc := a, view := v, link := l, cond := c, outputs := o } := by
  obtain ⟨v, l, o, hfinish⟩ := finish_frame_of_nothingWaits hidle
  obtain ⟨st, q, _, a, _, _, c, rfl⟩ := h
  exact ⟨st, q, a, v, l, c, o, hfinish⟩

/-- What such a step leaves standing of the stages. -/
theorem finish_stages_of_nothingWaits {u : State} (hidle : u.NothingWaits) : (finish u).stages = u.stages := by
  obtain ⟨_, _, _, hfinish⟩ := finish_frame_of_nothingWaits hidle
  rw [hfinish]

theorem nothingWaits_of_sharing {s : State} (h : s.alloc.sharing ≠ .active) : s.NothingWaits := fun hactive => absurd hactive h

/-- The gap timer stopped, a sharing state entered and a shed, in the allocator's record. -/
theorem shed_entered_alloc (new : Sharing) (s : State) : (shed (enterSharing new (stopGap s))).alloc =
    { s.alloc with
      sharing := new, gap := .stopped, usable := .const 0, announced := s.alloc.allocation
      raisePending := s.alloc.allocation != .const 0, holdOff := .stopped } := by
  rw [shed_alloc, enterSharing_alloc]
  rfl

theorem entered_shed_alloc (new : Sharing) (s : State) : (enterSharing new (shed (stopGap s))).alloc =
    { s.alloc with
      sharing := new, gap := .stopped, usable := .const 0, announced := s.alloc.allocation
      raisePending := s.alloc.allocation != .const 0, holdOff := .stopped } := by
  rw [enterSharing_alloc, shed_alloc]
  rfl

/-! ### The silence timer -/

/-- Silence: no budget, no surplus, and the allocation computed from them (R69). -/
def silenced (s : State) : State :=
  recompute (s.modAlloc fun a => { a with silence := .expired, budget := 0, surplus := 0, line := .none })

theorem silenced_alloc (s : State) : (silenced s).alloc =
    { s.alloc with silence := .expired, budget := 0, surplus := 0, line := .none
                   allocation := .const 0, usable := .const 0, announced := .const 0 } :=
  recompute_alloc_zero (ownShare_zero rfl rfl)

theorem silenced_only (s : State) : ShareOnly s (silenced s) := (modAlloc_only _ s).trans (recompute_only _)

theorem silenceExpiry_eq (s : State) : silenceExpiry s =
    if s.alloc.sharing = .active ∨ s.alloc.sharing = .gapHold then enterSilent (silenced s) else silenced s := by
  have hsharing : (silenced s).alloc.sharing = s.alloc.sharing := by rw [silenced_alloc]
  rw [← hsharing]
  unfold silenceExpiry silenced
  dsimp only
  split <;> next h => simp only [h, reduceCtorEq, or_self, or_true, true_or, if_true, if_false]

/-- SILENT entered from a state other than JOINING leaves the fans. -/
theorem enterSilent_shareOnly {s : State} (h : s.alloc.sharing ≠ .joining) : ShareOnly s (enterSilent s) := by
  have hentered : enterSharing .silent (stopGap s) = sharingOwed .silent (stopGap s) :=
    enterSharing_owed ⟨fun hj => absurd hj h, fun hj => by cases hj⟩
  unfold enterSilent
  rw [hentered]
  exact ((stopGap_only s).trans (sharingOwed_only _ _)).trans (shed_only _)

theorem enterSilent_silent (s : State) : flagSet (enterSilent s).cond.current .powerSilent = true := by
  unfold enterSilent
  rw [(shed_plain _).current]
  exact (enterSharing_current .silent (stopGap s)).1

/-- The silence timer's expiry in ACTIVE or GAP_HOLD. -/
theorem silenceExpiry_entering {s : State} (h : s.alloc.sharing = .active ∨ s.alloc.sharing = .gapHold) :
    ShareOnly s (silenceExpiry s) ∧ (silenceExpiry s).Cold
    ∧ flagSet (silenceExpiry s).cond.current .powerSilent = true ∧ (silenceExpiry s).alloc =
      { s.alloc with
        silence := .expired, budget := 0, surplus := 0, line := .none, allocation := .const 0, usable := .const 0
        announced := .const 0, sharing := .silent, gap := .stopped, raisePending := false, holdOff := .stopped } := by
  have hjoin : (silenced s).alloc.sharing ≠ .joining := by
    rw [silenced_alloc]
    rintro (hj : s.alloc.sharing = .joining)
    rw [hj] at h
    rcases h with h | h <;> cases h
  rw [silenceExpiry_eq, if_pos h]
  refine ⟨(silenced_only s).trans (enterSilent_shareOnly hjoin), (shed_kept _).2, enterSilent_silent _, ?_⟩
  unfold enterSilent
  rw [shed_entered_alloc, silenced_alloc]
  rfl

/-! ### The gap timer -/

/-- The gap timer's expiry in GAP_HOLD. -/
theorem gapExpiry_entering {s : State} (h : s.alloc.sharing = .gapHold) (hsize : ∀ st ∈ s.stages, 0 < st.size) :
    ShareOnly s (gapExpiry s) ∧ (gapExpiry s).Cold ∧ (gapExpiry s).NothingWaits ∧ (gapExpiry s).alloc =
      { s.alloc with
        sharing := .active, gap := .stopped, usable := .const 0, announced := s.alloc.allocation
        raisePending := s.alloc.allocation != .const 0, holdOff := .stopped } := by
  have heq : gapExpiry s = enterSharing .active (shed (stopGap s)) := if_pos h
  have hsharing : (shed (stopGap s)).alloc.sharing = .gapHold := by rw [shed_alloc]; exact h
  have howed : enterSharing .active (shed (stopGap s)) = sharingOwed .active (shed (stopGap s)) :=
    enterSharing_owed (by rw [hsharing]; exact ⟨(fun hj => by cases hj), (fun hj => by cases hj)⟩)
  have halloc := entered_shed_alloc .active s
  have hstages := enterSharing_stages .active (shed (stopGap s))
  have hcold : (enterSharing .active (shed (stopGap s))).Cold := (shed_kept _).2.cools hstages.cools
  have hcools : s.Cools (enterSharing .active (shed (stopGap s))) :=
    ((stopGap_heat s).cools.trans (shed_heat _).cools).trans hstages.cools
  rw [heq]
  refine ⟨?_, hcold, hcold.nothingWaits (by rw [halloc]) (Cools.sizes hcools hsize), halloc⟩
  rw [howed]
  exact ((stopGap_only s).trans (shed_only _)).trans (sharingOwed_only _ _)

/-- Settles O29: silence computes with nothing to share and goes SILENT from the heating states; the end of a gap sheds before
it enters ACTIVE, so that its attempt finds no usable intent. -/
theorem silenceAndGapExpire : Obligations.SilenceAndGapExpire := by
  intro s e hready others
  obtain ⟨now, hnow⟩ := advanceTo_eq e s
  have hothers : ∀ u, ShareOnly { s with clock := now } u → u.NothingWaits → others (finish u) := fun u hu hidle => by
    obtain ⟨_, _, _, _, _, _, _, hfinish⟩ := finish_shareOnly hu hidle
    change ({ finish u with
      clock := s.clock, stages := s.stages, queue := s.queue, alloc := s.alloc, view := s.view, link := s.link,
      cond := s.cond, outputs := s.outputs } : State) = s
    rw [hfinish, ← hready.settled]
  refine ⟨?_, fun htimer hgap hsize => ?_⟩
  · intro htimer enters
    have hexec : exec .silenceExpiry s = .next (finish (silenceExpiry { s with clock := now })) := by
      rw [← hnow, ← atExpiry_running e silenceExpiry s hready.running, ← htimer]
      rfl
    refine ⟨_, hexec, ?_⟩
    rw [finish_alloc, finish_cond]
    by_cases henters : enters
    · obtain ⟨honly, hcold, hflag, halloc⟩ := silenceExpiry_entering (s := { s with clock := now }) henters
      have hidle : (silenceExpiry { s with clock := now }).NothingWaits :=
        nothingWaits_of_sharing (by rw [halloc]; exact fun h => by cases h)
      rw [halloc, if_pos henters]
      refine ⟨rfl, rfl, rfl, rfl, rfl, rfl, rfl, rfl, fun _ => ⟨rfl, hflag, ?_⟩, hothers _ honly hidle⟩
      rw [finish_stages_of_nothingWaits hidle]
      exact hcold.mem
    · have halloc := silenced_alloc { s with clock := now }
      have hidle : (silenced { s with clock := now }).NothingWaits :=
        nothingWaits_of_sharing (by rw [halloc]; exact fun h => henters (.inl h))
      rw [silenceExpiry_eq, if_neg (c := s.alloc.sharing = .active ∨ s.alloc.sharing = .gapHold) henters, halloc, if_neg henters]
      exact ⟨rfl, rfl, rfl, rfl, rfl, rfl, rfl, rfl, fun h => absurd h henters, hothers _ (silenced_only _) hidle⟩
  · have hexec : exec .gapTimerExpiry s = .next (finish (gapExpiry { s with clock := now })) := by
      rw [← hnow, ← atExpiry_running e gapExpiry s hready.running, ← htimer]
      rfl
    obtain ⟨honly, hcold, hidle, halloc⟩ := gapExpiry_entering (s := { s with clock := now }) hgap hsize
    refine ⟨_, hexec, ?_, hothers _ honly hidle, ?_⟩
    · rw [finish_stages_of_nothingWaits hidle]
      exact hcold.mem
    · rw [finish_alloc, halloc]

/-! ### The hold-off -/

/-- The hold-off stopped and the usable intents at the lesser of announced intent and allocation. -/
def usableRaised (s : State) : State :=
  setUsable (s.alloc.announced.map₂ min s.alloc.allocation) (s.modAlloc fun a => { a with holdOff := .stopped })

/-- The hold-off's expiry writes the allocator's record alone, and owes the attempt or not. -/
theorem holdOffExpiry_eq (s : State) : ∃ due, holdOffExpiry s = { usableRaised s with attemptDue := due } := by
  unfold holdOffExpiry
  dsimp only
  split
  · exact ⟨true, rfl⟩
  · exact ⟨s.attemptDue, rfl⟩

/-- Settles O30: the expiry writes the allocator's record alone, and the step's closing leaves that record. -/
theorem holdOffRaisesTheUsableIntents : Obligations.HoldOffRaisesTheUsableIntents := by
  intro s e hready htimer
  obtain ⟨now, hnow⟩ := advanceTo_eq e s
  obtain ⟨due, heffect⟩ := holdOffExpiry_eq { s with clock := now }
  have hexec : exec .holdOffExpiry s = .next (finish { usableRaised { s with clock := now } with attemptDue := due }) := by
    rw [← heffect, ← hnow, ← atExpiry_running e holdOffExpiry s hready.running, ← htimer]
    rfl
  refine ⟨_, hexec, ?_, ?_⟩
  · rw [finish_alloc]
    rfl
  · obtain ⟨_, _, _, _, _, _, _, hfinish⟩ := finish_frame { usableRaised { s with clock := now } with attemptDue := due }
    rw [hfinish, ← hready.settled]
    rfl

end Sys2Proof.Machine
end

section
/-! What the operations that move the sharing state leave of the link: the attempt, an expired transmit-failure timer, and the
place of a waiting DEMAND entry (R120, R125). -/

namespace Sys2Proof.Machine

/-! ### Relations that a move of the sharing state keeps -/

/-- A relation that each single change of a move of the sharing state keeps (R55, R61, R65, R89, R157). -/
structure Moves (R : State → State → Prop) : Prop extends Recomputes R where
  fans : ∀ s l, R s { s with fans := l }
  takeOff : ∀ l s, R s (takeOff l s)
  owe : ∀ s, R s (oweAttempt s)

namespace Moves

variable {R : State → State → Prop}

theorem commandFan (h : Moves R) (f : FanId) (level : Nat) (s : State) : R s (commandFan f level s) := by
  have setLevel : R s (s.modFan f fun b => { b with level := level }) := h.fans s _
  unfold Machine.commandFan
  cases s.fan? f with
  | none => exact h.refl s
  | some b =>
    dsimp only
    split
    · exact h.refl s
    · split
      · cases b.state with
        | stopped => exact h.trans setLevel (h.fans _ _)
        | _ => exact setLevel
      · split
        · have stopped := h.trans (h.trans setLevel (h.fans _ _)) (h.recheck .blowerFailed
            ((s.modFan f fun b => { b with level := level }).modFan f Blower.stop))
          split
          · exact h.trans stopped (h.takeOff _ _)
          · exact stopped
        · exact setLevel

theorem rechooseZoneFan (h : Moves R) (z : Fin 4) (s : State) : R s (rechooseZoneFan z s) := by
  unfold Machine.rechooseZoneFan
  split
  · exact h.commandFan _ _ s
  · exact h.refl s

theorem rechooseZoneFans (h : Moves R) (s : State) : R s (rechooseZoneFans s) :=
  h.trans (h.trans (h.trans (h.rechooseZoneFan 0 s) (h.rechooseZoneFan 1 _)) (h.rechooseZoneFan 2 _)) (h.rechooseZoneFan 3 _)

theorem enterSharing (h : Moves R) (new : Sharing) (s : State) : R s (enterSharing new s) := by
  have told : R s (sharingTold new s) :=
    h.trans (h.trans (h.trans (h.alloc s { s.alloc with sharing := new }) (h.recheck _ _)) (h.recheck _ _)) (h.recheck _ _)
  have owed : R s (sharingOwed new s) := by
    unfold sharingOwed
    split
    · exact h.trans told (h.owe _)
    · exact told
  rw [enterSharing_eq]
  split
  · exact h.trans owed (h.rechooseZoneFans _)
  · exact owed

theorem zeroed (h : Moves R) (s : State) : R s (zeroed s) := by
  have usable : R s (setUsable (.const 0) s) := h.alloc s _
  unfold Machine.zeroed
  split
  · exact usable
  · exact h.trans (h.trans usable (h.setAnnounced _ _)) (h.due _)

/-- What a shed does once the intents stand at 0. -/
theorem raised (h : Moves R) (s : State) : R s (raiseIntents (disarmed s)) :=
  h.trans (h.alloc s { s.alloc with holdOff := .stopped, raisePending := false }) (h.raiseIntents _)

theorem shed (h : Moves R) (s : State) : R s (shed s) := by
  rw [shed_eq]
  exact h.trans (h.trans (h.takeOff _ s) (h.zeroed _)) (h.raised _)

theorem enterSilent (h : Moves R) (s : State) : R s (enterSilent s) :=
  h.trans (h.trans (h.alloc s { s.alloc with gap := .stopped }) (h.enterSharing _ _)) (h.shed _)

theorem enterMuted (h : Moves R) (s : State) : R s (enterMuted s) :=
  h.trans (h.trans (h.alloc s { s.alloc with gap := .stopped }) (h.enterSharing _ _)) (h.shed _)

theorem joinExit (h : Moves R) (s : State) : R s (joinExit s) := by
  unfold Machine.joinExit
  split
  · split
    · exact h.enterSilent s
    · exact h.enterSharing _ s
  · exact h.refl s

theorem mutedExit (h : Moves R) (s : State) : R s (mutedExit s) := by
  unfold Machine.mutedExit
  split
  · split
    · split
      · exact h.enterSilent s
      · exact h.enterSharing _ s
    · exact h.enterSharing _ s
  · exact h.refl s

end Moves

theorem moves_grows : Moves ListGrows where
  toRecomputes := recomputes_grows
  fans _ _ := .of_link rfl
  takeOff l s := .of_link (takeOff_only l s).link_eq
  owe _ := .of_link rfl

/-! ### A DEMAND entry that waits -/

theorem replace_replace (b : Bool) (f g : Frame) (w : TxEntry) : (w.replace b f).replace b g = w.replace b g := by
  simp [TxEntry.replace]

/-- An entry as it was, or with newer figures of the DEMAND frame in its place (R112, R120). -/
inductive TxEntry.Renews (b : Bool) (w w' : TxEntry) : Prop
  | same (h : w' = w)
  | renewed (f : Frame) (hf : f.isDemand = true) (h : w' = w.replace b f)

theorem TxEntry.Renews.isDemand {b : Bool} {w w' : TxEntry} (h : w.Renews b w') (hw : w.frame.isDemand = true) :
    w'.frame.isDemand = true := by
  rcases h with rfl | ⟨f, hf, rfl⟩
  · exact hw
  · exact hf

/-- An entry renewed and changed again is renewed. -/
theorem replace_renews {b : Bool} {f : Frame} {w w' : TxEntry} (hf : f.isDemand = true) (h : (w.replace b f).Renews b w') :
    ∃ g, g.isDemand = true ∧ w' = w.replace b g := by
  rcases h with rfl | ⟨g, hg, rfl⟩
  · exact ⟨f, hf, rfl⟩
  · exact ⟨g, hg, replace_replace b f g w⟩

theorem TxEntry.Renews.trans {b : Bool} {w w' w'' : TxEntry} (h₁ : w.Renews b w') (h₂ : w'.Renews b w'') : w.Renews b w'' := by
  rcases h₁ with rfl | ⟨f, hf, rfl⟩
  · exact h₂
  · obtain ⟨g, hg, hw⟩ := replace_renews hf h₂
    exact .renewed g hg hw

/-- The attempt stands, an expired transmit-failure timer stays expired, and a DEMAND entry at place `n` waits on there. -/
structure WaitsAt (n : Nat) (s t : State) : Prop where
  attempt : t.link.attempt = s.link.attempt
  failure : s.link.failure = .expired → t.link.failure = .expired
  entry : ∀ w, s.link.list[n]? = some w → w.frame.isDemand = true →
    ∃ w', t.link.list[n]? = some w' ∧ w.Renews (n == 0 && s.headSending) w'

section
variable {n : Nat} {s t : State}

theorem WaitsAt.of_link (h : t.link = s.link) : WaitsAt n s t :=
  ⟨by rw [h], by rw [h]; exact id, fun w hw _ => ⟨w, by rw [h]; exact hw, .same rfl⟩⟩

theorem WaitsAt.headSending (h : WaitsAt n s t) : t.headSending = s.headSending := by
  unfold State.headSending; rw [h.attempt]

theorem WaitsAt.trans {u : State} (h₁ : WaitsAt n s t) (h₂ : WaitsAt n t u) : WaitsAt n s u where
  attempt := h₂.attempt.trans h₁.attempt
  failure h := h₂.failure (h₁.failure h)
  entry w hw hd := by
    obtain ⟨w', hw', hrenews⟩ := h₁.entry w hw hd
    obtain ⟨w'', hw'', hrenews'⟩ := h₂.entry w' hw' (hrenews.isDemand hd)
    rw [h₁.headSending] at hrenews'
    exact ⟨w'', hw'', hrenews.trans hrenews'⟩

/-- Entries that change in their places. -/
theorem mapEntries_waitsAt {g : Bool → TxEntry → TxEntry} (hg : ∀ b (w : TxEntry), w.frame.isDemand = true → w.Renews b (g b w)) :
    WaitsAt n s (s.withList (mapEntries s.headSending g s.link.list)) where
  attempt := rfl
  failure h := h
  entry w hw hd := by
    refine ⟨_, ?_, hg (n == 0 && s.headSending) w hd⟩
    change (mapEntries s.headSending g s.link.list)[n]? = _
    rw [mapEntries_mapIdx, List.getElem?_mapIdx, hw, Option.map_some]

end

theorem joinList_waitsAt (n : Nat) (f : Frame) (s : State) : WaitsAt n s (joinList f s) where
  attempt := rfl
  failure h := by
    change (if s.link.failure = .stopped ∧ s.listening = false then s.timer 1000 else s.link.failure) = .expired
    rw [h]
    exact if_neg fun hstop => by cases hstop.1
  entry w hw _ := by
    obtain ⟨hlt, -⟩ := List.getElem?_eq_some_iff.1 hw
    exact ⟨w, (List.getElem?_append_left hlt).trans hw, .same rfl⟩

theorem refreshList_waitsAt (n : Nat) (s : State) : WaitsAt n s (refreshList s) :=
  mapEntries_waitsAt fun b w hd => by
    split
    · exact .same rfl
    · exact .renewed _ ((isDemand_figures s w.frame).trans hd) rfl

theorem isDemand_of_sameKind {f g : Frame} (h : sameKind f g = true) : f.isDemand = g.isDemand := by
  have code : ∀ f : Frame, f.isDemand = (kindCode f == kindCode (.demand ⟨.const 0, .const 0, 0⟩)) := fun f => by cases f <;> rfl
  rw [code, code, beq_iff_eq.1 h]

theorem queueSingle_waitsAt (n : Nat) (f : Frame) (s : State) : WaitsAt n s (queueSingle f s) := by
  unfold queueSingle
  split
  · refine mapEntries_waitsAt fun b w hd => ?_
    split
    · next h => exact .renewed f ((isDemand_of_sameKind h).symm.trans hd) rfl
    · exact .same rfl
  · exact joinList_waitsAt n f s

theorem queueStatus_waitsAt (n : Nat) (s : State) : WaitsAt n s (queueStatus s) := by
  unfold queueStatus
  split
  · exact .of_link rfl
  · exact queueSingle_waitsAt n _ s

theorem latch_waitsAt (n : Nat) (c : Condition) (s : State) : WaitsAt n s (latch c s) := by
  have latched : WaitsAt n s { s with cond := { s.cond with latched := withFlag s.cond.latched c } } := .of_link rfl
  unfold latch
  split
  · exact .of_link rfl
  · exact latched.trans (queueStatus_waitsAt n _)

theorem recheck_waitsAt (n : Nat) (c : Condition) (s : State) : WaitsAt n s (recheck c s) := by
  have flagged : ∀ flags, WaitsAt n s { s with cond := { s.cond with current := flags } } := fun _ => .of_link rfl
  unfold recheck
  split
  · unfold raiseCondition
    split
    · exact .of_link rfl
    · exact ((flagged _).trans (refreshList_waitsAt n _)).trans (latch_waitsAt n c _)
  · exact (flagged _).trans (refreshList_waitsAt n _)

theorem demandDue_waitsAt (n : Nat) (s : State) : WaitsAt n s (demandDue s) := by
  unfold demandDue
  split
  · exact .of_link rfl
  · split
    · exact .of_link rfl
    · split
      · exact ⟨rfl, id, fun w hw _ => ⟨w, hw, .same rfl⟩⟩
      · exact joinList_waitsAt n _ s

theorem modOwn_waitsAt (n : Nat) (g : Entry → Entry) (s : State) : WaitsAt n s (modOwn g s) := by
  have changed : WaitsAt n s (s.modEntry s.straps.station g) := .of_link rfl
  exact changed.trans (refreshList_waitsAt n _)

theorem moves_waitsAt (n : Nat) : Moves (WaitsAt n) where
  refl _ := .of_link rfl
  trans := .trans
  alloc _ _ := .of_link rfl
  claims _ s := modOwn_waitsAt n _ s
  intents _ s := modOwn_waitsAt n _ s
  cut c s := .of_link (cut_only c s).link_eq
  due := demandDue_waitsAt n
  recheck := recheck_waitsAt n
  fans _ _ := .of_link rfl
  takeOff l s := .of_link (takeOff_only l s).link_eq
  owe _ := .of_link rfl

theorem noteDraw_waitsAt (n : Nat) (s : State) : WaitsAt n s (noteDraw s) := by
  have written : WaitsAt n s (writeDraw s) := .of_link rfl
  exact written.trans (refreshList_waitsAt n _)

theorem finish_waitsAt (n : Nat) (s : State) : WaitsAt n s (finish s) :=
  finish_keeps_relation .trans (fun _ => .of_link rfl) (noteDraw_waitsAt n) (fun _ _ hlink => .of_link hlink)
    (fun _ => .of_link rfl) s

/-- A DEMAND entry carries, when a step has closed, the figures as they stand (R120). -/
theorem finish_demandFrame {n : Nat} {s : State} {w : TxEntry} (h : (finish s).link.list[n]? = some w)
    (hd : w.frame.isDemand = true) : w.frame = (finish s).demandFrame := by
  have hlist := (finish_closes s).list
  rw [hlist, List.getElem?_mapIdx] at h
  obtain ⟨w₀, -, hw⟩ := Option.map_eq_some_iff.1 h
  have hframe : w.frame = (finish s).figures w₀.frame := by
    rw [← hw]
    split
    · next hsame => exact hsame.symm
    · rfl
  rw [hframe, isDemand_figures] at hd
  rw [hframe]
  cases hf : w₀.frame with
  | demand b => rfl
  | _ => rw [hf] at hd; cases hd

end Sys2Proof.Machine
end

section
/-! The node leaves the sharing: a frame under its own number (R88, R118), and a transmit failure (R87, R125). -/

namespace Sys2Proof.Machine

/-- A step of the sharing state that switches nothing on. -/
theorem finish_handOnly {s u : State} (h : HandOnly s u) (hidle : u.NothingWaits) : ∃ st q a v l c f o, finish u =
    { s with stages := st, queue := q, attemptDue := false, alloc := a, view := v, link := l, cond := c, fans := f
             outputs := o } := by
  obtain ⟨v, l, o, hfinish⟩ := finish_frame_of_nothingWaits hidle
  obtain ⟨st, q, _, a, _, _, c, f, rfl⟩ := h
  exact ⟨st, q, a, v, l, c, f, o, hfinish⟩

/-! ### A frame under the own number -/

/-- A frame under the own number, of any kind, goes no further than R118. -/
theorem exec_ownFrame {s : State} {c : Instr} {f : Frame} (hs : s.phase = .running)
    (h : frameOf c = some (s.straps.station, f)) : exec c s = .next (finish (duplicate s)) := by
  have received : ∀ (source : Station) (g : Frame) (further : State → State), source = s.straps.station →
      whileRunning (receive source g further) s = .next (finish (duplicate s)) := fun source g further hsource => by
    rw [whileRunning_running _ s hs, receive, if_pos hsource]
  have power : ∀ (source : Station) (b : PowerBody), source = s.straps.station →
      whileRunning (receivePower source b) s = .next (finish (duplicate s)) := fun source b hsource => by
    rw [whileRunning_running _ s hs, receivePower, if_pos hsource]
  cases c <;> simp only [frameOf, Option.some.injEq, Prod.mk.injEq, reduceCtorEq] at h
  case powerFrame source b => exact power source b h.1
  all_goals exact received _ _ _ h.1

/-- Re-forming the claims moves the intents, the allocation and what a raise starts, and no other figure. -/
theorem reformClaims_alloc (s : State) : ∃ x u n p o, (reformClaims s).alloc =
    { s.alloc with allocation := x, usable := u, announced := n, raisePending := p, holdOff := o } := by
  have formed : ∃ x u n p o, (recompute (demandDue (modOwn (fun e => { e with claims := s.claimsNow }) s))).alloc =
      { s.alloc with allocation := x, usable := u, announced := n, raisePending := p, holdOff := o } := by
    obtain ⟨_, _, _, h⟩ := recompute_alloc (demandDue (modOwn (fun e => { e with claims := s.claimsNow }) s))
    rw [h, (demandDue_only _).alloc_eq]
    exact ⟨_, _, _, _, _, rfl⟩
  unfold reformClaims
  dsimp only
  split
  · exact ⟨_, _, _, _, _, rfl⟩
  · split
    · exact formed
    · rw [(recheck_only _ _).alloc_eq]; exact formed

theorem enterIsolated_alloc (s : State) : (enterIsolated s).alloc.sharing = .isolated
    ∧ (enterIsolated s).alloc.gap = .stopped ∧ (enterIsolated s).alloc.usable = .const 0 := by
  obtain ⟨_, _, _, _, _, hclaims⟩ := reformClaims_alloc (enterSharing .isolated (stopGap s))
  have halloc := shed_alloc (reformClaims (enterSharing .isolated (stopGap s)))
  rw [hclaims, enterSharing_alloc] at halloc
  unfold enterIsolated
  rw [halloc]
  exact ⟨rfl, rfl, rfl⟩

/-- In ISOLATED the node claims nothing (R88). -/
theorem enterIsolated_claims (s : State) : (enterIsolated s).ownEntry.claims = .const 0 := by
  have hclaimed := (reformClaims_keeps (enterSharing .isolated (stopGap s))).2
  have hnow : (reformClaims (enterSharing .isolated (stopGap s))).claimsNow = .const 0 := by
    rw [State.claimsNow, if_pos ((reformClaims_sharing _).trans (enterSharing_sharing _ _))]
  unfold enterIsolated
  rw [(shed_plain _).claims]
  exact hclaimed.trans hnow

theorem enterIsolated_flag (s : State) : flagSet (enterIsolated s).cond.current .duplicateStation = true := by
  unfold enterIsolated
  rw [(shed_plain _).current, reformClaims_current (by decide)]
  exact (enterSharing_current .isolated (stopGap s)).2.2

/-- Settles O32: ISOLATED is entered once, its claims are 0 before the shed, and the shed leaves nothing on. -/
theorem duplicateStationIsolates : Obligations.DuplicateStationIsolates := by
  intro s c f hready hframe
  refine ⟨fun hisolated => ?_, fun hne => ?_⟩
  · have hdup : duplicate s = s := if_pos hisolated
    exact ⟨_, exec_ownFrame hready.running hframe, by rw [hdup]; exact finish_closes_none s hready.settled⟩
  · have hdup : duplicate s = enterIsolated s := if_neg hne
    obtain ⟨hsharing, hgap, husable⟩ := enterIsolated_alloc s
    have hidle : (enterIsolated s).NothingWaits := nothingWaits_of_sharing (by rw [hsharing]; exact fun h => by cases h)
    refine ⟨_, exec_ownFrame hready.running hframe, ?_⟩
    rw [hdup, finish_alloc, finish_cond, (finish_plain _).claims, finish_stages_of_nothingWaits hidle]
    refine ⟨hsharing, hgap, husable, enterIsolated_claims s, (shed_kept _).2.mem, enterIsolated_flag s, ?_⟩
    obtain ⟨_, _, _, _, _, _, _, _, hfinish⟩ := finish_handOnly (enterIsolated_only s) hidle
    rw [hfinish, ← hready.settled]

/-! ### The transmit failure -/

theorem enterMuted_alloc (s : State) : (enterMuted s).alloc =
    { s.alloc with
      sharing := .muted, gap := .stopped, usable := .const 0, announced := s.alloc.allocation
      raisePending := s.alloc.allocation != .const 0, holdOff := .stopped } := shed_entered_alloc .muted s

theorem enterMuted_flags (s : State) : flagSet (enterMuted s).cond.current .txFailed = true
    ∧ flagSet (enterMuted s).cond.current .powerSilent = false := by
  obtain ⟨hsilent, htx, -⟩ := enterSharing_current .muted (stopGap s)
  unfold enterMuted
  rw [(shed_plain _).current]
  exact ⟨htx, hsilent⟩

theorem natByte_eq_zero {n : Nat} (h : natByte n = natByte 0) : n = 0 := by
  have hnat := congrArg BitVec.toNat h
  simp only [natByte, capNat, BitVec.toNat_ofNat] at hnat
  split_ifs at hnat <;> omega

theorem map_natByte_ne {p : PerClass Nat} (h : p ≠ .const 0) : p.map natByte ≠ (PerClass.const 0).map natByte := fun he => by
  obtain ⟨a, b, c, d⟩ := p
  simp only [PerClass.map, PerClass.const, PerClass.mk.injEq] at he h
  obtain ⟨ha, hb, hc, hd⟩ := he
  exact h (by rw [natByte_eq_zero ha, natByte_eq_zero hb, natByte_eq_zero hc, natByte_eq_zero hd])

/-- Setting the announced intents to 0 renews a DEMAND entry that carried others (R89, R120). -/
theorem setAnnounced_renews {n : Nat} {s : State} {w : TxEntry} {b : DemandBody} (hw : s.link.list[n]? = some w)
    (hframe : w.frame = .demand b) (hne : b.intents ≠ (PerClass.const 0).map natByte) :
    ∃ f, f.isDemand = true ∧ (setAnnounced (.const 0) s).link.list[n]? = some (w.replace (n == 0 && s.headSending) f) := by
  have hintents : ∀ u : State, u.ownEntry.intents = .const 0 → u.figures w.frame ≠ w.frame := fun u hu he => by
    rw [hframe] at he
    cases he
    exact hne (by rw [hu])
  have hown := setAnnounced_ownEntry (.const 0) s
  have hset : ∀ u : State, u.link = s.link → u.headSending = s.headSending → u.ownEntry.intents = .const 0 →
      (refreshList u).link.list[n]? = some (w.replace (n == 0 && s.headSending) (u.figures w.frame)) := fun u hl hsend hu => by
    change (mapEntries u.headSending _ u.link.list)[n]? = _
    rw [mapEntries_mapIdx, List.getElem?_mapIdx, hl, hw, Option.map_some, if_neg (hintents u hu), hsend]
  refine ⟨_, ?_, hset (({ s with alloc := { s.alloc with announced := .const 0 } } : State).modEntry s.straps.station
    fun e => { e with intents := .const 0 }) rfl rfl ?_⟩
  · rw [isDemand_figures, hframe]; rfl
  · exact congrArg Entry.intents hown

/-- A shed of announced intents renews a DEMAND entry that carried them. -/
theorem shed_renews {n : Nat} {s : State} {w : TxEntry} {b : DemandBody} (hw : s.link.list[n]? = some w)
    (hframe : w.frame = .demand b) (hne : b.intents ≠ (PerClass.const 0).map natByte) (hannounced : s.alloc.announced ≠ .const 0) :
    ∃ f, f.isDemand = true ∧ (shed s).link.list[n]? = some (w.replace (n == 0 && s.headSending) f) := by
  have hstages := shedStages_only s
  have hzeroed : zeroed (shedStages s) = demandDue (setAnnounced (.const 0) (setUsable (.const 0) (shedStages s))) :=
    if_neg (by rw [setUsable_alloc, hstages.alloc_eq]; exact hannounced)
  obtain ⟨f, hf, hset⟩ := setAnnounced_renews (s := setUsable (.const 0) (shedStages s)) (w := w) (n := n)
    (by rw [setUsable_link, hstages.link_eq]; exact hw) hframe hne
  have hsend : (setUsable (.const 0) (shedStages s)).headSending = s.headSending := by
    unfold State.headSending; rw [setUsable_link, hstages.link_eq]
  have hbefore : WaitsAt n (setUsable (.const 0) (shedStages s)) (setAnnounced (.const 0) (setUsable (.const 0) (shedStages s))) :=
    (moves_waitsAt n).setAnnounced _ _
  have hafter := (demandDue_waitsAt n (setAnnounced (.const 0) (setUsable (.const 0) (shedStages s)))).trans
    ((moves_waitsAt n).raised _)
  obtain ⟨w', hw', hrenews⟩ := hafter.entry _ hset hf
  rw [hbefore.headSending, hsend] at hrenews
  obtain ⟨g, hg, hreplaced⟩ := replace_renews hf hrenews
  rw [shed_eq, hzeroed]
  exact ⟨g, hg, by rw [hw', hreplaced]⟩

/-- MUTED entered: a DEMAND entry that carried announced intents is renewed in its place (R89, R120). -/
theorem enterMuted_renews {n : Nat} {s : State} {w : TxEntry} (hw : s.link.list[n]? = some w) (hframe : w.frame = s.demandFrame)
    (hintents : s.ownEntry.intents = s.alloc.announced) (hannounced : s.alloc.announced ≠ .const 0) :
    ∃ f, f.isDemand = true ∧ (enterMuted s).link.list[n]? = some (w.replace (n == 0 && s.headSending) f) := by
  have hd : w.frame.isDemand = true := by rw [hframe]; rfl
  have hentered : WaitsAt n s (enterSharing .muted (stopGap s)) :=
    ((moves_waitsAt n).alloc s { s.alloc with gap := .stopped }).trans ((moves_waitsAt n).enterSharing .muted _)
  obtain ⟨w₀, hw₀, hrenews₀⟩ := hentered.entry w hw hd
  unfold enterMuted
  rw [← hentered.headSending] at hrenews₀ ⊢
  rcases hrenews₀ with rfl | ⟨f, hf, rfl⟩
  · refine shed_renews hw₀ hframe ?_ ?_
    · change s.ownEntry.intents.map natByte ≠ _
      rw [hintents]
      exact map_natByte_ne hannounced
    · rw [enterSharing_alloc]
      exact hannounced
  · obtain ⟨w', hw', hrenews⟩ := ((moves_waitsAt n).shed (enterSharing .muted (stopGap s))).entry _ hw₀ hf
    obtain ⟨g, hg, hreplaced⟩ := replace_renews hf hrenews
    exact ⟨g, hg, by rw [hw', hreplaced]⟩

/-- A step that entered MUTED leaves the renewed entry with the figures as they stand. -/
theorem finish_enterMuted_renews {n : Nat} {s : State} {w : TxEntry} (hw : s.link.list[n]? = some w)
    (hframe : w.frame = s.demandFrame) (hintents : s.ownEntry.intents = s.alloc.announced)
    (hannounced : s.alloc.announced ≠ .const 0) : (finish (enterMuted s)).link.list[n]? =
      some (w.replace (n == 0 && s.headSending) (finish (enterMuted s)).demandFrame) := by
  have hentered : WaitsAt n s (enterMuted s) := (moves_waitsAt n).enterMuted s
  obtain ⟨f, hf, hmuted⟩ := enterMuted_renews hw hframe hintents hannounced
  obtain ⟨w', hw', hrenews⟩ := (finish_waitsAt n (enterMuted s)).entry _ hmuted hf
  rw [hentered.headSending] at hrenews
  obtain ⟨g, hg, rfl⟩ := replace_renews hf hrenews
  have hfigures : g = (finish (enterMuted s)).demandFrame := finish_demandFrame hw' hg
  rw [hw', ← hfigures]

theorem transmitFailure_out {s : State} (h : s.alloc.sharing = .muted ∨ s.alloc.sharing = .isolated) : transmitFailure s = s := by
  unfold transmitFailure
  rcases h with h | h <;> rw [h]

theorem transmitFailure_mutes {s : State} (hm : s.alloc.sharing ≠ .muted) (hi : s.alloc.sharing ≠ .isolated) :
    transmitFailure s = enterMuted s := by
  unfold transmitFailure
  cases h : s.alloc.sharing with
  | muted => exact absurd h hm
  | isolated => exact absurd h hi
  | _ => rfl

/-- Settles O31: MUTED is entered and shed; setting the announced intents to 0 renews a waiting DEMAND entry, and what follows
keeps its place. -/
theorem transmitFailureMutes : Obligations.TransmitFailureMutes := by
  intro s e hready htimer s1
  obtain ⟨now, hnow⟩ := advanceTo_eq e s
  have hs1 : s1 = { s with clock := now } := hnow
  have hexec : exec .txFailureExpiry s = .next (finish (failureExpiry s1)) := by
    rw [← atExpiry_running e failureExpiry s hready.running, ← htimer]
    rfl
  refine ⟨fun hout => ⟨_, hexec, ?_⟩, fun hm hi => ⟨_, hexec, ?_⟩⟩
  · have heffect : failureExpiry s1 = { s1 with link := { s1.link with failure := .expired } } :=
      transmitFailure_out (s := s1.modLink fun l => { l with failure := .expired }) (by rw [hs1]; exact hout)
    rw [heffect]
    exact finish_closes_none _ (by rw [hs1]; exact hready.settled)
  · obtain ⟨u, hu⟩ : ∃ u : State, u = { s with clock := now, link := { s.link with failure := .expired } } := ⟨_, rfl⟩
    have heffect : failureExpiry s1 = enterMuted u := by
      have hfailed : s1.modLink (fun l => { l with failure := .expired }) = u := by rw [hs1, hu]; rfl
      unfold failureExpiry
      rw [hfailed]
      exact transmitFailure_mutes (by rw [hu]; exact hm) (by rw [hu]; exact hi)
    have halloc : (enterMuted u).alloc = { s.alloc with
        sharing := .muted, gap := .stopped, usable := .const 0, announced := s.alloc.allocation
        raisePending := s.alloc.allocation != .const 0, holdOff := .stopped } := by rw [enterMuted_alloc, hu]
    have hidle : (enterMuted u).NothingWaits := nothingWaits_of_sharing (by rw [halloc]; exact fun h => by cases h)
    obtain ⟨htx, hsilent⟩ := enterMuted_flags u
    rw [heffect, finish_alloc, finish_cond, finish_stages_of_nothingWaits hidle]
    refine ⟨?_, (shed_kept _).2.mem, htx, hsilent, halloc, fun hown hannounced n w hw hframe => ?_, ?_⟩
    · exact (((moves_waitsAt 0).enterMuted u).trans (finish_waitsAt 0 _)).failure (by rw [hu])
    · obtain ⟨-, -, hintents⟩ := hown hready.running
      have hrenewed := finish_enterMuted_renews (s := u) (n := n) (w := w) (by rw [hu]; exact hw) (by rw [hu]; exact hframe)
        (by rw [hu]; exact hintents) (by rw [hu]; exact hannounced)
      have hsend : u.headSending = s.headSending := by rw [hu]; rfl
      rw [hrenewed, hsend]
      rfl
    · obtain ⟨_, _, _, _, _, _, _, _, hfinish⟩ := finish_handOnly (enterMuted_only u) hidle
      rw [hfinish, hu, ← hready.settled]

end Sys2Proof.Machine
end

section
/-! A confirmed attempt (R76, R80, R87, R112). -/

namespace Sys2Proof.Machine

/-- The link's record after a confirmation that leaves `list`, with a DEMAND entry confirmed or not (R112, R124, R125). -/
def State.linkConfirmed (s : State) (list : List TxEntry) (demandLeaves : Bool) : Link :=
  { s.link with
    attempt := none, list := list
    spacing := if demandLeaves then .running (timeAfter s.clock 50) else s.link.spacing
    failure := if list = [] then .stopped else .running (timeAfter s.clock 1000) }

theorem confirmHead_restarted {s : State} {w : TxEntry} {rest : List TxEntry} (h : s.link.list = w :: rest) :
    restartFailure (confirmHead (s.modLink fun l => { l with attempt := none })) =
      { s with link := s.linkConfirmed (if w.replaced then { w with failed := 0, replaced := false } :: rest else rest)
                  w.frame.isDemand } := by
  have hlist : (s.modLink fun l => { l with attempt := none }).link.list = w :: rest := h
  unfold confirmHead
  rw [hlist]
  cases hd : w.frame.isDemand <;> (simp only [startSpacing, hd, if_true]; rfl)

/-- The allocator's record after its part of a confirmation, before the sharing state is looked at (R76). -/
def Alloc.confirmed (now : Time) (f : Frame) (a : Alloc) : Alloc :=
  let covers : Bool := match f with
    | .demand b => Cls.all.all (fun c => decide (a.announced.get c ≤ (b.intents.get c).toNat))
    | _ => false
  { a with
    demandConfirmed := a.demandConfirmed || f.isDemand
    raisePending := if a.raisePending && covers then false else a.raisePending
    holdOff := if a.raisePending && covers then .running (timeAfter now 400) else a.holdOff }

/-- The records after the link's part and the allocator's part of a confirmed attempt. -/
def State.attemptTaken (s : State) (a : Attempt) (list : List TxEntry) (demandLeaves : Bool) : State :=
  { s with link := s.linkConfirmed list demandLeaves, alloc := s.alloc.confirmed s.clock a.carried }

theorem confirmation_eq (f : Frame) (s : State) : confirmation f s =
    joinExit (mutedExit { s with alloc := s.alloc.confirmed s.clock f }) := by
  cases f with
  | demand b =>
    have htaken : demandConfirmation b.intents s = { s with alloc := s.alloc.confirmed s.clock (.demand b) } := by
      unfold demandConfirmation Alloc.confirmed State.modAlloc
      dsimp only [Frame.isDemand]
      rw [Bool.or_true]
      split <;> rfl
    exact congrArg (fun u => joinExit (mutedExit u)) htaken
  | _ =>
    have hsame : ∀ a : Alloc, a = { a with
        demandConfirmed := a.demandConfirmed || false
        raisePending := if a.raisePending && false then false else a.raisePending
        holdOff := if a.raisePending && false then .running (timeAfter s.clock 400) else a.holdOff } := fun a => by simp
    exact congrArg (fun a => joinExit (mutedExit { s with alloc := a })) (hsame s.alloc)

/-- Where the node is neither MUTED nor JOINING a confirmation moves no sharing state. -/
theorem exits_none {s : State} (hm : s.alloc.sharing ≠ .muted) (hj : s.alloc.sharing ≠ .joining) : joinExit (mutedExit s) = s := by
  have hmuted : mutedExit s = s := if_neg hm
  rw [hmuted]
  exact if_neg fun h => hj h.1

theorem isExpired_iff {t : Timer} : t.isExpired = true ↔ t = .expired := by cases t <;> simp [Timer.isExpired]

/-- The end of MUTED or of JOINING, once power is heard and demand confirmed (R80, R87). -/
def joined (s : State) : State := if s.alloc.silence = .expired then enterSilent s else enterSharing .active s

theorem joined_sharing (s : State) : (joined s).alloc.sharing = if s.alloc.silence = .expired then .silent else .active := by
  unfold joined enterSilent
  split
  · rw [shed_entered_alloc]
  · rw [enterSharing_alloc]

theorem joined_alloc (s : State) : (joined s).alloc.demandConfirmed = s.alloc.demandConfirmed := by
  unfold joined enterSilent
  split
  · rw [shed_entered_alloc]
  · rw [enterSharing_alloc]

theorem joinExit_of_ready {s : State} (hj : s.alloc.sharing = .joining)
    (h : (s.alloc.powerHeard && s.alloc.demandConfirmed) = true) : joinExit s = joined s := by
  obtain ⟨hpower, hdemand⟩ := Bool.and_eq_true_iff.1 h
  unfold joinExit joined
  simp only [hj, hpower, hdemand, and_self, if_true, isExpired_iff]

theorem joinExit_of_waiting {s : State} (h : (s.alloc.powerHeard && s.alloc.demandConfirmed) = false) : joinExit s = s :=
  if_neg fun ⟨_, hpower, hdemand⟩ => by rw [hpower, hdemand] at h; cases h

theorem mutedExit_of_ready {s : State} (hm : s.alloc.sharing = .muted)
    (h : (s.alloc.powerHeard && s.alloc.demandConfirmed) = true) : mutedExit s = joined s := by
  unfold mutedExit joined
  simp only [hm, h, if_true, isExpired_iff]

theorem mutedExit_of_waiting {s : State} (hm : s.alloc.sharing = .muted)
    (h : (s.alloc.powerHeard && s.alloc.demandConfirmed) = false) : mutedExit s = enterSharing .joining s := by
  unfold mutedExit
  simp only [hm, h, if_true, Bool.false_eq_true, if_false]

/-- What a confirmation makes of MUTED and of JOINING. -/
theorem exits_alloc {s : State} (hs : s.alloc.sharing = .muted ∨ s.alloc.sharing = .joining) :
    (joinExit (mutedExit s)).alloc.demandConfirmed = s.alloc.demandConfirmed
    ∧ (joinExit (mutedExit s)).alloc.sharing = if s.alloc.powerHeard && s.alloc.demandConfirmed then
        (if s.alloc.silence = .expired then .silent else .active) else .joining := by
  cases hready : s.alloc.powerHeard && s.alloc.demandConfirmed with
  | true =>
    have hexits : joinExit (mutedExit s) = joined s := by
      rcases hs with hm | hj
      · have hout : (joined s).alloc.sharing ≠ .joining := by rw [joined_sharing]; split <;> decide
        rw [mutedExit_of_ready hm hready]
        exact if_neg fun h => hout h.1
      · have hmuted : mutedExit s = s := if_neg (by rw [hj]; decide)
        rw [hmuted]
        exact joinExit_of_ready hj hready
    rw [hexits]
    exact ⟨joined_alloc s, joined_sharing s⟩
  | false =>
    rcases hs with hm | hj
    · have halloc : (mutedExit s).alloc = { s.alloc with sharing := .joining } := by
        rw [mutedExit_of_waiting hm hready, enterSharing_alloc]
      have hstays : joinExit (mutedExit s) = mutedExit s := joinExit_of_waiting (by rw [halloc]; exact hready)
      rw [hstays, halloc]
      exact ⟨rfl, rfl⟩
    · have hmuted : mutedExit s = s := if_neg (by rw [hj]; decide)
      rw [hmuted, joinExit_of_waiting hready]
      exact ⟨rfl, hj⟩

/-- Settles O38: the link's part and the allocator's part of a confirmation, then the exits of MUTED and JOINING. -/
theorem confirmationIsTaken : Obligations.ConfirmationIsTaken := by
  intro s a list demandLeaves hready hattempt hwithdrawn hheld isDemand covers confirmed starts
  have hlink : restartFailure (if a.withdrawn then s.modLink fun l => { l with attempt := none }
      else confirmHead (s.modLink fun l => { l with attempt := none })) =
      { s with link := s.linkConfirmed list demandLeaves } := by
    cases hw : a.withdrawn with
    | true =>
      obtain ⟨rfl, rfl⟩ := hwithdrawn hw
      rfl
    | false =>
      obtain ⟨w, rest, hlist, rfl, rfl⟩ := hheld hw
      exact confirmHead_restarted hlist
  have heffect : attemptConfirmed s = joinExit (mutedExit (s.attemptTaken a list demandLeaves)) := by
    unfold attemptConfirmed
    rw [hattempt]
    dsimp only
    rw [hlink, confirmation_eq]
    rfl
  have hexec : exec .frameConfirmed s = .next (finish (attemptConfirmed s)) := whileRunning_running _ s hready.running
  refine ⟨fun hm hj => ⟨_, hexec, ?_⟩, fun hmoves => ⟨_, hexec, ?_⟩⟩
  · rw [heffect, exits_none (s := s.attemptTaken a list demandLeaves) hm hj]
    exact finish_closes_none _ hready.settled
  · obtain ⟨hconfirmed, hsharing⟩ := exits_alloc (s := s.attemptTaken a list demandLeaves) hmoves
    rw [finish_alloc]
    refine ⟨?_, ?_, ?_, ?_⟩
    · rw [heffect, hconfirmed]
      rfl
    · have hexits : ListGrows (s.attemptTaken a list demandLeaves) (joinExit (mutedExit (s.attemptTaken a list demandLeaves))) :=
        (moves_grows.mutedExit _).trans (moves_grows.joinExit _)
      rw [heffect]
      exact (hexits.trans (finish_grows _)).attempt
    · rw [heffect, hsharing]
      rfl
    · have honly : HandOnly { s with link := s.linkConfirmed list demandLeaves } (attemptConfirmed s) := by
        have hconfirmation := confirmation_only a.carried { s with link := s.linkConfirmed list demandLeaves }
        rw [confirmation_eq] at hconfirmation
        rw [heffect]
        exact hconfirmation
      obtain ⟨_, _, _, _, _, _, _, hfinish⟩ := finish_frame (attemptConfirmed s)
      obtain ⟨_, _, _, _, _, _, _, _, hhand⟩ := honly
      rw [hfinish, hhand, ← hready.settled]

end Sys2Proof.Machine
end

section
/-! A POWER frame of the power station (R68, R80 to R88, R157). -/

namespace Sys2Proof.Machine

/-! ### The zone fans at the end of JOINING -/

/-- Every zone fan takes the level that its demand level gives (R157). -/
theorem rechooseZoneFans_fan? (z : Fin 4) (s : State) : (rechooseZoneFans s).fan? (.zone z) =
    (s.fan? (.zone z)).map fun b => b.commanded s.clock (s.zoneFanLevel b.demandLevel) := by
  have own : ∀ u, FanOnly s u → (rechooseZoneFan z u).fan? (.zone z) =
      (u.fan? (.zone z)).map fun b => b.commanded s.clock (s.zoneFanLevel b.demandLevel) := fun u hu => by
    have hlevel : ∀ n, u.zoneFanLevel n = s.zoneFanLevel n := fun n => by
      unfold State.zoneFanLevel; rw [hu.alloc_eq, hu.inUse_eq]
    rw [rechooseZoneFan_fan?, if_pos rfl, hu.clock_eq]
    simp only [hlevel]
  have other : ∀ y u, z ≠ y → (rechooseZoneFan y u).fan? (.zone z) = u.fan? (.zone z) := fun y u hne => by
    rw [rechooseZoneFan_fan?, if_neg fun he => hne (FanId.zone.inj he)]
  have h₁ := rechooseZoneFan_only 0 s
  have h₂ := h₁.trans (rechooseZoneFan_only 1 _)
  have h₃ := h₂.trans (rechooseZoneFan_only 2 _)
  unfold rechooseZoneFans
  have hz : z = 0 ∨ z = 1 ∨ z = 2 ∨ z = 3 := by fin_cases z <;> decide
  rcases hz with rfl | rfl | rfl | rfl
  · rw [other 3 _ (by decide), other 2 _ (by decide), other 1 _ (by decide), own s (.refl s)]
  · rw [other 3 _ (by decide), other 2 _ (by decide), own _ h₁, other 0 _ (by decide)]
  · rw [other 3 _ (by decide), own _ h₂, other 1 _ (by decide), other 0 _ (by decide)]
  · rw [own _ h₃, other 2 _ (by decide), other 1 _ (by decide), other 0 _ (by decide)]

/-- At the end of JOINING a zone fan turns as its demand says, in VENT_ONLY at level 2 (R157). -/
theorem enterActive_fanLevel {s : State} (h : s.alloc.sharing = .joining) {z : Fin 4} {b : Blower}
    (hb : s.fan? (.zone z) = some b) : ∃ b', (enterSharing .active s).fan? (.zone z) = some b'
      ∧ b'.level = if s.inUse.flags.ventOnly then 2 else b.demandLevel := by
  have howed := sharingOwed_only .active s
  have hlevel : ∀ n, (sharingOwed .active s).zoneFanLevel n = if s.inUse.flags.ventOnly then 2 else n := fun n => by
    rw [State.zoneFanLevel, sharingOwed_alloc, howed.inUse_eq]
    exact if_neg fun hj => by cases hj
  have hentered : enterSharing .active s = rechooseZoneFans (sharingOwed .active s) := by
    rw [enterSharing_eq]
    exact if_pos fun he => absurd (he.mp h) (by decide)
  rw [hentered, rechooseZoneFans_fan?, fan?_congr howed.fans_eq, hb]
  exact ⟨_, rfl, by rw [Blower.commanded_level, hlevel]⟩

/-! ### The sharing state -/

/-- A shed where a test calls for it. -/
def shedIf (p : Prop) [Decidable p] (s : State) : State := if p then shed s else s

theorem shedIf_alloc (p : Prop) [Decidable p] (s : State) : ∃ u n r o, (shedIf p s).alloc =
    { s.alloc with usable := u, announced := n, raisePending := r, holdOff := o } := by
  unfold shedIf
  split
  · exact ⟨_, _, _, _, shed_alloc s⟩
  · exact ⟨_, _, _, _, rfl⟩

theorem shedIf_only (p : Prop) [Decidable p] (s : State) : ShareOnly s (shedIf p s) := by
  unfold shedIf
  split
  · exact shed_only s
  · exact .refl s

/-- Nothing heats and no intent is usable: what a shed leaves (R89). -/
def State.Shed (s : State) : Prop := s.alloc.usable = .const 0 ∧ s.Cold

theorem shed_shed (s : State) : (shed s).Shed := ⟨by rw [shed_alloc], (shed_kept s).2⟩

theorem shedIf_shed {p : Prop} [Decidable p] (h : p) (s : State) : (shedIf p s).Shed := by
  unfold shedIf
  rw [if_pos h]
  exact shed_shed s

theorem State.Shed.enterSharing {s : State} (h : s.Shed) (new : Sharing) : (enterSharing new s).Shed := by
  obtain ⟨husable, hcold⟩ := h
  exact ⟨by rw [enterSharing_alloc]; exact husable, hcold.cools (enterSharing_stages new s).cools⟩

/-- The sharing state after a POWER frame with this line state (R80 to R88). -/
def sharingAfter (before line : Line) (a : Alloc) : Sharing :=
  match a.sharing with
  | .isolated => .isolated
  | .muted => .muted
  | .silent => .active
  | .joining => if a.demandConfirmed then .active else .joining
  | .gapHold => if line = .gap then .gapHold else .active
  | .active => if line = .gap ∧ (before = .live ∨ before = .dead) then .gapHold else .active

/-- What a POWER frame moves of the allocator's record besides its own figures. -/
structure PowerMoves (before line : Line) (s t : State) : Prop where
  sharing : t.alloc.sharing = sharingAfter before line s.alloc
  stands : t.alloc.silence = s.alloc.silence ∧ t.alloc.powerHeard = s.alloc.powerHeard ∧ t.alloc.budget = s.alloc.budget
  dead : line = .dead → before ≠ .dead → s.alloc.sharing ≠ .isolated → t.Shed
  hold : s.alloc.sharing = .active → line = .gap → before = .live ∨ before = .dead → t.alloc.gap = s.timer 3000
  fans : s.alloc.sharing = .joining → s.alloc.demandConfirmed = true → ∀ z b, s.fan? (.zone z) = some b →
    ∃ b', t.fan? (.zone z) = some b' ∧ b'.level = if s.inUse.flags.ventOnly then 2 else b.demandLevel

section
variable {before line : Line} {s : State}

theorem powerMoves_isolated (h : s.alloc.sharing = .isolated) : PowerMoves before line s (powerOnSharing before line s) := by
  have heq : powerOnSharing before line s = s := by unfold powerOnSharing; rw [h]
  rw [heq]
  refine ⟨?_, ?_, fun _ _ hi => absurd h hi, fun ha => ?_, fun hj => ?_⟩
  · simp only [sharingAfter, h]
  · exact ⟨rfl, rfl, rfl⟩
  · rw [h] at ha; cases ha
  · rw [h] at hj; cases hj

theorem powerMoves_muted (h : s.alloc.sharing = .muted) : PowerMoves before line s (powerOnSharing before line s) := by
  have heq : powerOnSharing before line s = shedIf (line = .dead ∧ before ≠ .dead) s := by unfold powerOnSharing; rw [h]; rfl
  obtain ⟨_, _, _, _, halloc⟩ := shedIf_alloc (line = .dead ∧ before ≠ .dead) s
  rw [heq]
  refine ⟨?_, ?_, fun hd hb _ => shedIf_shed ⟨hd, hb⟩ s, fun ha => ?_, fun hj => ?_⟩
  · rw [halloc]; simp only [sharingAfter, h]
  · rw [halloc]; exact ⟨rfl, rfl, rfl⟩
  · rw [h] at ha; cases ha
  · rw [h] at hj; cases hj

theorem powerMoves_silent (h : s.alloc.sharing = .silent) : PowerMoves before line s (powerOnSharing before line s) := by
  have heq : powerOnSharing before line s = enterSharing .active (shedIf (line = .dead ∧ before ≠ .dead) s) := by
    unfold powerOnSharing; rw [h]; rfl
  obtain ⟨_, _, _, _, halloc⟩ := shedIf_alloc (line = .dead ∧ before ≠ .dead) s
  rw [heq]
  refine ⟨?_, ?_, fun hd hb _ => (shedIf_shed ⟨hd, hb⟩ s).enterSharing .active, fun ha => ?_, fun hj => ?_⟩
  · rw [enterSharing_alloc]; simp only [sharingAfter, h]
  · rw [enterSharing_alloc, halloc]; exact ⟨rfl, rfl, rfl⟩
  · rw [h] at ha; cases ha
  · rw [h] at hj; cases hj

theorem powerMoves_joining (h : s.alloc.sharing = .joining) (hheard : s.alloc.powerHeard = true)
    (hsilence : s.alloc.silence ≠ .expired) : PowerMoves before line s (powerOnSharing before line s) := by
  have heq : powerOnSharing before line s = joinExit (shedIf (line = .dead ∧ before ≠ .dead) s) := by
    unfold powerOnSharing; rw [h]; rfl
  have hshed := fun hd hb => shedIf_shed (p := line = .dead ∧ before ≠ .dead) ⟨hd, hb⟩ s
  have honly := shedIf_only (line = .dead ∧ before ≠ .dead) s
  obtain ⟨_, _, _, _, halloc⟩ := shedIf_alloc (line = .dead ∧ before ≠ .dead) s
  rw [heq]
  generalize shedIf (line = .dead ∧ before ≠ .dead) s = v at *
  have hjoining : v.alloc.sharing = .joining := by rw [halloc]; exact h
  cases hconfirmed : s.alloc.demandConfirmed with
  | true =>
    have hexit : joinExit v = enterSharing .active v := by
      rw [joinExit_of_ready hjoining (by rw [halloc]; simp only [hheard, hconfirmed, Bool.and_self])]
      exact if_neg (by rw [halloc]; exact hsilence)
    rw [hexit]
    refine ⟨?_, ?_, fun hd hb _ => (hshed hd hb).enterSharing .active, fun ha => ?_, fun _ _ z b hb => ?_⟩
    · rw [enterSharing_alloc]; simp only [sharingAfter, h, hconfirmed, if_true]
    · rw [enterSharing_alloc, halloc]; exact ⟨rfl, rfl, rfl⟩
    · rw [h] at ha; cases ha
    · rw [← honly.inUse_eq]
      exact enterActive_fanLevel hjoining ((fan?_congr honly.fans_eq _).trans hb)
  | false =>
    have hexit : joinExit v = v := joinExit_of_waiting (by rw [halloc]; simp only [hconfirmed, Bool.and_false])
    rw [hexit]
    refine ⟨?_, ?_, fun hd hb _ => hshed hd hb, fun ha => ?_, fun _ hc => by rw [hconfirmed] at hc; cases hc⟩
    · rw [hjoining]; simp only [sharingAfter, h, hconfirmed, Bool.false_eq_true, if_false]
    · rw [halloc]; exact ⟨rfl, rfl, rfl⟩
    · rw [h] at ha; cases ha

theorem powerMoves_active (h : s.alloc.sharing = .active) : PowerMoves before line s (powerOnSharing before line s) := by
  have hnot : s.alloc.sharing ≠ .joining := by rw [h]; decide
  by_cases hhold : line = .gap ∧ (before = .live ∨ before = .dead)
  · have heq : powerOnSharing before line s = enterGapHold s := by
      unfold powerOnSharing; rw [h]; exact if_pos hhold
    have halloc : (enterGapHold s).alloc = { s.alloc with sharing := .gapHold, gap := s.timer 3000 } := by
      unfold enterGapHold
      rw [(suspendAll_only _).alloc_eq, State.modAlloc_alloc, enterSharing_alloc]
    rw [heq]
    refine ⟨?_, ?_, fun hd => ?_, fun _ _ _ => by rw [halloc], fun hj => absurd hj hnot⟩
    · rw [halloc]; simp only [sharingAfter, h, if_pos hhold]
    · rw [halloc]; exact ⟨rfl, rfl, rfl⟩
    · rw [hhold.1] at hd; cases hd
  · have heq : powerOnSharing before line s = shedIf (line = .dead ∧ before ≠ .dead) s := by
      unfold powerOnSharing; rw [h]; exact if_neg hhold
    obtain ⟨_, _, _, _, halloc⟩ := shedIf_alloc (line = .dead ∧ before ≠ .dead) s
    rw [heq]
    refine ⟨?_, ?_, fun hd hb _ => shedIf_shed ⟨hd, hb⟩ s, fun _ hg hb => absurd ⟨hg, hb⟩ hhold,
      fun hj => absurd hj hnot⟩
    · rw [halloc]; simp only [sharingAfter, h, if_neg hhold]
    · rw [halloc]; exact ⟨rfl, rfl, rfl⟩

theorem powerMoves_gapHold (h : s.alloc.sharing = .gapHold) (hline : line ≠ .none) :
    PowerMoves before line s (powerOnSharing before line s) := by
  have hnot : s.alloc.sharing ≠ .joining := by rw [h]; decide
  have hactive : s.alloc.sharing ≠ .active := by rw [h]; decide
  cases line with
  | none => exact absurd rfl hline
  | live =>
    have heq : powerOnSharing before .live s = enterSharing .active (stopGap s) := by unfold powerOnSharing; rw [h]
    rw [heq]
    refine ⟨?_, ?_, (fun hd => by cases hd), fun ha => absurd ha hactive, fun hj => absurd hj hnot⟩
    · rw [enterSharing_alloc]; simp only [sharingAfter, h, reduceCtorEq, if_false]
    · rw [enterSharing_alloc]; exact ⟨rfl, rfl, rfl⟩
  | dead =>
    have heq : powerOnSharing before .dead s = enterSharing .active (shed (stopGap s)) := by unfold powerOnSharing; rw [h]
    rw [heq]
    refine ⟨?_, ?_, fun _ _ _ => (shed_shed _).enterSharing .active, fun ha => absurd ha hactive,
      fun hj => absurd hj hnot⟩
    · rw [entered_shed_alloc]; simp only [sharingAfter, h, reduceCtorEq, if_false]
    · rw [entered_shed_alloc]; exact ⟨rfl, rfl, rfl⟩
  | gap =>
    have heq : powerOnSharing before .gap s = s := by unfold powerOnSharing; rw [h]
    rw [heq]
    refine ⟨?_, ?_, (fun hd => by cases hd), fun ha => absurd ha hactive, fun hj => absurd hj hnot⟩
    · simp only [sharingAfter, h, if_true]
    · exact ⟨rfl, rfl, rfl⟩

/-- The table of states, once power is heard and the silence timer runs again. -/
theorem powerOnSharing_moves (hline : line ≠ .none) (hheard : s.alloc.powerHeard = true) (hsilence : s.alloc.silence ≠ .expired) :
    PowerMoves before line s (powerOnSharing before line s) := by
  cases h : s.alloc.sharing with
  | isolated => exact powerMoves_isolated h
  | muted => exact powerMoves_muted h
  | silent => exact powerMoves_silent h
  | joining => exact powerMoves_joining h hheard hsilence
  | active => exact powerMoves_active h
  | gapHold => exact powerMoves_gapHold h hline

end

end Sys2Proof.Machine
end

section
/-! The figures of a POWER frame (R68), and the frame as a command. -/

namespace Sys2Proof.Machine

/-- Power is heard, and the silence timer runs from now (R68). -/
def powerArrives (s : State) : State := s.modAlloc fun a => { a with silence := s.timer 500, powerHeard := true }

/-- The budget, the surplus and the line state are taken (R68). -/
def figuresTaken (line : Line) (b : PowerBody) (s : State) : State :=
  s.modAlloc fun a =>
    { a with budget := (powerFigures line b s.alloc).1, surplus := (powerFigures line b s.alloc).2, line := line }

theorem takePower_unknown {b : PowerBody} (h : lineOf b.line = none) (s : State) : takePower b s = s := by
  unfold takePower
  rw [h]

theorem takePower_eq {b : PowerBody} {line : Line} (h : lineOf b.line = some line) (s : State) :
    takePower b s = figuresTaken line b (powerOnSharing s.alloc.line line (powerArrives s))
    ∨ takePower b s = recompute (figuresTaken line b (powerOnSharing s.alloc.line line (powerArrives s))) := by
  unfold takePower
  rw [h]
  dsimp only
  split
  · exact .inl rfl
  · exact .inr rfl

/-- What stands once a POWER frame's figures are taken, with the computation that may follow them. -/
structure FiguresFollow (line : Line) (b : PowerBody) (s t : State) : Prop where
  sharing : t.alloc.sharing = s.alloc.sharing
  timers : t.alloc.silence = s.alloc.silence ∧ t.alloc.gap = s.alloc.gap
  heard : t.alloc.powerHeard = s.alloc.powerHeard
  taken : t.alloc.line = line
  figures : t.alloc.budget = (powerFigures line b s.alloc).1 ∧ t.alloc.surplus = (powerFigures line b s.alloc).2
  usable : s.alloc.usable = .const 0 → t.alloc.usable = .const 0
  cools : s.Cools t
  fans : t.fans = s.fans

theorem figuresTaken_follow (line : Line) (b : PowerBody) (s : State) : FiguresFollow line b s (figuresTaken line b s) where
  sharing := rfl
  timers := ⟨rfl, rfl⟩
  heard := rfl
  taken := rfl
  figures := ⟨rfl, rfl⟩
  usable h := h
  cools := (State.Thins.of_eq rfl).cools
  fans := rfl

theorem FiguresFollow.recompute {line : Line} {b : PowerBody} {s t : State} (h : FiguresFollow line b s t) :
    FiguresFollow line b s (recompute t) := by
  obtain ⟨_, _, _, halloc⟩ := recompute_alloc t
  obtain ⟨hsharing, htimers, hheard, hline, hfigures, husable, hcools, hfans⟩ := h
  refine ⟨?_, ?_, ?_, ?_, ?_, fun h => ?_, hcools.trans (recompute_heat t).cools, (recompute_only t).fans_eq.trans hfans⟩
  · rw [halloc]; exact hsharing
  · rw [halloc]; exact htimers
  · rw [halloc]; exact hheard
  · rw [halloc]; exact hline
  · rw [halloc]; exact hfigures
  · rw [halloc]
    change t.alloc.usable.map₂ min t.ownShare = _
    rw [husable h, zero_map₂_min]

theorem takePower_follows {b : PowerBody} {line : Line} (h : lineOf b.line = some line) (s : State) :
    FiguresFollow line b (powerOnSharing s.alloc.line line (powerArrives s)) (takePower b s) := by
  have taken := figuresTaken_follow line b (powerOnSharing s.alloc.line line (powerArrives s))
  rcases takePower_eq h s with heq | heq
  · rw [heq]; exact taken
  · rw [heq]; exact taken.recompute

theorem lineOf_ne_none {b : Byte} {line : Line} (h : lineOf b = some line) : line ≠ .none := by
  rintro rfl
  unfold lineOf at h
  split at h <;> cases h

theorem lineOf_eq_none {b : Byte} (h : 2 < b.toNat) : lineOf b = none := by
  unfold lineOf
  split
  · omega
  · omega
  · omega
  · rfl

theorem takePower_moves {b : PowerBody} {line : Line} (h : lineOf b.line = some line) (s : State) :
    PowerMoves s.alloc.line line (powerArrives s) (powerOnSharing s.alloc.line line (powerArrives s)) :=
  powerOnSharing_moves (lineOf_ne_none h) rfl fun hexpired => by cases hexpired

/-- What a shed frame leaves goes on: the figures that follow switch nothing on. -/
theorem FiguresFollow.shed {line : Line} {b : PowerBody} {s t : State} (h : FiguresFollow line b s t) (hs : s.Shed) : t.Shed :=
  ⟨h.usable hs.1, hs.2.cools h.cools⟩

theorem powerFigures_eq (line : Line) (b : PowerBody) (a : Alloc) : powerFigures line b a =
    (if line = .gap then a.budget else b.budget.toNat, if line = .gap then 0 else b.surplus.toNat) := by
  cases line <;> rfl

theorem exec_powerFrame {s : State} (b : PowerBody) (hs : s.phase = .running) (hne : s.config.powerStation ≠ s.straps.station) :
    exec (.powerFrame s.config.powerStation b) s = .next (finish (takePower b s)) := by
  have heffect : receivePower s.config.powerStation b s = takePower b s := by
    unfold receivePower
    rw [if_neg hne, if_pos rfl]
  rw [← heffect]
  exact whileRunning_running _ s hs

/-- Settles O28: the silence timer restarts, the table of states moves, and the figures follow; what a first DEAD frame sheds
and what GAP_HOLD suspends is not switched on again by the step. -/
theorem powerFrameIsTaken : Obligations.PowerFrameIsTaken := by
  intro s b hready hne hsize cmd
  have hexec : exec cmd s = .next (finish (takePower b s)) := exec_powerFrame b hready.running hne
  refine ⟨fun hline => ⟨_, hexec, ?_⟩, ?_⟩
  · rw [takePower_unknown (lineOf_eq_none hline)]
    exact finish_closes_none s hready.settled
  · intro line hline dead hold
    refine ⟨_, hexec, ?_⟩
    obtain ⟨hmoved, ⟨hsilence, hpower, hbudget⟩, hdead, hhold, hmovedFans⟩ := takePower_moves hline s
    have hfollow := takePower_follows hline s
    obtain ⟨hsharing, ⟨htimer, hgap⟩, hheard, htaken, ⟨hbudgetTaken, hsurplusTaken⟩, -, -, hfans⟩ := takePower_follows hline s
    have hheat := takePower_heat b s
    rw [powerFigures_eq] at hbudgetTaken hsurplusTaken
    rw [finish_alloc]
    refine ⟨?_, ?_, htaken, ?_, hsurplusTaken, ?_, fun ⟨hd, hb, hi⟩ => ?_, fun hh => ?_, fun hj hc z f hf => ?_, ?_⟩
    · rw [htimer, hsilence]; rfl
    · rw [hheard, hpower]; rfl
    · rw [hbudgetTaken, hbudget]; rfl
    · have harrived : sharingAfter s.alloc.line line (powerArrives s).alloc = sharingAfter s.alloc.line line s.alloc := rfl
      rw [hsharing, hmoved, harrived]
      unfold sharingAfter
      simp only [hold]
      cases s.alloc.sharing with
      | active => simp only [true_and]
      | _ => rfl
    · obtain ⟨husable, hcold⟩ := hfollow.shed (hdead hd hb hi)
      refine ⟨husable, ?_⟩
      rw [finish_stages_of_nothingWaits (hcold.nothingWaits husable (Cools.sizes hheat.cools hsize))]
      exact hcold.mem
    · obtain ⟨hactive, hisGap, hbefore⟩ := hh
      have hin : (takePower b s).alloc.sharing = .gapHold := by
        have hafter : sharingAfter s.alloc.line line (powerArrives s).alloc = .gapHold := by
          have harrived : (powerArrives s).alloc.sharing = .active := hactive
          simp only [sharingAfter, harrived]
          exact if_pos ⟨hisGap, hbefore⟩
        rw [hsharing, hmoved, hafter]
      have hnot : (takePower b s).alloc.sharing ≠ .active := by rw [hin]; decide
      refine ⟨by rw [hgap, hhold hactive hisGap hbefore]; rfl, ?_⟩
      rw [finish_stages_of_nothingWaits (nothingWaits_of_sharing hnot)]
      exact hheat.active (fun hne => absurd hactive hne) hnot
    · obtain ⟨f', hf', hlevel⟩ := hmovedFans hj hc z f hf
      exact ⟨f', by rw [fan?_congr (finish_fans _), fan?_congr hfans]; exact hf', hlevel⟩
    · obtain ⟨_, _, _, _, _, _, _, hfinish⟩ := finish_frame (takePower b s)
      obtain ⟨_, _, _, _, _, _, _, _, honly⟩ := takePower_only b s
      rw [hfinish, honly, ← hready.settled]

end Sys2Proof.Machine
end
